-- ==== Sys2Proof/Word.lean ====
section
/-! DEFINITION. The byte, the one thing of this part that the manual treats as bits: what crosses a port
(12 R190 to R192). Every other quantity is an integer of the manual's own units (00, Quantities and units). -/

namespace Sys2Proof

/-- One byte as a port carries it. -/
abbrev Byte := BitVec 8

end Sys2Proof
end

