-- ==== Sys2Proof/Syntax.lean ====
section
/-! DEFINITION. The commands of the Dafrel DL7: one constructor of `Instr` for each row of spec/opcode_table.json,
with the row's operands. Values that a master sends are carried as it sent them (a code that names nothing is the
owning unit's to refuse); axes, fans and pins that the part itself names are of their own types. -/

namespace Sys2Proof

/-- The two control ports: the System Port is Port A, the Automation Port is Port B (00, Masters and ports). -/
inductive Port where
  | a
  | b
deriving DecidableEq, Repr

/-- The four lens axes (06). -/
inductive Axis where
  | shiftH
  | shiftV
  | zoom
  | focus
deriving DecidableEq, Repr

/-- The three fans (08). -/
inductive Fan where
  | ls
  | oe
  | ex
deriving DecidableEq, Repr

/-- The four corners (00, Names). -/
inductive Corner where
  | tl
  | tr
  | bl
  | br
deriving DecidableEq, Repr

/-- The two directions of a step output (06 R93). -/
inductive StepDir where
  | positive
  | negative
deriving DecidableEq, Repr

/-- The glitch-filtered inputs (06 R94, 08 R141, 09 R159). -/
inductive InputPin where
  | home (x : Axis)
  | index (x : Axis)
  | mdflt
  | tco
  | drvflt
  | tach (f : Fan)
deriving DecidableEq, Repr

/-- The parameters of a command: the values of a form of 12 R190, or the mark that the number of parameter bytes
matches no form of the command (10 R173, second check). -/
inductive Params (α : Type) where
  | form (v : α)
  | misfit
deriving DecidableEq, Repr

/-- The parameters of a vertex edit: the values of a form of 12 R190; those of an edit that names a vertex and then a
selector or a flag that no form has, of which only the vertex can be read; or the mark that the number of parameter
bytes matches no form (10 R173, second check). -/
inductive EditParams (α : Type) where
  | form (v : α)
  | noForm (i j : Nat)
  | misfit
deriving DecidableEq, Repr

/-- SMP_SET_TRIGGER (01 R3): mode code, divider, delay in us, free period in ms. -/
structure TriggerArgs where
  mode : Nat
  divider : Nat
  delay : Nat
  period : Nat
deriving DecidableEq, Repr

/-- SMP_SET_TABLE (01 R16): table number and its seventeen temperatures. -/
structure TableArgs where
  table : Nat
  temps : List Int
deriving DecidableEq, Repr

/-- SMP_SET_CHANNEL (01 R16): the settings of a TEMP channel, or those of an ANGLE channel. -/
inductive ChannelArgs where
  | temp (id table : Nat)
  | angle (id zeroCode scale : Nat)
deriving DecidableEq, Repr

/-- ATT_SET_PARAMS (02 R30). -/
structure AttArgs where
  deadband : Int
  vertZero : Int
  threshold : Int
  rollLimit : Int
deriving DecidableEq, Repr

/-- A pair of components, an offset or a point, in sixteenths (00, Quantities and units). -/
structure Pt where
  x : Int
  y : Int
deriving DecidableEq, Repr

/-- One value for each of the four corners, in the order TL, TR, BL, BR (00, Names). -/
structure PerCorner (α : Type) where
  tl : α
  tr : α
  bl : α
  br : α
deriving DecidableEq, Repr

/-- GEO_SET_CORNER and GEO_NUDGE_CORNER (03 R46, R47): a corner code and a pair. -/
structure CornerArgs where
  corner : Nat
  d : Pt
deriving DecidableEq, Repr

/-- The component selector of a fine-warp edit with the components it carries (04, section 4.4): dx for X, dy for
Y, both for BOTH. -/
inductive Comps where
  | x (dx : Int)
  | y (dy : Int)
  | both (dx dy : Int)
deriving DecidableEq, Repr

/-- The selector alone (FW_ZERO carries no value). -/
inductive Selector where
  | x
  | y
  | both
deriving DecidableEq, Repr

/-- FW_SET and FW_NUDGE (04 R60, R61): vertex, selected values, optional expected value of the same selector. -/
structure EditArgs where
  i : Nat
  j : Nat
  vals : Comps
  expected : Option Comps
deriving DecidableEq, Repr

/-- FW_ZERO (04 R62): vertex, selector, optional expected value. -/
structure ZeroArgs where
  i : Nat
  j : Nat
  sel : Selector
  expected : Option Comps
deriving DecidableEq, Repr

/-- MP_READ_ROWS (05 R86). -/
structure ReadArgs where
  start : Nat
  count : Nat
deriving DecidableEq, Repr

/-- JOG (06 R104): axis code, direction code, level. -/
structure JogArgs where
  axis : Nat
  dir : Nat
  level : Nat
deriving DecidableEq, Repr

/-- AXIS_SET_PARAMS (06 R109): axis code and the ten settings. -/
structure AxisArgs where
  axis : Nat
  travel : Nat
  startSpeed : Nat
  maxSpeed : Nat
  accel : Nat
  homingSpeed : Nat
  backlash : Nat
  approach : Nat
  indexPos : Nat
  indexTol : Nat
  settle : Nat
deriving DecidableEq, Repr

/-- MQ_MOVE and MQ_STEP (07 R115): axis set as a bit mask, tag, one value for each named axis in axis order. -/
structure MoveArgs where
  axes : Nat
  tag : Nat
  vals : List Int
deriving DecidableEq, Repr

/-- MQ_HOME (axis set, tag) and MQ_RECALL (slot, tag) (07 R116). -/
structure TaggedArgs where
  what : Nat
  tag : Nat
deriving DecidableEq, Repr

/-- MEM_SAVE (07 R125): slot, flag byte, and the label's characters when flag bit 1 says one is carried. -/
structure SaveArgs where
  slot : Nat
  flags : Nat
  label : List Byte
deriving DecidableEq, Repr

/-- FC_SET (07 R131). -/
structure FcArgs where
  enable : Nat
  k : Int
  tRef : Int
  limit : Int
  deadband : Int
deriving DecidableEq, Repr

/-- One point of a fan curve (08 R134): temperature and duty. -/
structure CurvePoint where
  t : Int
  d : Int
deriving DecidableEq, Repr

/-- FAN_SET_CURVE (08 R145): fan code and points. -/
structure CurveArgs where
  fan : Nat
  points : List CurvePoint
deriving DecidableEq, Repr

/-- FAN_SET_BINDING (08 R145): fan code and channel ids. -/
structure BindingArgs where
  fan : Nat
  ids : List Nat
deriving DecidableEq, Repr

/-- FAN_SET_PARAMS (08 R146). -/
structure FanArgs where
  fan : Nat
  spinFloor : Int
  quietCap : Int
  stallSpeed : Int
deriving DecidableEq, Repr

/-- FAN_SET_OFFSETS (08 R146): channel id, FLOOR offset, CEILING offset. -/
structure OffsetArgs where
  channel : Nat
  floor : Int
  ceiling : Int
deriving DecidableEq, Repr

/-- PROT_SET_PARAMS (09 R155). -/
structure ProtArgs where
  floor : Int
  rise : Int
  gain : Int
  afterrun : Int
deriving DecidableEq, Repr

/-- PROT_SET_THRESHOLDS (09 R156): channel id, Ts, Tt. -/
structure ThresholdArgs where
  channel : Nat
  ts : Int
  tt : Int
deriving DecidableEq, Repr

/-- A run of the jog timeout of an axis, by its number: the start of a jog and each refresh of it begin one (06 R104,
R106). JOG_TIMEOUT_EXPIRY says which run has expired: the model's choice (log 36). -/
structure JogRun where
  axis : Axis
  run : Nat
deriving DecidableEq, Repr

/-- The commands of the part, in the order of spec/opcode_table.json. A control-port command carries the port it
comes from and its parameters. -/
inductive Instr where
  | conversionCompletion (code : Nat)
  | frameStart
  | delayTimerExpiry
  | periodTimerExpiry
  | smpVideoWatchExpiry
  | smpSetRound (p : Port) (v : Params (List Nat))
  | smpSetTrigger (p : Port) (v : Params TriggerArgs)
  | smpSetTable (p : Port) (v : Params TableArgs)
  | smpSetChannel (p : Port) (v : Params ChannelArgs)
  | smpClearPeak (p : Port) (v : Params Nat)
  | smpReadChannel (p : Port) (v : Params Nat)
  | smpStatus (p : Port) (v : Params Unit)
  | captureLevel (p : Port) (v : Params Unit)
  | attSetOrientation (p : Port) (v : Params Nat)
  | attSetParams (p : Port) (v : Params AttArgs)
  | attStatus (p : Port) (v : Params Unit)
  | geoSetCorner (p : Port) (v : Params CornerArgs)
  | geoSetCorners (p : Port) (v : Params (PerCorner Pt))
  | geoNudgeCorner (p : Port) (v : Params CornerArgs)
  | geoZeroCorners (p : Port) (v : Params Unit)
  | geoSetMode (p : Port) (v : Params Nat)
  | geoSetFollow (p : Port) (v : Params Nat)
  | geoSetPanel (p : Port) (v : Params Pt)
  | geoSetZoomTable (p : Port) (v : Params (List Nat))
  | geoClearClip (p : Port) (v : Params Unit)
  | geoStatus (p : Port) (v : Params Unit)
  | computationCompletion
  | fwSet (p : Port) (v : EditParams EditArgs)
  | fwNudge (p : Port) (v : EditParams EditArgs)
  | fwZero (p : Port) (v : EditParams ZeroArgs)
  | fwZeroAll (p : Port) (v : Params Unit)
  | fwSetLimit (p : Port) (v : Params Nat)
  | fwEnable (p : Port) (v : Params Nat)
  | fwRead (p : Port) (v : Params Nat)
  | meshStatus (p : Port) (v : Params Unit)
  | presVideoWatchExpiry
  | mpStatus
  | mpReadRows (v : Params ReadArgs)
  | mpSetFormat (v : Params Nat)
  | mpUnknownCommand (cmd : Byte)
  | mcsnRelease
  | legEnd (x : Axis)
  | stopDecelerationEnd (x : Axis)
  | settleTimeExpiry (x : Axis)
  | homeSwitchEdge (x : Axis)
  | homeTimeout (x : Axis)
  | indexEdge (x : Axis)
  | mdfltActivation
  | mdfltDeassertion
  | jog (p : Port) (v : Params JogArgs)
  | jogSoftLimitReached (x : Axis)
  | jogTimeoutExpiry (x : JogRun)
  | jogStopEnd (x : Axis)
  | jogEnd (p : Port) (v : Params Nat)
  | stop (p : Port) (v : Params Nat)
  | axisSetParams (p : Port) (v : Params AxisArgs)
  | axisSetJog (p : Port) (v : Params Nat)
  | axisStatus (p : Port) (v : Params Unit)
  | axisReadParams (p : Port) (v : Params Nat)
  | mqMove (p : Port) (v : Params MoveArgs)
  | mqStep (p : Port) (v : Params MoveArgs)
  | mqHome (p : Port) (v : Params TaggedArgs)
  | mqRecall (p : Port) (v : Params TaggedArgs)
  | flush (p : Port) (v : Params Unit)
  | mqStatus (p : Port) (v : Params Unit)
  | mqOutcomes (p : Port) (v : Params Unit)
  | memSave (p : Port) (v : Params SaveArgs)
  | memDelete (p : Port) (v : Params Nat)
  | memRead (p : Port) (v : Params Nat)
  | memSetPoweron (p : Port) (v : Params Nat)
  | fcSet (p : Port) (v : Params FcArgs)
  | fcStatus (p : Port) (v : Params Unit)
  | fanControlPeriod
  | spinupTimerExpiry (f : Fan)
  | tachEdge (f : Fan)
  | tachWindowEnd (f : Fan)
  | stopTimerExpiry (f : Fan)
  | fanSetQuiet (p : Port) (v : Params Nat)
  | fanClear (p : Port) (v : Params Nat)
  | fanSetCurve (p : Port) (v : Params CurveArgs)
  | fanSetBinding (p : Port) (v : Params BindingArgs)
  | fanSetParams (p : Port) (v : Params FanArgs)
  | fanSetOffsets (p : Port) (v : Params OffsetArgs)
  | fanSetSlew (p : Port) (v : Params Int)
  | fanStatus (p : Port) (v : Params Unit)
  | fanReadSettings (p : Port) (v : Params Nat)
  | protectionPeriodExpiry
  | tcoActivation
  | drvfltActivation
  | tcoDeassertion
  | drvfltDeassertion
  | afterrunTimerExpiry
  | light (p : Port) (v : Params Nat)
  | clearTrip (p : Port) (v : Params Unit)
  | protSetParams (p : Port) (v : Params ProtArgs)
  | protSetThresholds (p : Port) (v : Params ThresholdArgs)
  | protReadSettings (p : Port) (v : Params Unit)
  | protStatus (p : Port) (v : Params Unit)
  | i2cWriteOverflow
  | uartByteReceived (b : Byte) (stopBit : Bool)
  | interbyteGapExpiry
  | txFrameSent
  | unknownCommand (p : Port) (id : Byte)
  | readEvents (p : Port) (v : Params Unit)
  | setEventMask (p : Port) (v : Params Nat)
  | ident (p : Port) (v : Params Unit)
  | portStatus (p : Port) (v : Params Unit)
  | setRights (p : Port) (v : Params Nat)
  | saveSettings (p : Port) (v : Params Unit)
  | saveCompletion
  | storeStatus (p : Port) (v : Params Unit)
  | setAutohome (p : Port) (v : Params Nat)
  | reset (p : Port) (v : Params Unit)
  | powerOnReset
  | powerLoss
  | rstnLow
  | rstnRise
  | loadCompletion
  | rawLevelChange (pin : InputPin) (level : Bool)
  | stepIssued (x : Axis) (d : StepDir)
deriving DecidableEq, Repr

end Sys2Proof
end

