-- ==== Sys2Proof/Decode.lean ====
section
/-! DEFINITION. The commands that a word spells by the bits of spec/opcode_table.json. No row of the table gives bits
(each has an empty list of fields), so no word spells a command. The bytes that a master sends are read by the
operand forms of Machine/Operands.lean (12 R190). -/

namespace Sys2Proof

/-- The command of a table word: none, for every row of the table is without bits. -/
def decodeTableWord (_nbits _w : Nat) : Option Instr := none

end Sys2Proof
end

