-- ==== Sys2Proof/Machine/Arith.lean ====
section
/-! DEFINITION. The arithmetic of the manual (00, Arithmetic), the records of like things with their read and
write, and the two cyclic redundancy checks (10 R171, 11 R182). -/

namespace Sys2Proof.Machine

/-- "Round": nearest integer, halves toward positive infinity, of n / d for positive d (00, Arithmetic):
the floor of n / d + 1/2. -/
def roundDiv (n d : Int) : Int := (2 * n + d) / (2 * d)

/-- The least whole number at or above n / d, for positive d. -/
def ceilDiv (n d : Int) : Int := -((-n) / d)

/-- "Clamp x to a to b" (00, Arithmetic). -/
def clamp (a b x : Int) : Int := if x < a then a else if b < x then b else x

/-- x lies in the inclusive range a to b. -/
def within (a b x : Int) : Bool := decide (a ≤ x ∧ x ≤ b)

/-- Magnitude. -/
def mag (x : Int) : Int := if x < 0 then -x else x

/-- The rounded mean of the values held; absent when there is none (01 R14, 02 R19). -/
def meanOf (l : List Int) : Option Int :=
  if l.isEmpty then none else some (roundDiv l.sum l.length)

/-- Append to a history of at most n values: the oldest is removed first when it is full (01 R14, 02 R19, 07 R121). -/
def pushWindow {α : Type} (n : Nat) (l : List α) (x : α) : List α :=
  (if n ≤ l.length then l.drop (l.length + 1 - n) else l) ++ [x]

/-- One value for each lens axis. -/
structure PerAxis (α : Type) where
  shiftH : α
  shiftV : α
  zoom : α
  focus : α
deriving DecidableEq, Repr

def PerAxis.get {α : Type} (v : PerAxis α) : Axis → α
  | .shiftH => v.shiftH
  | .shiftV => v.shiftV
  | .zoom => v.zoom
  | .focus => v.focus

def PerAxis.set {α : Type} (v : PerAxis α) (x : Axis) (a : α) : PerAxis α :=
  match x with
  | .shiftH => { v with shiftH := a }
  | .shiftV => { v with shiftV := a }
  | .zoom => { v with zoom := a }
  | .focus => { v with focus := a }

def PerAxis.map {α β : Type} (f : Axis → α → β) (v : PerAxis α) : PerAxis β :=
  { shiftH := f .shiftH v.shiftH, shiftV := f .shiftV v.shiftV, zoom := f .zoom v.zoom, focus := f .focus v.focus }

def PerAxis.const {α : Type} (a : α) : PerAxis α := { shiftH := a, shiftV := a, zoom := a, focus := a }

/-- The axes in the order of their codes (12, enumerations). -/
def allAxes : List Axis := [.shiftH, .shiftV, .zoom, .focus]

/-- One value for each fan. -/
structure PerFan (α : Type) where
  ls : α
  oe : α
  ex : α
deriving DecidableEq, Repr

def PerFan.get {α : Type} (v : PerFan α) : Fan → α
  | .ls => v.ls
  | .oe => v.oe
  | .ex => v.ex

def PerFan.set {α : Type} (v : PerFan α) (f : Fan) (a : α) : PerFan α :=
  match f with
  | .ls => { v with ls := a }
  | .oe => { v with oe := a }
  | .ex => { v with ex := a }

def PerFan.map {α β : Type} (g : Fan → α → β) (v : PerFan α) : PerFan β :=
  { ls := g .ls v.ls, oe := g .oe v.oe, ex := g .ex v.ex }

def PerFan.const {α : Type} (a : α) : PerFan α := { ls := a, oe := a, ex := a }

/-- The fans in the order of their codes (12, enumerations). -/
def allFans : List Fan := [.ls, .oe, .ex]

end Sys2Proof.Machine

namespace Sys2Proof

def PerCorner.get {α : Type} (v : PerCorner α) : Corner → α
  | .tl => v.tl
  | .tr => v.tr
  | .bl => v.bl
  | .br => v.br

def PerCorner.set {α : Type} (v : PerCorner α) (c : Corner) (a : α) : PerCorner α :=
  match c with
  | .tl => { v with tl := a }
  | .tr => { v with tr := a }
  | .bl => { v with bl := a }
  | .br => { v with br := a }

def PerCorner.map {α β : Type} (f : α → β) (v : PerCorner α) : PerCorner β :=
  { tl := f v.tl, tr := f v.tr, bl := f v.bl, br := f v.br }

def PerCorner.const {α : Type} (a : α) : PerCorner α := { tl := a, tr := a, bl := a, br := a }

def PerCorner.all {α : Type} (p : α → Bool) (v : PerCorner α) : Bool := p v.tl && p v.tr && p v.bl && p v.br

end Sys2Proof

namespace Sys2Proof.Machine

/-- One value for each control port. -/
structure PerPort (α : Type) where
  a : α
  b : α
deriving DecidableEq, Repr

def PerPort.get {α : Type} (v : PerPort α) : Port → α
  | .a => v.a
  | .b => v.b

def PerPort.set {α : Type} (v : PerPort α) (p : Port) (y : α) : PerPort α :=
  match p with
  | .a => { v with a := y }
  | .b => { v with b := y }

/-- The three ANGLE channels (00, Channels). -/
inductive AngleCh where
  | pitch
  | roll
  | vert
deriving DecidableEq, Repr

/-- One value for each ANGLE channel. -/
structure PerAngle (α : Type) where
  pitch : α
  roll : α
  vert : α
deriving DecidableEq, Repr

def PerAngle.get {α : Type} (v : PerAngle α) : AngleCh → α
  | .pitch => v.pitch
  | .roll => v.roll
  | .vert => v.vert

def PerAngle.set {α : Type} (v : PerAngle α) (c : AngleCh) (y : α) : PerAngle α :=
  match c with
  | .pitch => { v with pitch := y }
  | .roll => { v with roll := y }
  | .vert => { v with vert := y }

/-- Write one place of a fixed row of values, when the index is one of its places. -/
def setAt {α : Type} {n : Nat} (v : Vector α n) (i : Nat) (a : α) : Vector α n :=
  if h : i < n then v.set i a h else v

/-- A list of exactly n values as a fixed row. -/
def rowOf {α : Type} (n : Nat) (l : List α) : Option (Vector α n) :=
  if h : l.length = n then some ⟨l.toArray, by simp [h]⟩ else none

/-- The bits of a mask that name the ids below n (12, "A set of ids is a bit mask"). -/
def maskBits (n m : Nat) : Vector Bool n := Vector.ofFn fun i : Fin n => m.testBit i.val

/-- The mask of a set of ids. -/
def maskOf {n : Nat} (v : Vector Bool n) : Nat :=
  (v.toList.foldr (fun b m => 2 * m + (if b then 1 else 0)) 0)

/-- One bit of a cyclic redundancy check, most significant bit first. -/
def crc8Shift (c : BitVec 8) : BitVec 8 :=
  if c.msb then (c <<< 1) ^^^ 0x07#8 else c <<< 1

/-- One byte into the CRC-8 (10 R171: polynomial x^8 + x^2 + x + 1). -/
def crc8Byte (c : BitVec 8) (b : Byte) : BitVec 8 :=
  Nat.repeat crc8Shift 8 (c ^^^ b)

/-- The CRC-8 of a run of bytes, initial value 0 (10 R171). -/
def crc8 (l : List Byte) : BitVec 8 := l.foldl crc8Byte 0#8

/-- One bit of the reflected CRC-32 (11 R182: polynomial 0x04C11DB7 reflected is 0xEDB88320). -/
def crc32Shift (c : BitVec 32) : BitVec 32 :=
  if c.getLsbD 0 then (c >>> 1) ^^^ 0xEDB88320#32 else c >>> 1

def crc32Byte (c : BitVec 32) (b : Byte) : BitVec 32 :=
  Nat.repeat crc32Shift 8 (c ^^^ b.setWidth 32)

/-- The CRC-32 of a run of bytes: initial value all ones, input and output reflected, final inversion (11 R182). -/
def crc32 (l : List Byte) : BitVec 32 := ~~~ (l.foldl crc32Byte 0xFFFFFFFF#32)

end Sys2Proof.Machine
end

