-- ==== Sys2Proof/Machine/Settings.lean ====
section
/-! DEFINITION. The settings in force of every unit: exactly the retained contents of 11, section 11.1. The checks
are those of the setting commands; the load applies the same ones to an image (11 R182). -/

namespace Sys2Proof.Machine

inductive TrigMode where
  | sync
  | free
deriving DecidableEq, Repr

/-- The trigger settings (01, section 1.3). -/
structure TriggerSettings where
  mode : TrigMode
  divider : Nat
  delay : Nat
  period : Nat
deriving DecidableEq, Repr

/-- The settings of an ANGLE channel (01 R13). -/
structure AngleSettings where
  zeroCode : Int
  scale : Int
deriving DecidableEq, Repr

/-- The orientation setting (02 R26). -/
inductive OrientSetting where
  | floor
  | ceiling
  | auto
deriving DecidableEq, Repr

/-- The four settings of 02 R30. -/
structure AttSettings where
  deadband : Int
  vertZero : Int
  threshold : Int
  rollLimit : Int
deriving DecidableEq, Repr

/-- The geometry parameter record (03, section 3.1). `corners` is the mode: true for CORNERS, false for OFF. -/
structure GeoRecord where
  width : Int
  height : Int
  corners : Bool
  offsets : PerCorner Pt
  follow : Bool
  coeff : Vector Int 8
  fineWarp : Bool
  fineLimit : Int
deriving DecidableEq, Repr

/-- The fine-warp layer: entry (i, j) stands at 17 * j + i (04 R56). -/
abbrev FineLayer := Vector Pt 153

/-- The ten settings of an axis (06 R93). -/
structure AxisSettings where
  travel : Int
  startSpeed : Int
  maxSpeed : Int
  accel : Int
  homingSpeed : Int
  backlash : Int
  approach : StepDir
  indexPos : Int
  indexTol : Int
  settle : Int
deriving DecidableEq, Repr

/-- A FILLED slot of the Lens Memory Table (07 R124). -/
structure SlotRec where
  label : Option (List Byte)
  shiftH : Int
  shiftV : Int
  zoom : Int
  focusUser : Int
  offsets : Option (PerCorner Pt)
deriving DecidableEq, Repr

/-- The settings of Focus Compensation (07, section 7.5). -/
structure FcSettings where
  enable : Bool
  k : Int
  tRef : Int
  limit : Int
  deadband : Int
deriving DecidableEq, Repr

/-- The settings of a fan (08 R133). -/
structure FanSettings where
  curve : List CurvePoint
  bound : Vector Bool 7
  spinFloor : Int
  quietCap : Int
  stallSpeed : Int
deriving DecidableEq, Repr

/-- The orientation offsets of a TEMP channel (08 R133). -/
structure OrientOffsets where
  floor : Int
  ceiling : Int
deriving DecidableEq, Repr

/-- The thresholds of a TEMP channel (09). -/
structure Threshold where
  ts : Int
  tt : Int
deriving DecidableEq, Repr

/-- The four settings of 09 R155: floor, rise rate, shortfall gain, afterrun time in s. -/
structure ProtSettings where
  floor : Int
  rise : Int
  gain : Int
  afterrun : Int
deriving DecidableEq, Repr

/-- A set of rights (10 R174). -/
structure Rights where
  motion : Bool
  geometry : Bool
  cooling : Bool
  config : Bool
  store : Bool
deriving DecidableEq, Repr

/-- The retained contents of the part (11, section 11.1), as in force. -/
structure Settings where
  round : List (Fin 10)
  trigger : TriggerSettings
  tables : Vector (Vector Int 17) 4
  tempTable : Vector (Fin 4) 7
  angle : PerAngle AngleSettings
  att : AttSettings
  orientation : OrientSetting
  pRef : Int
  geo : GeoRecord
  layer : FineLayer
  axes : PerAxis AxisSettings
  jogTimeout : Int
  slots : Vector (Option SlotRec) 10
  powerOn : Option (Fin 10)
  fc : FcSettings
  fans : PerFan FanSettings
  offsets : Vector OrientOffsets 7
  slew : Int
  quiet : Bool
  thresholds : Vector Threshold 7
  prot : ProtSettings
  rights : Rights
  autoHome : Bool
deriving DecidableEq, Repr

/-- The range of a temperature (00, Quantities and units). -/
def tempOk (t : Int) : Bool := within (-400) 1500 t

/-- 01 R2. -/
def roundOk (l : List (Fin 10)) : Bool := decide (1 ≤ l.length ∧ l.length ≤ 16)

/-- 01, section 1.3. -/
def TriggerSettings.ok (t : TriggerSettings) : Bool :=
  decide (1 ≤ t.divider ∧ t.divider ≤ 16 ∧ t.delay ≤ 10000 ∧ 5 ≤ t.period ∧ t.period ≤ 1000)

/-- 01 R16. -/
def tableOk (t : Vector Int 17) : Bool := t.toList.all tempOk

/-- 01 R16. -/
def AngleSettings.ok (g : AngleSettings) : Bool := within 0 4095 g.zeroCode && within 1 1023 g.scale

/-- 02 R30. -/
def AttSettings.ok (g : AttSettings) : Bool :=
  within 5 100 g.deadband && within (-9000) 9000 g.vertZero && within 1000 8000 g.threshold
    && within 100 3000 g.rollLimit

/-- Each component of a corner offset lies within +-15360 (03, section 3.1; 07, section 7.4). -/
def offsetOk (d : Pt) : Bool := within (-15360) 15360 d.x && within (-15360) 15360 d.y

/-- 03 R49. -/
def panelOk (w h : Int) : Bool := within 1280 4096 w && within 720 2400 h

/-- 03 R50. -/
def coeffOk (c : Vector Int 8) : Bool := c.toList.all (within 0 1023)

/-- The ranges of 03, section 3.1. That the corner offsets are held to theirs, which their commands clamp and do not
refuse (03 R46, R47), is the model's choice (log 13). -/
def GeoRecord.ok (g : GeoRecord) : Bool :=
  panelOk g.width g.height && g.offsets.all offsetOk && coeffOk g.coeff && within 0 2048 g.fineLimit

/-- "Every fine-warp component lies within +- the fine limit in force" (04 R56). -/
def layerOk (limit : Int) (l : FineLayer) : Bool :=
  l.toList.all fun d => within (-limit) limit d.x && within (-limit) limit d.y

/-- 06 R109: the ranges and the joint checks. -/
def AxisSettings.ok (g : AxisSettings) : Bool :=
  within 1000 65000 g.travel && within 50 5000 g.startSpeed && within g.startSpeed 20000 g.maxSpeed
    && within 500 100000 g.accel && within 50 g.startSpeed g.homingSpeed && within 0 255 g.backlash
    && within 0 g.travel g.indexPos && within 4 255 g.indexTol && within 0 1000 g.settle

/-- 06 R109. -/
def jogTimeoutOk (t : Int) : Bool := within 100 1000 t

/-- A label is 1 to 12 characters from space to tilde (07 R125). -/
def labelOk (l : List Byte) : Bool :=
  decide (1 ≤ l.length ∧ l.length ≤ 12) && l.all fun c => decide (32 ≤ c.toNat ∧ c.toNat ≤ 126)

/-- The check of a label that MEM_SAVE makes (07 R125), and the range of the corner offsets of a slot (07, section 7.4),
which it copies without a check: that an image is held to that range is the model's choice (log 13). -/
def SlotRec.ok (r : SlotRec) : Bool :=
  (match r.label with | none => true | some l => labelOk l)
    && (match r.offsets with | none => true | some d => d.all offsetOk)

/-- 07 R131. -/
def FcSettings.ok (g : FcSettings) : Bool :=
  within (-255) 255 g.k && tempOk g.tRef && within 0 2000 g.limit && within 1 255 g.deadband

/-- The temperatures of a curve strictly increase (08 R134). -/
def increasing : List CurvePoint → Bool
  | [] => true
  | [_] => true
  | p :: q :: rest => decide (p.t < q.t) && increasing (q :: rest)

/-- 08 R145. -/
def curveOk (c : List CurvePoint) : Bool :=
  decide (2 ≤ c.length ∧ c.length ≤ 6) && c.all (fun p => tempOk p.t && within 0 1000 p.d) && increasing c

/-- 08 R145: a bound set is not empty. -/
def boundOk (b : Vector Bool 7) : Bool := b.toList.any id

/-- 08 R146. -/
def fanParamsOk (spinFloor quietCap stallSpeed : Int) : Bool :=
  within 150 600 spinFloor && (decide (quietCap = 0) || within spinFloor 1000 quietCap)
    && within 60 3000 stallSpeed

/-- 08 R133. -/
def FanSettings.ok (g : FanSettings) : Bool :=
  curveOk g.curve && boundOk g.bound && fanParamsOk g.spinFloor g.quietCap g.stallSpeed

/-- 08 R146. -/
def OrientOffsets.ok (g : OrientOffsets) : Bool := within (-200) 200 g.floor && within (-200) 200 g.ceiling

/-- 08 R146. -/
def slewOk (s : Int) : Bool := within 1 1000 s

/-- 09 R156. -/
def Threshold.ok (g : Threshold) : Bool := tempOk g.ts && tempOk g.tt && decide (50 ≤ g.tt - g.ts)

/-- 09 R155. -/
def ProtSettings.ok (g : ProtSettings) : Bool :=
  within 200 800 g.floor && within 10 1000 g.rise && within 0 255 g.gain && within 0 300 g.afterrun

/-- Every value passes the checks that its setting command makes (11 R182). The enumerated settings and the bounded
ids are of types that hold nothing else; p_ref and the positions of a slot are written without a check of their
value, by CAPTURE_LEVEL (02 R22) and MEM_SAVE (07 R125). The corner offsets, which no command refuses either, are held
to their range: the model's choice (log 13). -/
def Settings.sound (g : Settings) : Bool :=
  roundOk g.round && g.trigger.ok && g.tables.toList.all tableOk
    && g.angle.pitch.ok && g.angle.roll.ok && g.angle.vert.ok && g.att.ok && g.geo.ok
    && layerOk g.geo.fineLimit g.layer
    && g.axes.shiftH.ok && g.axes.shiftV.ok && g.axes.zoom.ok && g.axes.focus.ok && jogTimeoutOk g.jogTimeout
    && g.slots.toList.all (fun r => match r with | none => true | some q => q.ok)
    && g.fc.ok && g.fans.ls.ok && g.fans.oe.ok && g.fans.ex.ok
    && g.offsets.toList.all OrientOffsets.ok && slewOk g.slew
    && g.thresholds.toList.all Threshold.ok && g.prot.ok

/-- The content of every linearisation table after a load of defaults (01 R12). -/
def defaultTable : Vector Int 17 :=
  #v[1500, 1180, 960, 820, 710, 620, 515, 450, 390, 330, 270, 210, 150, 80, 0, -110, -400]

/-- The defaults of the record (03, section 3.1). -/
def defaultGeo : GeoRecord :=
  { width := 3840, height := 2160, corners := false, offsets := PerCorner.const ⟨0, 0⟩, follow := false,
    coeff := #v[512, 544, 576, 608, 640, 672, 704, 736], fineWarp := true, fineLimit := 512 }

/-- The defaults of the axis settings (06 R93). -/
def defaultAxes : PerAxis AxisSettings :=
  { shiftH := { travel := 20000, startSpeed := 200, maxSpeed := 2000, accel := 8000, homingSpeed := 150,
                backlash := 40, approach := .positive, indexPos := 10000, indexTol := 24, settle := 150 },
    shiftV := { travel := 16000, startSpeed := 200, maxSpeed := 2000, accel := 8000, homingSpeed := 150,
                backlash := 40, approach := .positive, indexPos := 8000, indexTol := 24, settle := 150 },
    zoom := { travel := 40000, startSpeed := 400, maxSpeed := 4000, accel := 20000, homingSpeed := 300,
              backlash := 60, approach := .positive, indexPos := 20000, indexTol := 24, settle := 150 },
    focus := { travel := 30000, startSpeed := 300, maxSpeed := 3000, accel := 15000, homingSpeed := 200,
               backlash := 30, approach := .negative, indexPos := 15000, indexTol := 24, settle := 150 } }

/-- The defaults of the fan settings (08 R133). Channels: T_LS 0, T_OE 1, T_PN 2, T_PS 3, T_IN 4, T_EX 5, T_LB 6. -/
def defaultFans : PerFan FanSettings :=
  { ls := { curve := [⟨500, 300⟩, ⟨650, 550⟩, ⟨750, 1000⟩],
            bound := #v[true, false, false, true, false, false, false],
            spinFloor := 250, quietCap := 450, stallSpeed := 300 },
    oe := { curve := [⟨350, 250⟩, ⟨500, 500⟩, ⟨650, 1000⟩],
            bound := #v[false, true, true, false, false, false, true],
            spinFloor := 250, quietCap := 450, stallSpeed := 300 },
    ex := { curve := [⟨300, 0⟩, ⟨400, 300⟩, ⟨550, 800⟩, ⟨650, 1000⟩],
            bound := #v[false, false, false, true, true, true, false],
            spinFloor := 250, quietCap := 450, stallSpeed := 300 } }

/-- The settings when the store is loaded with defaults (11 R183 and the tables of the chapters). -/
def defaultSettings : Settings :=
  { round := [0, 1, 2, 3, 4, 5, 6, 7, 8, 9, 7, 9],
    trigger := { mode := .sync, divider := 1, delay := 2000, period := 20 },
    tables := #v[defaultTable, defaultTable, defaultTable, defaultTable],
    tempTable := #v[0, 0, 0, 0, 0, 0, 0],
    angle := { pitch := ⟨2048, 281⟩, roll := ⟨2048, 281⟩, vert := ⟨2048, 281⟩ },
    att := { deadband := 10, vertZero := 0, threshold := 4500, rollLimit := 300 },
    orientation := .auto,
    pRef := 0,
    geo := defaultGeo,
    layer := Vector.replicate 153 ⟨0, 0⟩,
    axes := defaultAxes,
    jogTimeout := 250,
    slots := Vector.replicate 10 none,
    powerOn := none,
    fc := { enable := false, k := 0, tRef := 400, limit := 400, deadband := 8 },
    fans := defaultFans,
    offsets := #v[⟨0, 20⟩, ⟨0, 20⟩, ⟨0, 10⟩, ⟨0, 0⟩, ⟨0, 0⟩, ⟨0, 15⟩, ⟨0, 0⟩],
    slew := 20,
    quiet := false,
    thresholds := #v[⟨650, 800⟩, ⟨700, 850⟩, ⟨550, 650⟩, ⟨700, 850⟩, ⟨400, 500⟩, ⟨550, 700⟩, ⟨500, 650⟩],
    prot := { floor := 350, rise := 50, gain := 24, afterrun := 90 },
    rights := { motion := true, geometry := true, cooling := false, config := false, store := false },
    autoHome := true }

end Sys2Proof.Machine
end

