-- ==== Sys2Proof/Config.lean ====
section
/-! DEFINITION. What an implementation fixes and the spec does not say: free values. None of them has a body, so no
proof rests on a choice. -/

namespace Sys2Proof

/-- A free value: what a reading of a running timer yields, before it is brought within the timer's load. The
argument counts the readings (log 3, 4). UNVERIFIED: safe, nothing is assumed of it. -/
opaque Config.freeTime : Nat → Nat

/-- The bytes of the non-volatile image that hold a save's contents and its save count; "the byte layout of the
image is not visible to any master" (11 R182, log 13). UNVERIFIED: safe, nothing is assumed of it. -/
opaque Config.imageBytes : Machine.Settings → Nat → List Byte

end Sys2Proof
end

