-- ==== Sys2Proof/Machine/State.lean ====
section
/-! DEFINITION. The state of the part, as plain data: every piece of state of INVENTORY.md, unit by unit, and the
state right after a power-on reset. -/

namespace Sys2Proof.Machine

/-- A stop with a fault. NO MEANING RAISES IT: the spec gives every command an effect in every state, and its own
faults (a sensor in FAULT, an axis in LOST or FAULT, a FAILED fan, the trip) are states of its units. Safe: a stop
where the part goes on could only make a claim unprovable. -/
inductive Fault where
  /-- Raised by no meaning; it stands for a stop of the part as a whole, which the spec does not know. Safe. -/
  | stopped
deriving DecidableEq, Repr

/-- A refusal: no meaning for a command. -/
inductive Refusal where
  /-- Raised by an arm of exec whose command has no meaning yet, by the command's mnemonic. Safe: nothing is claimed
  of such a command. -/
  | notModelled (mnemonic : String)
deriving DecidableEq, Repr

/-! ## Sampling Unit (01) -/

inductive Validity where
  | new
  | valid
  | fault
deriving DecidableEq, Repr

/-- A channel record (01, section 1.5). -/
structure ChannelRec where
  lastCode : Nat
  validity : Validity
  invalidRun : Nat
  validRun : Nat
  history : List Int
  filtered : Option Int
  peak : Int
deriving DecidableEq, Repr

inductive TrigState where
  | syncLocked
  | syncFallback
  | freeRun
deriving DecidableEq, Repr

/-- The Sampling Unit (01, section 1.3 and R8). `round` holds the entries of the round snapshot still to convert:
its head is the channel being converted, and it is empty while no round is in progress. -/
structure Sampling where
  records : Vector ChannelRec 10
  trigState : TrigState
  divCount : Nat
  delayRunning : Bool
  periodRunning : Bool
  video : Bool
  overrun : Bool
  roundCount : Nat
  round : List (Fin 10)
deriving DecidableEq, Repr

/-! ## Attitude Unit (02) -/

inductive Orientation where
  | floor
  | ceiling
deriving DecidableEq, Repr

structure Attitude where
  windows : PerAngle (List Int)
  pApp : Int
  refused : Option Int
  effective : Orientation
  count : Nat
  rollRaised : Bool
deriving DecidableEq, Repr

/-! ## Geometry Unit (03) -/

inductive Comp where
  | x
  | y
deriving DecidableEq, Repr

/-- The clip watch (03, section 3.5): CLEAR, or LATCHED with the record of the first clamp. -/
inductive ClipWatch where
  | clear
  | corner (c : Corner) (k : Comp)
  | vertex (i j : Nat) (k : Comp)
deriving DecidableEq, Repr

structure Geometry where
  corners : PerCorner Pt
  clamped : Bool
  inset : Int
  band : Nat
  held : Bool
  clip : ClipWatch
deriving DecidableEq, Repr

/-! ## Mesh Engine (04) and Presentation Unit (05) -/

inductive BankId where
  | a
  | b
deriving DecidableEq, Repr

/-- What a computation reads at its start (04 R68). -/
structure Snapshot where
  corners : PerCorner Pt
  layer : FineLayer
  fineWarp : Bool
  width : Int
  height : Int
  orient : Orientation
deriving DecidableEq, Repr

/-- IDLE, or COMPUTING into a build bank from a snapshot: the build bank and the snapshot are absent in IDLE. -/
inductive EngineState where
  | idle
  | computing (bank : BankId) (snap : Snapshot)
deriving DecidableEq, Repr

structure Engine where
  state : EngineState
  pendingReq : Bool
  restarts : Nat
  allDirty : Bool
  clampCount : Nat
deriving DecidableEq, Repr

inductive BankState where
  | empty
  | writing
  | ready
  | live
  | reading
deriving DecidableEq, Repr

/-- 153 vertices: vertex (i, j) stands at 17 * j + i (04 R53). -/
abbrev Mesh := Vector Pt 153

/-- A set of mesh rows 0 to 8. -/
abbrev RowSet := Vector Bool 9

/-- A bank record (05 R75). -/
structure Bank where
  state : BankState
  mesh : Mesh
  width : Int
  height : Int
  dirty : RowSet
deriving DecidableEq, Repr

structure PerBank where
  a : Bank
  b : Bank
deriving DecidableEq, Repr

inductive SwapState where
  | none
  | waiting
  | deferred
deriving DecidableEq, Repr

inductive Format where
  | wide
  | narrow
deriving DecidableEq, Repr

/-- A Mesh Port transaction (05 R84, R91): chip select released; asserted, with no command byte yet, which is a level
at the pin that no arrival sets (log 15); a command byte taken, so that further bytes are ignored; or abandoned by a
reset and ignored until the release. -/
inductive Trans where
  | none
  | selected
  | taken
  | ignored
deriving DecidableEq, Repr

/-- The Presentation Unit. `miso` is the model's own record of the bytes driven in the transaction from its command
byte on (12 R192); every byte the part drives beyond them is 0xFF. -/
structure Presentation where
  banks : PerBank
  swap : SwapState
  generation : Nat
  reported : RowSet
  saturated : RowSet
  selected : Format
  presented : Format
  video : Bool
  mattn : Bool
  trans : Trans
  miso : List Byte
deriving DecidableEq, Repr

/-! ## Axis Drive Unit (06) -/

inductive AxisState where
  | unhomed
  | homing
  | idle
  | moving
  | jog
  | settling
  | lost
  | fault
deriving DecidableEq, Repr

inductive Leg where
  | none
  | leg1
  | leg2
  | stopping
  | release
  | seek
  | run
  | hold
deriving DecidableEq, Repr

inductive FaultReason where
  | none
  | homeTimeout
  | driver
deriving DecidableEq, Repr

/-- An axis record (06 R93). `running` is the serial number of the request the axis belongs to. `jogTimer` is the
load of the running jog timeout in ms, and `jogRun` the number of its starts and restarts (log 36). `jogMap` is the
orientation whose mapping the jog took at its start (06 R105). `dir` is the direction output, `legStart` and `legEnd`
the leg planned (06 R96). Of the jog run in progress `jogSlow` and `jogFast` are the least and the greatest square of
the speed at its last step, `jogLow` and `jogPeak` the lowest and the highest speed aimed at since. `stopLo` and
`stopHi` are the least and greatest whole steps from `legStart` at which a deceleration in progress can come to rest
(log 8). -/
structure AxisRec where
  state : AxisState
  position : Int
  target : Option Int
  leg : Leg
  running : Option Nat
  jogOwner : Option Port
  jogDir : StepDir
  jogLevel : Nat
  jogTimer : Option Int
  jogRun : Nat
  jogMap : Orientation
  jogPeak : Int
  jogLow : Int
  jogSlow : Int
  jogFast : Int
  homingCount : Nat
  reason : FaultReason
  indexError : Option Int
  dir : StepDir
  legStart : Int
  legEnd : Int
  stopLo : Int
  stopHi : Int
deriving DecidableEq, Repr

/-- A glitch-filtered input (06 R94): the filter runs while the raw level differs from the filtered level; `edgePos`
is the axis position recorded when it started. -/
structure Filtered where
  raw : Bool
  level : Bool
  edgePos : Int
deriving DecidableEq, Repr

structure Inputs where
  home : PerAxis Filtered
  index : PerAxis Filtered
  mdflt : Filtered
  tco : Filtered
  drvflt : Filtered
  tach : PerFan Filtered
deriving DecidableEq, Repr

/-! ## Motion Queue and Focus Compensation (07) -/

inductive Source where
  | portA
  | portB
  | comp
  | start
deriving DecidableEq, Repr

inductive Kind where
  | move
  | step
  | home
  | recall
  | comp
deriving DecidableEq, Repr

/-- A request record (07, section 7.1). `dispatched` is its state (RUNNING, or WAITING), `failed` says that one of
its axes failed (06 R103), `focusStart` is the FOCUS position at its dispatch (07 R130), and `serial` is the model's
name of the request. -/
structure Request where
  serial : Nat
  source : Source
  kind : Kind
  axes : PerAxis Bool
  targets : PerAxis (Option Int)
  slot : Nat
  payload : Option (PerCorner Pt)
  compTarget : Int
  tag : Option Nat
  dispatched : Bool
  stopped : Bool
  failed : Bool
  focusStart : Int
deriving DecidableEq, Repr

inductive Outcome where
  | done
  | doneNoGeometry
  | geomRefused
  | aborted
  | fault
  | emptySlot
deriving DecidableEq, Repr

/-- An entry of an outcome list (07 R121). -/
structure OutcomeEntry where
  tag : Option Nat
  kind : Kind
  outcome : Outcome
deriving DecidableEq, Repr

structure Queue where
  requests : List Request
  outcomes : PerPort (List OutcomeEntry)
  nextSerial : Nat
deriving DecidableEq, Repr

structure FocusComp where
  applied : Int
  lastTarget : Option Int
deriving DecidableEq, Repr

/-! ## Fan Controller (08) -/

inductive FanState where
  | off
  | spinup
  | running
  | stalled
  | failed
deriving DecidableEq, Repr

/-- The causes of an override (08 R137). -/
structure Override where
  trip : Bool
  failedFan : Bool
  faultChannel : Bool
deriving DecidableEq, Repr

/-- A fan record (08 R133); `edges` counts the tach edges of the window in progress, and `windowWait` the control
periods still to come before the end of a window that was restarted can come (08 R141, log 28). -/
structure FanRec where
  state : FanState
  duty : Int
  demand : Int
  target : Int
  shortfall : Int
  override : Override
  speed : Nat
  lowWindows : Nat
  restarts : Nat
  edges : Nat
  windowWait : Nat
deriving DecidableEq, Repr

/-- The Fan Controller. `running` says that the control period and the tach windows run (08 R149). -/
structure FanController where
  fans : PerFan FanRec
  running : Bool
  afterrunSeen : Bool
  tripSeen : Bool
deriving DecidableEq, Repr

/-! ## Protection Unit (09) -/

inductive TripCause where
  | channel (c : Fin 7)
  | tco
  | drvflt
  | fans
deriving DecidableEq, Repr

/-- The Protection Unit (09). `trip` is the latch with its cause: CLEAR when absent. `afterrun` is the load in s of
the running afterrun timer, and `afterrunWait` the protection periods that must still come before an expiry can be
that of its run: the model's own field (log 35). -/
structure Protection where
  allowance : Int
  raw : Int
  channelTerm : Int
  termChannel : Option (Fin 7)
  shortfallDerate : Int
  trip : Option TripCause
  lightRequest : Bool
  startup : Bool
  lsen : Bool
  afterrun : Option Int
  afterrunWait : Nat
  running : Bool
  failedSeen : Nat
  faultSeen : Nat
deriving DecidableEq, Repr

/-! ## Port Unit (10) -/

inductive Status where
  | ok
  | okClamped
  | busy
  | denied
  | range
  | notHomed
  | notReady
  | limit
  | stale
  | shape
  | full
  | hot
  | emptySlot
  | badFrame
  | unknown
deriving DecidableEq, Repr

inductive EventKind where
  | motionDone
  | motionFault
  | geometryRefused
  | clip
  | attitudeLimit
  | orientationChanged
  | mountRoll
  | thermalWarn
  | thermalTrip
  | fanFault
  | sensorFault
  | storeDone
  | storeError
  | reset
deriving DecidableEq, Repr

inductive ResetCause where
  | power
  | pin
  | command
deriving DecidableEq, Repr

/-- An event set (10 R175): kinds in the order of raising, with the reset cause while RESET is pending. -/
structure EventSet where
  kinds : List EventKind
  cause : Option ResetCause
deriving DecidableEq, Repr

/-- The Port A response buffer (10 R169). -/
structure Response where
  seq : Nat
  id : Option Byte
  status : Status
  data : List Byte
deriving DecidableEq, Repr

/-- The Port B receiver (10 R170): the length is kept from LENGTH on, and the payload bytes as they arrive. -/
inductive Receiver where
  | hunt
  | length
  | payload (len : Nat) (got : List Byte)
  | check (len : Nat) (got : List Byte)
deriving DecidableEq, Repr

/-- A frame of the Port B transmit queue (10 R172): a response with its payload, begun or not; or a notice, whose
payload is taken when its first byte is sent (10 R178). -/
inductive TxFrame where
  | response (payload : List Byte) (begun : Bool)
  | notice (begun : Option (List Byte))
deriving DecidableEq, Repr

/-- The Port Unit (10). `asel` is the strap as read at the reset. `lastSent` is the model's own record of the last
frame sent whole, byte for byte (12 R191). -/
structure PortUnit where
  bufA : Response
  rx : Receiver
  frameCount : Nat
  tx : List TxFrame
  owed : Bool
  events : PerPort EventSet
  masks : PerPort (List EventKind)
  attnA : Bool
  asel : Bool
  lastSent : List Byte
deriving DecidableEq, Repr

/-! ## Retained Settings Store (11) -/

/-- The non-volatile image (11 R182): its contents, its save count and its check word, absent for a word that matches
no contents (a blank or a torn image). -/
structure Image where
  contents : Settings
  saveCount : Nat
  word : Option (BitVec 32)
deriving DecidableEq, Repr

inductive StoreState where
  | loading
  | idle
  | busy
deriving DecidableEq, Repr

inductive LoadResult where
  | loaded
  | defaultsCheck
  | defaultsRange
deriving DecidableEq, Repr

/-- A save in progress: the contents gathered, their save count and the save issuer (11 R184). -/
structure Save where
  contents : Settings
  count : Nat
  issuer : Port
deriving DecidableEq, Repr

structure Store where
  image : Image
  state : StoreState
  gathered : Option Save
  result : LoadResult
  saveCount : Nat
  cause : ResetCause
deriving DecidableEq, Repr

/-! ## The part -/

/-- The whole part, with the queue of arrivals. -/
structure State where
  pending : List Instr
  set : Settings
  smp : Sampling
  att : Attitude
  geo : Geometry
  eng : Engine
  pres : Presentation
  axes : PerAxis AxisRec
  inputs : Inputs
  mq : Queue
  fc : FocusComp
  fan : FanController
  prot : Protection
  port : PortUnit
  store : Store
  rstLow : Bool
  powerOff : Bool
  aselPin : Bool
  freeCount : Nat
deriving DecidableEq, Repr

/-- A channel record after reset (01 R18). -/
def ChannelRec.reset : ChannelRec :=
  { lastCode := 0, validity := .new, invalidRun := 0, validRun := 0, history := [], filtered := none, peak := 0 }

/-- 01 R18 and section 1.3; the period timer starts at the reset (R7). -/
def Sampling.reset : Sampling :=
  { records := Vector.replicate 10 ChannelRec.reset, trigState := .syncFallback, divCount := 0,
    delayRunning := false, periodRunning := true, video := false, overrun := false, roundCount := 0, round := [] }

/-- 02 R32. -/
def Attitude.reset : Attitude :=
  { windows := { pitch := [], roll := [], vert := [] }, pApp := 0, refused := none, effective := .ceiling,
    count := 0, rollRaised := false }

/-- 03 R52 for the default panel size, which the load completion replaces by the loaded one. -/
def Geometry.reset : Geometry :=
  { corners := { tl := ⟨0, 0⟩, tr := ⟨61440, 0⟩, bl := ⟨0, 34560⟩, br := ⟨61440, 34560⟩ },
    clamped := false, inset := 0, band := 0, held := false, clip := .clear }

/-- 04 R74. -/
def Engine.reset : Engine :=
  { state := .idle, pendingReq := false, restarts := 0, allDirty := false, clampCount := 0 }

/-- 05 R92: EMPTY. What an EMPTY bank holds no master can see: DESIGN CHOICE (log 15). -/
def Bank.reset : Bank :=
  { state := .empty, mesh := Vector.replicate 153 ⟨0, 0⟩, width := 0, height := 0,
    dirty := Vector.replicate 9 false }

/-- 05 R92. -/
def Presentation.reset : Presentation :=
  { banks := { a := Bank.reset, b := Bank.reset }, swap := .none, generation := 0,
    reported := Vector.replicate 9 false, saturated := Vector.replicate 9 false, selected := .wide,
    presented := .wide, video := false, mattn := false, trans := .none, miso := [] }

/-- 06 R111. The direction output and the plan fields of an axis at rest: DESIGN CHOICE (log 15). -/
def AxisRec.reset : AxisRec :=
  { state := .unhomed, position := 0, target := none, leg := .none, running := none, jogOwner := none,
    jogDir := .positive, jogLevel := 1, jogTimer := none, jogRun := 0, jogMap := .floor, jogPeak := 0, jogLow := 0,
    jogSlow := 0, jogFast := 0, homingCount := 0, reason := .none, indexError := none, dir := .positive, legStart := 0, legEnd := 0, stopLo := 0,
    stopHi := 0 }

/-- An input whose raw level is inactive. The levels at the pins are the outside world's: DESIGN CHOICE (log 15). -/
def Filtered.reset : Filtered := { raw := false, level := false, edgePos := 0 }

def Inputs.reset : Inputs :=
  { home := PerAxis.const Filtered.reset, index := PerAxis.const Filtered.reset, mdflt := Filtered.reset,
    tco := Filtered.reset, drvflt := Filtered.reset, tach := PerFan.const Filtered.reset }

/-- 07 R132. -/
def Queue.reset : Queue := { requests := [], outcomes := { a := [], b := [] }, nextSerial := 0 }

/-- 07 R132. -/
def FocusComp.reset : FocusComp := { applied := 0, lastTarget := none }

/-- 08 R149. -/
def FanRec.reset : FanRec :=
  { state := .off, duty := 0, demand := 0, target := 0, shortfall := 0,
    override := { trip := false, failedFan := false, faultChannel := false }, speed := 0, lowWindows := 0,
    restarts := 0, edges := 0, windowWait := 0 }

/-- 08 R149; what was last read at a control period: DESIGN CHOICE clear (log 15). -/
def FanController.reset : FanController :=
  { fans := PerFan.const FanRec.reset, running := false, afterrunSeen := false, tripSeen := false }

/-- 09 R166: until the load completes the allowance is the default floor of 350. -/
def Protection.reset : Protection :=
  { allowance := 350, raw := 1000, channelTerm := 0, termChannel := none, shortfallDerate := 0, trip := none,
    lightRequest := false, startup := false, lsen := false, afterrun := none, afterrunWait := 0, running := false,
    failedSeen := 0, faultSeen := 0 }

/-- The reset reply (10 R169). -/
def Response.reset : Response := { seq := 0, id := none, status := .notReady, data := [] }

/-- 10 R181. -/
def PortUnit.reset : PortUnit :=
  { bufA := Response.reset, rx := .hunt, frameCount := 0, tx := [], owed := false,
    events := { a := ⟨[], none⟩, b := ⟨[], none⟩ }, masks := { a := [], b := [] }, attnA := false, asel := false,
    lastSent := [] }

/-- A blank image, as delivered (11 R183). -/
def Image.blank : Image := { contents := defaultSettings, saveCount := 0, word := none }

/-- 11: LOADING from the reset on, the load result decided at its completion (log 15). -/
def Store.reset : Store :=
  { image := Image.blank, state := .loading, gathered := none, result := .defaultsCheck, saveCount := 0,
    cause := .power }

/-- The part right after a power-on reset, with the image as delivered, in its load (11 R183, R187). -/
def State.reset : State :=
  { pending := [], set := defaultSettings, smp := Sampling.reset, att := Attitude.reset, geo := Geometry.reset,
    eng := Engine.reset, pres := Presentation.reset, axes := PerAxis.const AxisRec.reset, inputs := Inputs.reset,
    mq := Queue.reset, fc := FocusComp.reset, fan := FanController.reset, prot := Protection.reset,
    port := PortUnit.reset, store := Store.reset, rstLow := false, powerOff := false, aselPin := false,
    freeCount := 0 }

end Sys2Proof.Machine
end

