-- ==== Sys2Proof/Machine/Wire.lean ====
section
/-! DEFINITION. Values as bytes (12): widths, most significant byte first, two's complement, the codes of the
enumerations, and the absent flag. -/

namespace Sys2Proof.Machine

/-- One byte. -/
def u8 (n : Nat) : List Byte := [BitVec.ofNat 8 n]

/-- Two bytes, most significant first. -/
def u16 (n : Nat) : List Byte := [BitVec.ofNat 8 (n / 256), BitVec.ofNat 8 n]

/-- Three bytes. -/
def u24 (n : Nat) : List Byte := [BitVec.ofNat 8 (n / 65536), BitVec.ofNat 8 (n / 256), BitVec.ofNat 8 n]

/-- Four bytes. -/
def u32 (n : Nat) : List Byte := BitVec.ofNat 8 (n / 16777216) :: u24 n

/-- One, two and three bytes of an integer in two's complement. -/
def s8 (i : Int) : List Byte := u8 (i % 256).toNat

def s16 (i : Int) : List Byte := u16 (i % 65536).toNat

def s24 (i : Int) : List Byte := u24 (i % 16777216).toNat

/-- A truth value in a reply: 1 when it holds. Chapter 12 gives the code of an absent flag and of the settings of two
values; for every other one, a level or what a rule calls "whether", it is the model's choice (log 17). -/
def flag (b : Bool) : List Byte := u8 (if b then 1 else 0)

/-- A two-byte field with an absent flag: its value, 0 when absent, then 1 when absent (12). -/
def opt16 (o : Option Int) : List Byte := s16 (o.getD 0) ++ flag o.isNone

/-- A one-byte field with an absent flag. -/
def opt8 (o : Option Nat) : List Byte := u8 (o.getD 0) ++ flag o.isNone

def setMask {n : Nat} (v : Vector Bool n) : Nat := maskOf v

def cornerCode : Corner → Nat
  | .tl => 0
  | .tr => 1
  | .bl => 2
  | .br => 3

def stepDirCode : StepDir → Nat
  | .positive => 0
  | .negative => 1

def portCode : Port → Nat
  | .a => 0
  | .b => 1

def TrigMode.code : TrigMode → Nat
  | .sync => 0
  | .free => 1

def TrigState.code : TrigState → Nat
  | .syncLocked => 0
  | .syncFallback => 1
  | .freeRun => 2

def Validity.code : Validity → Nat
  | .new => 0
  | .valid => 1
  | .fault => 2

def OrientSetting.code : OrientSetting → Nat
  | .floor => 0
  | .ceiling => 1
  | .auto => 2

def Orientation.code : Orientation → Nat
  | .floor => 0
  | .ceiling => 1

def Comp.code : Comp → Nat
  | .x => 0
  | .y => 1

def BankId.code : BankId → Nat
  | .a => 0
  | .b => 1

def BankState.code : BankState → Nat
  | .empty => 0
  | .writing => 1
  | .ready => 2
  | .live => 3
  | .reading => 4

def SwapState.code : SwapState → Nat
  | .none => 0
  | .waiting => 1
  | .deferred => 2

def Format.code : Format → Nat
  | .wide => 0
  | .narrow => 1

def AxisState.code : AxisState → Nat
  | .unhomed => 0
  | .homing => 1
  | .idle => 2
  | .moving => 3
  | .jog => 4
  | .settling => 5
  | .lost => 6
  | .fault => 7

def Leg.code : Leg → Nat
  | .none => 0
  | .leg1 => 1
  | .leg2 => 2
  | .stopping => 3
  | .release => 4
  | .seek => 5
  | .run => 6
  | .hold => 7

def FaultReason.code : FaultReason → Nat
  | .none => 0
  | .homeTimeout => 1
  | .driver => 2

def Source.code : Source → Nat
  | .portA => 0
  | .portB => 1
  | .comp => 2
  | .start => 3

def Kind.code : Kind → Nat
  | .move => 0
  | .step => 1
  | .home => 2
  | .recall => 3
  | .comp => 4

def Outcome.code : Outcome → Nat
  | .done => 0
  | .doneNoGeometry => 1
  | .geomRefused => 2
  | .aborted => 3
  | .fault => 4
  | .emptySlot => 5

def FanState.code : FanState → Nat
  | .off => 0
  | .spinup => 1
  | .running => 2
  | .stalled => 3
  | .failed => 4

def TripCause.code : TripCause → Nat
  | .channel c => c.val
  | .tco => 0x10
  | .drvflt => 0x11
  | .fans => 0x12

def ResetCause.code : ResetCause → Nat
  | .power => 1
  | .pin => 2
  | .command => 3

def StoreState.code : StoreState → Nat
  | .loading => 0
  | .idle => 1
  | .busy => 2

def LoadResult.code : LoadResult → Nat
  | .loaded => 0
  | .defaultsCheck => 1
  | .defaultsRange => 2

/-- The status codes (12). -/
def Status.code : Status → Nat
  | .ok => 0x00
  | .okClamped => 0x01
  | .busy => 0x02
  | .denied => 0x03
  | .range => 0x04
  | .notHomed => 0x05
  | .notReady => 0x06
  | .limit => 0x07
  | .stale => 0x08
  | .shape => 0x09
  | .full => 0x0A
  | .hot => 0x0B
  | .emptySlot => 0x0C
  | .badFrame => 0x0D
  | .unknown => 0x0E

/-- NO_MESH, a status of the Mesh Port alone (12). -/
def noMeshCode : Nat := 0x10

/-- Event kinds are coded 1 to 14 in the order of the event table (12). -/
def EventKind.code : EventKind → Nat
  | .motionDone => 1
  | .motionFault => 2
  | .geometryRefused => 3
  | .clip => 4
  | .attitudeLimit => 5
  | .orientationChanged => 6
  | .mountRoll => 7
  | .thermalWarn => 8
  | .thermalTrip => 9
  | .fanFault => 10
  | .sensorFault => 11
  | .storeDone => 12
  | .storeError => 13
  | .reset => 14

/-- Every event kind, in the order of its code. -/
def EventKind.all : List EventKind :=
  [.motionDone, .motionFault, .geometryRefused, .clip, .attitudeLimit, .orientationChanged, .mountRoll, .thermalWarn,
   .thermalTrip, .fanFault, .sensorFault, .storeDone, .storeError, .reset]

/-- Bit (code - 1) of the two-byte event mask names each kind (12). -/
def eventMaskOf (l : List EventKind) : Nat :=
  (EventKind.all.filter (fun k => l.contains k)).foldr (fun k m => m + 2 ^ (k.code - 1)) 0

/-- The kinds that a two-byte mask names. -/
def eventsNamed (m : Nat) : List EventKind := EventKind.all.filter fun k => m.testBit (k.code - 1)

def Rights.mask (r : Rights) : Nat :=
  (if r.motion then 1 else 0) + (if r.geometry then 2 else 0) + (if r.cooling then 4 else 0)
    + (if r.config then 8 else 0) + (if r.store then 16 else 0)

def Rights.ofMask (m : Nat) : Rights :=
  { motion := m.testBit 0, geometry := m.testBit 1, cooling := m.testBit 2, config := m.testBit 3,
    store := m.testBit 4 }

/-- The power-on slot: 0 to 9, NONE 0xFF (12). -/
def powerOnCode (o : Option (Fin 10)) : Nat :=
  match o with
  | none => 0xFF
  | some k => k.val

/-- The axis of a code; none for an unknown axis. -/
def axisOf : Nat → Option Axis
  | 0 => some .shiftH
  | 1 => some .shiftV
  | 2 => some .zoom
  | 3 => some .focus
  | _ => none

/-- The fan of a code; none for an unknown fan. -/
def fanOf : Nat → Option Fan
  | 0 => some .ls
  | 1 => some .oe
  | 2 => some .ex
  | _ => none

/-- The corner of a code; none for a name other than TL, TR, BL and BR. -/
def cornerOf : Nat → Option Corner
  | 0 => some .tl
  | 1 => some .tr
  | 2 => some .bl
  | 3 => some .br
  | _ => none

/-- The axes that a mask names among bits 0 to 3. -/
def axesOfMask (m : Nat) : PerAxis Bool :=
  { shiftH := m.testBit 0, shiftV := m.testBit 1, zoom := m.testBit 2, focus := m.testBit 3 }

def axesMask (v : PerAxis Bool) : Nat :=
  (if v.shiftH then 1 else 0) + (if v.shiftV then 2 else 0) + (if v.zoom then 4 else 0) + (if v.focus then 8 else 0)

end Sys2Proof.Machine
end

