-- ==== Sys2Proof/Machine/Flags.lean ====
section
/-! DEFINITION. The flags that the part shows to its masters: event sets and masks, ATTN_A and the Port B notice
(10, section 10.5), the freeze of the attitude filters (02 R20), LSEN (09 R164), and the outputs that follow a state
(06 R93, 08 R133, 09 R157). -/

namespace Sys2Proof.Machine

/-- Raise a kind in one event set (10 R175): a kind already pending keeps its first place. -/
def EventSet.add (e : EventSet) (k : EventKind) : EventSet :=
  if e.kinds.contains k then e else { e with kinds := e.kinds ++ [k] }

/-- The unmasked event set (10 R176). -/
def unmasked (e : EventSet) (mask : List EventKind) : List EventKind :=
  e.kinds.filter fun k => !mask.contains k

/-- Port B's unmasked event set. -/
def PortUnit.unmaskedB (u : PortUnit) : List EventKind := unmasked u.events.b u.masks.b

/-- ATTN_A takes the level that Port A's unmasked event set calls for (10 R177). -/
def PortUnit.judgeAttn (u : PortUnit) : PortUnit :=
  { u with attnA := !(unmasked u.events.a u.masks.a).isEmpty }

/-- A notice that has not begun to be sent. -/
def TxFrame.waitingNotice : TxFrame → Bool
  | .notice none => true
  | _ => false

/-- Put a frame at the end of the transmit queue, which holds up to 4 (10 R172). -/
def PortUnit.join (u : PortUnit) (f : TxFrame) : PortUnit :=
  if u.tx.length < 4 then { u with tx := u.tx ++ [f] } else u

/-- Withdraw a notice that waits or is owed (10 R178). -/
def PortUnit.withdraw (u : PortUnit) : PortUnit :=
  { u with tx := u.tx.filter (fun f => !f.waitingNotice), owed := false }

/-- A notice falls due (10 R178): no second one while one waits or is owed; it joins the queue when there is room,
and is owed otherwise. -/
def PortUnit.oweNotice (u : PortUnit) : PortUnit :=
  if u.owed || u.tx.any TxFrame.waitingNotice then u
  else if u.tx.length < 4 then { u with tx := u.tx ++ [.notice none] }
  else { u with owed := true }

/-- Port B's unmasked set has changed from one that was empty or not: the notice follows (10 R178). -/
def PortUnit.judgeNotice (wasEmpty : Bool) (u : PortUnit) : PortUnit :=
  if u.unmaskedB.isEmpty then u.withdraw else if wasEmpty then u.oweNotice else u

/-- Change event sets or masks, then judge ATTN_A and the notice. -/
def PortUnit.changeEvents (f : PortUnit → PortUnit) (u : PortUnit) : PortUnit :=
  (f u).judgeAttn.judgeNotice u.unmaskedB.isEmpty

/-- Where an event goes. -/
inductive Dest where
  | port (p : Port)
  | both
deriving DecidableEq, Repr

/-- Add a kind to the event sets of its destination. -/
def addEvent (d : Dest) (k : EventKind) (u : PortUnit) : PortUnit :=
  match d with
  | .port .a => { u with events := { u.events with a := u.events.a.add k } }
  | .port .b => { u with events := { u.events with b := u.events.b.add k } }
  | .both => { u with events := { a := u.events.a.add k, b := u.events.b.add k } }

/-- Raise an event (10 R175 to R178). -/
def PortUnit.raise (d : Dest) (k : EventKind) (u : PortUnit) : PortUnit := u.changeEvents (addEvent d k)

/-- The payload of a notice: Port B's unmasked event set, with the reset cause when RESET is among the kinds
(10 R178, 12 R191). -/
def PortUnit.noticePayload (u : PortUnit) : List Byte :=
  u8 0x02 ++ u8 u.unmaskedB.length ++ u.unmaskedB.flatMap (fun k => u8 k.code)
    ++ (if u.unmaskedB.contains .reset then u8 ((u.events.b.cause.map ResetCause.code).getD 0) else [])

/-- A frame as it is sent: start byte, length, payload, CRC-8 (10 section 10.2, R171). -/
def frameBytes (payload : List Byte) : List Byte :=
  u8 0xA5 ++ u8 payload.length ++ payload ++ [crc8 (u8 payload.length ++ payload)]

/-- The first byte of the frame at the head of the queue is sent: a notice takes its contents now (10 R172, R178). -/
def PortUnit.beginHead (u : PortUnit) : PortUnit :=
  match u.tx with
  | .response p false :: rest => { u with tx := .response p true :: rest }
  | .notice none :: rest => { u with tx := .notice (some u.noticePayload) :: rest }
  | _ => u

/-- The payload of a frame that has begun. -/
def TxFrame.payload : TxFrame → List Byte
  | .response p _ => p
  | .notice o => o.getD []

/-- The last byte of the frame at the head is sent: it leaves, and an owed notice joins (10 R172). -/
def PortUnit.sendHead (u : PortUnit) : PortUnit :=
  let u := u.beginHead
  match u.tx with
  | [] => u
  | f :: rest =>
    if u.owed then { u with tx := rest ++ [.notice none], owed := false, lastSent := frameBytes f.payload }
    else { u with tx := rest, lastSent := frameBytes f.payload }

/-- An axis is in motion or settling: the states that freeze the attitude filters (02 R20). -/
def AxisState.busy : AxisState → Bool
  | .homing | .moving | .jog | .settling => true
  | _ => false

/-- The axis cause of a freeze (02 R20). -/
def frozenByAxes (s : State) : Bool := allAxes.any fun x => (s.axes.get x).state.busy

/-- The fan cause of a freeze (02 R20). -/
def frozenByFans (s : State) : Bool := allFans.any fun f => (s.fan.fans.get f).state == .spinup

/-- The attitude filters are frozen (02 R20). -/
def frozen (s : State) : Bool := frozenByAxes s || frozenByFans s

/-- LSEN is judged again (09 R164). -/
def Protection.judgeLsen (q : Protection) : Protection :=
  { q with lsen := q.lightRequest && q.startup && q.trip.isNone }

/-- The enable output of an axis (06 R93). -/
def enableOutput (r : AxisRec) : Bool :=
  match r.state with
  | .homing | .idle | .moving | .jog | .settling => true
  | .unhomed | .lost | .fault => false

/-- The duty of LIGHT_LIMIT is the allowance (09 R157). -/
def lightLimit (s : State) : Int := s.prot.allowance

/-- The PWM output of a fan carries its commanded duty (08 R133). -/
def fanPwm (s : State) (f : Fan) : Int := (s.fan.fans.get f).duty

/-- The part is held in reset by RSTn or by its supply (11 R187). -/
def State.held (s : State) : Bool := s.rstLow || s.powerOff

/-- The part is held in reset or loads its settings: both control ports are deaf and edges are not taken (11 R187). -/
def State.deaf (s : State) : Bool := s.held || s.store.state == .loading

end Sys2Proof.Machine
end

