-- ==== Sys2Proof/Machine/Ops.lean ====
section
/-! DEFINITION. The operations that every unit uses: the outcome of a command, raising an event, taking a command
with its checks and its reply (10, section 10.3), the glitch filters, and free values. -/

namespace Sys2Proof.Machine

/-- The outcome of a command. -/
abbrev Result := Host.Outcome State Fault Refusal

/-- Raise an event to its ports (10 R175). -/
def raise (d : Dest) (k : EventKind) (s : State) : State := { s with port := s.port.raise d k }

/-- What a command needs of its port (10 section 10.8). -/
inductive Need where
  | none
  | motion
  | geometry
  | cooling
  | config
  | store
  | systemPort
deriving DecidableEq, Repr

/-- Whether a port may use a command (10 R174): Port A always, Port B by its rights set. -/
def mayUse (r : Rights) : Port → Need → Bool
  | .a, _ => true
  | .b, .none => true
  | .b, .motion => r.motion
  | .b, .geometry => r.geometry
  | .b, .cooling => r.cooling
  | .b, .config => r.config
  | .b, .store => r.store
  | .b, .systemPort => false

/-- A unit's answer to a command: the state after it, the status, the reply data. -/
structure Answer where
  st : State
  status : Status
  data : List Byte

/-- A refusal of a unit: nothing changes, no data (10 R173). -/
def refuse (s : State) (k : Status) : Answer := { st := s, status := k, data := [] }

/-- Taken as asked, with no data. -/
def accept (s : State) : Answer := { st := s, status := .ok, data := [] }

/-- A reply with data. -/
def reply (s : State) (d : List Byte) : Answer := { st := s, status := .ok, data := d }

/-- Place a reply in the Port A response buffer: the sequence number increases by one modulo 256 (10 R169). -/
def placeA (id : Option Byte) (k : Status) (d : List Byte) (s : State) : State :=
  { s with port := { s.port with bufA := { seq := (s.port.bufA.seq + 1) % 256, id := id, status := k, data := d } } }

/-- Put a response frame in the Port B transmit queue. A notice that joined during the command gives way to the
response of that command and is owed again, so that the queue holds up to 4 (10 R172, log 6). -/
def placeB (payload : List Byte) (s : State) : State :=
  let u := s.port
  let u := if u.tx.length < 4 then u
    else if u.tx.any TxFrame.waitingNotice then
      { u with tx := u.tx.filter (fun f => !f.waitingNotice), owed := true }
    else u
  { s with port := u.join (.response payload false) }

/-- The payload of a response frame (12 R191). -/
def responsePayload (frame : Nat) (id : Byte) (k : Status) (d : List Byte) : List Byte :=
  u8 0x01 ++ u8 frame ++ [id] ++ u8 k.code ++ d

/-- A Port B frame has passed its check (10 R170): the frame count advances and the receiver hunts again. -/
def countFrame (s : State) : State :=
  { s with port := { s.port with frameCount := (s.port.frameCount + 1) % 256, rx := .hunt } }

/-- The checks of 10 R173 after UNKNOWN, then the owning unit: the form, the right, the unit. A command that is
refused here reaches no unit, and its reply carries no data, that of a vertex edit included (log 18). -/
def checked {α : Type} (p : Port) (need : Need) (v : Params α) (unit : α → State → Answer) (s : State) : Answer :=
  match v with
  | .misfit => refuse s .range
  | .form a => if mayUse s.set.rights p need then unit a s else refuse s .denied

/-- Hand a command to what answers it, and place the reply (10 R168, R170, R172, R173). On Port B this is the moment
at which the frame passes its check; with 4 frames waiting it is discarded untaken, the frame count advanced. While
the part is held in reset or loads, both ports are deaf. -/
def answerTo (p : Port) (id : Byte) (unit : State → Answer) (s : State) : State :=
  if s.deaf then s
  else match p with
    | .a =>
      let r := unit s
      placeA (some id) r.status r.data r.st
    | .b =>
      let s1 := countFrame s
      if s1.port.tx.length < 4 then
        let r := unit s1
        placeB (responsePayload s1.port.frameCount id r.status r.data) r.st
      else s1

/-- A control-port command: identifier, need, parameters, owning unit. -/
def command {α : Type} (p : Port) (id : Byte) (need : Need) (v : Params α) (unit : α → State → Answer) (s : State) :
    Result :=
  .next (answerTo p id (checked p need v unit) s)

/-- A free value from 0 to a bound (log 4). -/
def drawFree (bound : Nat) (s : State) : Nat × State :=
  (Config.freeTime s.freeCount % (bound + 1), { s with freeCount := s.freeCount + 1 })

/-- The filter confirms a change: the filtered level takes the raw level (06 R94, 08 R141, 09 R159). -/
def Filtered.confirm (f : Filtered) : Filtered := { f with level := f.raw }

/-- The filter of an input runs. -/
def Filtered.running (f : Filtered) : Bool := f.raw != f.level

/-- A change of the raw level: it starts the filter, with the axis position recorded, or cancels it (06 R94). -/
def Filtered.change (f : Filtered) (level : Bool) (position : Int) : Filtered :=
  if level = f.raw then f
  else if level = f.level then { f with raw := level }
  else { f with raw := level, edgePos := position }

/-- An input held in reset: its filtered level is its raw level (06 R94, 11 R187). -/
def Filtered.follow (f : Filtered) (level : Bool) : Filtered := { f with raw := level, level := level }

/-- The source of a request or a composition asked for by a port goes to that port. -/
def portSource : Port → Source
  | .a => .portA
  | .b => .portB

end Sys2Proof.Machine
end

