-- ==== Sys2Proof/Machine/MeshMath.lean ====
section
/-! DEFINITION. The mesh computation (04, sections 4.1 to 4.3), the comparison of rows (04 R70) and the vertex
formats (05, section 5.5): functions of numbers, with no state of the part. -/

namespace Sys2Proof.Machine

/-- Where vertex or entry (i, j) stands (04 R53, R56). -/
def meshIndex (i j : Nat) : Nat := 17 * j + i

/-- Vertex or entry (i, j); (0, 0) outside the mesh. -/
def meshAt (m : Vector Pt 153) (i j : Nat) : Pt := m[meshIndex i j]?.getD ⟨0, 0⟩

/-- The four edge lengths of a set of panel corners (03 R40, 04 R54). -/
def edgeTop (c : PerCorner Pt) : Int := c.tr.x - c.tl.x

def edgeBottom (c : PerCorner Pt) : Int := c.br.x - c.bl.x

def edgeLeft (c : PerCorner Pt) : Int := c.bl.y - c.tl.y

def edgeRight (c : PerCorner Pt) : Int := c.br.y - c.tr.y

/-- The column fraction u_i (04 R54). -/
def colFraction (c : PerCorner Pt) (i : Nat) : Int :=
  roundDiv (4096 * i * edgeLeft c) (i * edgeLeft c + (16 - i) * edgeRight c)

/-- The row fraction v_j (04 R54). -/
def rowFraction (c : PerCorner Pt) (j : Nat) : Int :=
  roundDiv (4096 * j * edgeTop c) (j * edgeTop c + (8 - j) * edgeBottom c)

/-- The bilinear blend of one component of the four corners (04 R55). -/
def blend (u v tl tr bl br : Int) : Int :=
  roundDiv ((4096 - u) * (4096 - v) * tl + u * (4096 - v) * tr + (4096 - u) * v * bl + u * v * br) 16777216

/-- The base vertex (i, j) (04 R55). -/
def baseVertex (c : PerCorner Pt) (i j : Nat) : Pt :=
  let u := colFraction c i
  let v := rowFraction c j
  ⟨blend u v c.tl.x c.tr.x c.bl.x c.br.x, blend u v c.tl.y c.tr.y c.bl.y c.br.y⟩

/-- The fine offset that panel vertex (p, q) receives (04 R57): in CEILING the entry of the opposite vertex with both
components negated. -/
def fineOffset (o : Orientation) (l : FineLayer) (p q : Nat) : Pt :=
  match o with
  | .floor => meshAt l p q
  | .ceiling => ⟨-(meshAt l (16 - p) (8 - q)).x, -(meshAt l (16 - p) (8 - q)).y⟩

/-- The vertex (i, j) before the clamp of 04 R57. -/
def vertexSum (s : Snapshot) (i j : Nat) : Pt :=
  let b := baseVertex s.corners i j
  let d := fineOffset s.orient s.layer i j
  ⟨b.x + d.x, b.y + d.y⟩

/-- The vertex (i, j) of a computation (04 R57). -/
def vertexOf (s : Snapshot) (i j : Nat) : Pt :=
  if s.fineWarp then
    ⟨clamp 0 (16 * s.width) (vertexSum s i j).x, clamp 0 (16 * s.height) (vertexSum s i j).y⟩
  else baseVertex s.corners i j

/-- Whether the clamp of 04 R57 acts on a component of vertex (i, j). -/
def vertexClamped (s : Snapshot) (i j : Nat) : Comp → Bool
  | .x => s.fineWarp && !within 0 (16 * s.width) (vertexSum s i j).x
  | .y => s.fineWarp && !within 0 (16 * s.height) (vertexSum s i j).y

/-- The 153 vertices of a computation (04 R53, R69). -/
def meshOf (s : Snapshot) : Mesh := Vector.ofFn fun k : Fin 153 => vertexOf s (k.val % 17) (k.val / 17)

/-- The vertices in the order of 04 R53: rows from 0, columns from 0 within a row. -/
def meshOrder : List (Nat × Nat) := (List.range 153).map fun k => (k % 17, k / 17)

/-- The first clamped coordinate in the order of 04 R53, x before y in a vertex (04 R57). -/
def firstVertexClamp (s : Snapshot) : Option (Nat × Nat × Comp) :=
  (meshOrder.flatMap fun ij => [(ij.1, ij.2, Comp.x), (ij.1, ij.2, Comp.y)]).find? fun t =>
    vertexClamped s t.1 t.2.1 t.2.2

/-- The number of vertices with a clamped coordinate (04 R57). -/
def clampCountOf (s : Snapshot) : Nat :=
  (meshOrder.filter fun ij => vertexClamped s ij.1 ij.2 .x || vertexClamped s ij.1 ij.2 .y).length

/-- All nine rows. -/
def allRows : RowSet := Vector.replicate 9 true

/-- No row. -/
def noRows : RowSet := Vector.replicate 9 false

/-- A row differs between two meshes when any of its 17 vertices does (04 R70). -/
def rowDiffers (m n : Mesh) (j : Nat) : Bool :=
  (List.range 17).any fun i => decide (meshAt m i j ≠ meshAt n i j)

/-- The rows that differ from the live mesh, or all when no bank is live (04 R70). -/
def dirtyRows (m : Mesh) (live : Option Mesh) : RowSet :=
  match live with
  | none => allRows
  | some n => Vector.ofFn fun j : Fin 9 => rowDiffers m n j.val

/-- The offset of vertex (i, j) from the uniform grid point, in sixteenths (05 R89). -/
def gridOffset (b : Bank) (i j : Nat) : Pt :=
  ⟨(meshAt b.mesh i j).x - i * b.width, (meshAt b.mesh i j).y - j * 2 * b.height⟩

/-- A NARROW value before saturation: quarter pixels (05 R89). -/
def quarter (d : Int) : Int := roundDiv d 4

/-- A NARROW value (05 R89). -/
def narrow (d : Int) : Int := clamp (-2048) 2047 (quarter d)

/-- A component saturates in NARROW (05 R89). -/
def saturates (d : Int) : Bool := !within (-2048) 2047 (quarter d)

/-- The saturation row set of a bank (05 R90). -/
def saturatedRows (b : Bank) : RowSet :=
  Vector.ofFn fun j : Fin 9 => (List.range 17).any fun i =>
    saturates (gridOffset b i j.val).x || saturates (gridOffset b i j.val).y

/-- The bytes of vertex (i, j) in a format (05 R88, R89; 12 R192). -/
def vertexBytes (f : Format) (b : Bank) (i j : Nat) : List Byte :=
  match f with
  | .wide => s24 (meshAt b.mesh i j).x ++ s24 (meshAt b.mesh i j).y
  | .narrow =>
    let x := (narrow (gridOffset b i j).x % 4096).toNat
    let y := (narrow (gridOffset b i j).y % 4096).toNat
    u8 (x / 16) ++ u8 (x % 16 * 16 + y / 256) ++ u8 y

/-- The bytes of row j: its index and its 17 vertices (05 R86). -/
def rowBytes (f : Format) (b : Bank) (j : Nat) : List Byte :=
  u8 j ++ (List.range 17).flatMap fun i => vertexBytes f b i j

end Sys2Proof.Machine
end

