-- ==== Sys2Proof/Machine/MeshOps.lean ====
section
/-! DEFINITION. The operations of the Mesh Engine and the Presentation Unit on each other: rebuild requests, build
banks, the swap, and the clip report (04, section 4.5; 05, sections 5.1 and 5.2; 03 R45). -/

namespace Sys2Proof.Machine

def PerBank.get (v : PerBank) : BankId → Bank
  | .a => v.a
  | .b => v.b

def PerBank.set (v : PerBank) (i : BankId) (b : Bank) : PerBank :=
  match i with
  | .a => { v with a := b }
  | .b => { v with b := b }

def BankId.other : BankId → BankId
  | .a => .b
  | .b => .a

/-- The bank in a given state, A before B. -/
def PerBank.find (v : PerBank) (k : BankState) : Option BankId :=
  if v.a.state = k then some .a else if v.b.state = k then some .b else none

/-- The bank that is LIVE or READING: the live mesh (05 R75). -/
def PerBank.live (v : PerBank) : Option BankId :=
  match v.find .live with
  | some i => some i
  | none => v.find .reading

/-- The mesh that is live, if any. -/
def liveMesh (v : PerBank) : Option Mesh := v.live.map fun i => (v.get i).mesh

/-- Put a bank into a state. -/
def PerBank.setState (v : PerBank) (i : BankId) (k : BankState) : PerBank :=
  v.set i { v.get i with state := k }

/-- The snapshot of the inputs as they stand (04 R68). -/
def snapshotOf (s : State) : Snapshot :=
  { corners := s.geo.corners, layer := s.set.layer, fineWarp := s.set.geo.fineWarp, width := s.set.geo.width,
    height := s.set.geo.height, orient := s.att.effective }

/-- The engine enters COMPUTING into a bank with a fresh snapshot. -/
def beginComputation (i : BankId) (s : State) : State :=
  { s with eng := { s.eng with state := .computing i (snapshotOf s) } }

/-- The build bank that the Presentation Unit gives (04 R67): a READY bank is taken back, otherwise an EMPTY one. -/
def buildBank (v : PerBank) : Option BankId :=
  match v.find .ready with
  | some i => some i
  | none => v.find .empty

/-- A computation starts from IDLE (04 R67, 05 R76): the chosen bank becomes WRITING, and a swap that a READY bank
waited for is withdrawn. -/
def startComputation (s : State) : State :=
  match buildBank s.pres.banks with
  | none => s
  | some i =>
    let swap := if (s.pres.banks.get i).state = .ready then SwapState.none else s.pres.swap
    beginComputation i
      { s with pres := { s.pres with banks := s.pres.banks.setState i .writing, swap := swap } }

/-- Every row of a waiting READY bank is marked dirty and all-dirty requested is cleared (04 R70). -/
def forceWaiting (s : State) : State :=
  match s.pres.banks.find .ready with
  | none => s
  | some i =>
    { s with
      pres := { s.pres with banks := s.pres.banks.set i { s.pres.banks.get i with dirty := allRows } },
      eng := { s.eng with allDirty := false } }

/-- A rebuild request reaches the engine (04 R66). -/
def rebuild (force : Bool) (s : State) : State :=
  let s := if force then { s with eng := { s.eng with allDirty := true } } else s
  match s.eng.state with
  | .computing _ _ => { s with eng := { s.eng with pendingReq := true } }
  | .idle => if s.eng.pendingReq then (if force then forceWaiting s else s) else startComputation s

/-- The Presentation Unit tells the engine that a bank is free (04 R72). -/
def bankFreed (s : State) : State :=
  match s.eng.state with
  | .computing _ _ => s
  | .idle =>
    if s.eng.pendingReq then
      startComputation { s with eng := { s.eng with pendingReq := false, restarts := 0 } }
    else s

/-- The swap of a READY bank i (05 R78), step by step. -/
def swapTo (i : BankId) (s : State) : State :=
  let v := (s.pres.banks.setState i .live)
  let o := i.other
  let v := if (v.get o).state = .live then v.setState o .empty else v
  bankFreed
    { s with
      pres := { s.pres with
        banks := v, swap := .none, generation := (s.pres.generation + 1) % 65536, reported := (v.get i).dirty,
        presented := s.pres.selected, saturated := saturatedRows (v.get i), mattn := true } }

/-- A chance to swap (05 R79, R80): nothing without a READY bank; a swap when the other bank is LIVE, or EMPTY with
no live mesh; deferred while it is READING. -/
def trySwap (s : State) : State :=
  match s.pres.banks.find .ready with
  | none => s
  | some i =>
    match (s.pres.banks.get i.other).state with
    | .live | .empty => swapTo i s
    | .reading => { s with pres := { s.pres with swap := .deferred } }
    | .writing | .ready => s

/-- The first clamp reported to the clip watch latches it and raises CLIP (03 R39, R45). -/
def reportClip (w : ClipWatch) (d : Dest) (s : State) : State :=
  match s.geo.clip with
  | .clear => raise d .clip { s with geo := { s.geo with clip := w } }
  | _ => s

/-- The build bank becomes READY with its dirty rows, and the swap waits, or is made at once while video is absent
(04 R70, R71; 05 R77, R80). -/
def finishComputation (i : BankId) (s : State) : State :=
  let b := s.pres.banks.get i
  let b := { b with state := .ready, dirty := if s.eng.allDirty then allRows else b.dirty }
  let s := { s with
    pres := { s.pres with banks := s.pres.banks.set i b, swap := .waiting },
    eng := { s.eng with state := .idle, restarts := 0, allDirty := false } }
  if s.pres.video then s else trySwap s

/-- The completion of a computation (04 R69 to R71): the clip report and the clamp count, the dirty rows, and then
READY or a restart in the same bank. -/
def completeComputation (i : BankId) (snap : Snapshot) (s : State) : State :=
  let b := { s.pres.banks.get i with
    mesh := meshOf snap, width := snap.width, height := snap.height,
    dirty := dirtyRows (meshOf snap) (liveMesh s.pres.banks) }
  let s := { s with
    pres := { s.pres with banks := s.pres.banks.set i b },
    eng := { s.eng with clampCount := clampCountOf snap } }
  let s := match firstVertexClamp snap with
    | none => s
    | some t => reportClip (.vertex t.1 t.2.1 t.2.2) .both s
  if s.eng.pendingReq && decide (s.eng.restarts < 3) then
    beginComputation i { s with eng := { s.eng with pendingReq := false, restarts := s.eng.restarts + 1 } }
  else finishComputation i s

end Sys2Proof.Machine
end

