-- ==== Sys2Proof/Machine/Compose.lean ====
section
/-! DEFINITION. The composition of corners (03, sections 3.2 and 3.3), and the zoom settle (03 R36). -/

namespace Sys2Proof.Machine

/-- The nominal corners of a panel of w by h pixels, screen and panel terms alike (03 R35). -/
def nominal (w h : Int) : PerCorner Pt :=
  { tl := ⟨0, 0⟩, tr := ⟨16 * w, 0⟩, bl := ⟨0, 16 * h⟩, br := ⟨16 * w, 16 * h⟩ }

def Pt.add (p d : Pt) : Pt := ⟨p.x + d.x, p.y + d.y⟩

/-- The tilt inset (03 R37); 0 with mode OFF (03 R41). -/
def tiltInset (g : GeoRecord) (band : Nat) (pApp pRef : Int) : Int :=
  if g.corners then roundDiv ((pApp - pRef) * (g.coeff[band]?.getD 0)) 256 else 0

/-- The inset narrows the top edge when positive, the bottom edge when negative (03 R37). -/
def applyInset (inset : Int) (c : PerCorner Pt) : PerCorner Pt :=
  if 0 < inset then { c with tl := ⟨c.tl.x + inset, c.tl.y⟩, tr := ⟨c.tr.x - inset, c.tr.y⟩ }
  else { c with bl := ⟨c.bl.x - inset, c.bl.y⟩, br := ⟨c.br.x + inset, c.br.y⟩ }

/-- The screen corners of a trial (03 R35, R37). -/
def screenCorners (g : GeoRecord) (inset : Int) : PerCorner Pt :=
  let n := nominal g.width g.height
  if g.corners then
    applyInset inset
      { tl := Pt.add n.tl g.offsets.tl, tr := Pt.add n.tr g.offsets.tr,
        bl := Pt.add n.bl g.offsets.bl, br := Pt.add n.br g.offsets.br }
  else n

/-- The orientation mapping into panel corners (03 R38). -/
def toPanel (o : Orientation) (w h : Int) (c : PerCorner Pt) : PerCorner Pt :=
  let turn (p : Pt) : Pt := ⟨16 * w - p.x, 16 * h - p.y⟩
  match o with
  | .floor => c
  | .ceiling => { tl := turn c.br, tr := turn c.bl, bl := turn c.tr, br := turn c.tl }

/-- Clamp a point into the panel (03 R39). -/
def clampPt (w h : Int) (p : Pt) : Pt := ⟨clamp 0 (16 * w) p.x, clamp 0 (16 * h) p.y⟩

/-- The first clamped component in the panel order TL, TR, BL, BR, x before y (03 R39). -/
def firstCornerClamp (w h : Int) (c : PerCorner Pt) : Option (Corner × Comp) :=
  ([(Corner.tl, Comp.x), (.tl, .y), (.tr, .x), (.tr, .y), (.bl, .x), (.bl, .y), (.br, .x), (.br, .y)]).find?
    fun t => match t.2 with
      | .x => !within 0 (16 * w) (c.get t.1).x
      | .y => !within 0 (16 * h) (c.get t.1).y

/-- The shape check (03 R40): every edge at least half the panel. W16 and H16 are multiples of 16. -/
def shapeOk (w h : Int) (c : PerCorner Pt) : Bool :=
  decide (8 * w ≤ edgeTop c ∧ 8 * w ≤ edgeBottom c ∧ 8 * h ≤ edgeLeft c ∧ 8 * h ≤ edgeRight c)

/-- The candidate of a composition: its panel corners, its first clamp, its inset. -/
structure Candidate where
  corners : PerCorner Pt
  clamp : Option (Corner × Comp)
  inset : Int
deriving DecidableEq, Repr

/-- The candidate from the inputs (03 R34 to R39). -/
def candidateOf (g : GeoRecord) (band : Nat) (pApp pRef : Int) (o : Orientation) : Candidate :=
  let inset := tiltInset g band pApp pRef
  let c := toPanel o g.width g.height (screenCorners g inset)
  { corners := c.map (clampPt g.width g.height), clamp := firstCornerClamp g.width g.height c, inset := inset }

/-- The candidate of a trial record under the inputs as they stand (03 R34). -/
def candidate (g : GeoRecord) (s : State) : Candidate :=
  candidateOf g s.geo.band s.att.pApp s.set.pRef s.att.effective

/-- The clamp of a composition reports to the clip watch, whatever the shape check decides (03 R39). -/
def reportCornerClip (c : Candidate) (d : Dest) (s : State) : State :=
  match c.clamp with
  | none => s
  | some t => reportClip (.corner t.1 t.2) d s

/-- An accepted composition (03 R41): the candidate, the held flag, the refused pitch, the record's new value, and
the rebuild. The record is written before the rebuild is asked, whose snapshot reads it (log 19). -/
def acceptComposition (g : GeoRecord) (c : Candidate) (s : State) : State :=
  rebuild false
    { s with
      geo := { s.geo with corners := c.corners, clamped := c.clamp.isSome, inset := c.inset, held := false },
      att := { s.att with refused := none },
      set := { s.set with geo := g } }

/-- One composition of the trial record g, its events to d: the state after it, and whether it was accepted
(03 R34 to R42). -/
def compose (g : GeoRecord) (d : Dest) (s : State) : State × Bool :=
  let c := candidate g s
  let s := reportCornerClip c d s
  if shapeOk g.width g.height c.corners then (acceptComposition g c s, true) else (s, false)

/-- A composition asked for by an orientation change or a zoom settle: a refusal sets the held flag and raises
GEOMETRY_REFUSED (03 R43). -/
def composeOrHold (d : Dest) (s : State) : State :=
  let r := compose s.set.geo d s
  if r.2 then r.1 else raise d .geometryRefused { r.1 with geo := { r.1.geo with held := true } }

/-- A zoom settle: the band in force, and a composition when it has changed (03 R36). -/
def zoomSettle (s : State) : State :=
  let band := (s.axes.zoom.position * 8 / (s.set.axes.zoom.travel + 1)).toNat
  if band = s.geo.band then s else composeOrHold .both { s with geo := { s.geo with band := band } }

end Sys2Proof.Machine
end

