-- ==== Sys2Proof/Machine/Geometry.lean ====
section
/-! DEFINITION. The commands of the Geometry Unit (03, section 3.6). -/

namespace Sys2Proof.Machine

/-- The port that asked gets the events of a composition (03 R41). -/
def tryRecord (p : Port) (g : GeoRecord) (status : Status) (s : State) : Answer :=
  let r := compose g (.port p) s
  if r.2 then { st := r.1, status := status, data := [] } else { st := r.1, status := .shape, data := [] }

/-- A component brought into +-15360 (03 R46). -/
def clampOffset (d : Pt) : Pt := ⟨clamp (-15360) 15360 d.x, clamp (-15360) 15360 d.y⟩

/-- OK_CLAMPED when a component was brought into range (03 R46). -/
def clampStatus (changed : Bool) : Status := if changed then .okClamped else .ok

/-- GEO_SET_CORNER (03 R46). -/
def geoSetCorner (p : Port) (a : CornerArgs) (s : State) : Answer :=
  match cornerOf a.corner with
  | none => refuse s .range
  | some c =>
    tryRecord p { s.set.geo with offsets := s.set.geo.offsets.set c (clampOffset a.d) }
      (clampStatus (!offsetOk a.d)) s

/-- GEO_SET_CORNERS (03 R46). -/
def geoSetCorners (p : Port) (a : PerCorner Pt) (s : State) : Answer :=
  tryRecord p { s.set.geo with offsets := a.map clampOffset } (clampStatus (!a.all offsetOk)) s

/-- GEO_NUDGE_CORNER (03 R47). -/
def geoNudgeCorner (p : Port) (a : CornerArgs) (s : State) : Answer :=
  match cornerOf a.corner with
  | none => refuse s .range
  | some c =>
    if within (-30720) 30720 a.d.x && within (-30720) 30720 a.d.y then
      let n := Pt.add (s.set.geo.offsets.get c) a.d
      tryRecord p { s.set.geo with offsets := s.set.geo.offsets.set c (clampOffset n) }
        (clampStatus (!offsetOk n)) s
    else refuse s .range

/-- GEO_ZERO_CORNERS (03 R47). -/
def geoZeroCorners (p : Port) (_ : Unit) (s : State) : Answer :=
  tryRecord p { s.set.geo with offsets := PerCorner.const ⟨0, 0⟩ } .ok s

/-- GEO_SET_MODE (03 R48): 0 is OFF, 1 is CORNERS. -/
def geoSetMode (p : Port) (m : Nat) (s : State) : Answer :=
  match m with
  | 0 => tryRecord p { s.set.geo with corners := false } .ok s
  | 1 => tryRecord p { s.set.geo with corners := true } .ok s
  | _ => refuse s .range

/-- Set tilt follow (03 R48); a change from OFF to ON clears the refused pitch (02 R25). -/
def setFollow (on : Bool) (s : State) : State :=
  { s with
    att := if on && !s.set.geo.follow then { s.att with refused := none } else s.att,
    set := { s.set with geo := { s.set.geo with follow := on } } }

/-- GEO_SET_FOLLOW (03 R48). -/
def geoSetFollow (m : Nat) (s : State) : Answer :=
  match m with
  | 0 => accept (setFollow false s)
  | 1 => accept (setFollow true s)
  | _ => refuse s .range

/-- GEO_SET_PANEL (03 R49). -/
def geoSetPanel (p : Port) (a : Pt) (s : State) : Answer :=
  if panelOk a.x a.y then tryRecord p { s.set.geo with width := a.x, height := a.y } .ok s else refuse s .range

/-- GEO_SET_ZOOM_TABLE (03 R50). -/
def geoSetZoomTable (p : Port) (l : List Nat) (s : State) : Answer :=
  match rowOf 8 (l.map fun n => (n : Int)) with
  | none => refuse s .range
  | some c => if coeffOk c then tryRecord p { s.set.geo with coeff := c } .ok s else refuse s .range

/-- GEO_CLEAR_CLIP (03 R45). -/
def geoClearClip (_ : Unit) (s : State) : Answer :=
  accept { s with geo := { s.geo with clip := .clear } }

def ptBytes (d : Pt) : List Byte := s16 d.x ++ s16 d.y

def offsetBytes (c : PerCorner Pt) : List Byte := ptBytes c.tl ++ ptBytes c.tr ++ ptBytes c.bl ++ ptBytes c.br

/-- A panel corner: panel coordinates are three bytes each (12). -/
def panelPtBytes (d : Pt) : List Byte := s24 d.x ++ s24 d.y

/-- The clip watch in a reply: state, kind, corner, vertex column and row, component, each 0 where not present
(03 section 3.5, 12, logs 17 and 34). -/
def clipBytes : ClipWatch → List Byte
  | .clear => u8 0 ++ u8 0 ++ u8 0 ++ u8 0 ++ u8 0 ++ u8 0
  | .corner c k => u8 1 ++ u8 0 ++ u8 (cornerCode c) ++ u8 0 ++ u8 0 ++ u8 k.code
  | .vertex i j k => u8 1 ++ u8 1 ++ u8 0 ++ u8 i ++ u8 j ++ u8 k.code

def recordBytes (g : GeoRecord) : List Byte :=
  s16 g.width ++ s16 g.height ++ flag g.corners ++ offsetBytes g.offsets ++ flag g.follow
    ++ g.coeff.toList.flatMap s16 ++ flag g.fineWarp ++ s16 g.fineLimit

/-- The data of GEO_STATUS (03 R51). -/
def geoStatusData (s : State) : List Byte :=
  recordBytes s.set.geo
    ++ panelPtBytes s.geo.corners.tl ++ panelPtBytes s.geo.corners.tr ++ panelPtBytes s.geo.corners.bl
    ++ panelPtBytes s.geo.corners.br ++ flag s.geo.clamped
    ++ u8 s.geo.band ++ s16 (s.set.geo.coeff[s.geo.band]?.getD 0) ++ s16 s.geo.inset ++ flag s.geo.held
    ++ clipBytes s.geo.clip

/-- GEO_STATUS (03 R51). -/
def geoStatus (_ : Unit) (s : State) : Answer := reply s (geoStatusData s)

def execGeoSetCorner (p : Port) (v : Params CornerArgs) (s : State) : Result :=
  command p 0x30#8 .geometry v (geoSetCorner p) s

def execGeoSetCorners (p : Port) (v : Params (PerCorner Pt)) (s : State) : Result :=
  command p 0x31#8 .geometry v (geoSetCorners p) s

def execGeoNudgeCorner (p : Port) (v : Params CornerArgs) (s : State) : Result :=
  command p 0x32#8 .geometry v (geoNudgeCorner p) s

def execGeoZeroCorners (p : Port) (v : Params Unit) (s : State) : Result :=
  command p 0x33#8 .geometry v (geoZeroCorners p) s

def execGeoSetMode (p : Port) (v : Params Nat) (s : State) : Result :=
  command p 0x34#8 .geometry v (geoSetMode p) s

def execGeoSetFollow (p : Port) (v : Params Nat) (s : State) : Result :=
  command p 0x35#8 .geometry v geoSetFollow s

def execGeoSetPanel (p : Port) (v : Params Pt) (s : State) : Result :=
  command p 0x36#8 .config v (geoSetPanel p) s

def execGeoSetZoomTable (p : Port) (v : Params (List Nat)) (s : State) : Result :=
  command p 0x37#8 .config v (geoSetZoomTable p) s

def execGeoClearClip (p : Port) (v : Params Unit) (s : State) : Result :=
  command p 0x38#8 .geometry v geoClearClip s

def execGeoStatus (p : Port) (v : Params Unit) (s : State) : Result :=
  command p 0x39#8 .none v geoStatus s

end Sys2Proof.Machine
end

