-- ==== Sys2Proof/Machine/Motion.lean ====
section
/-! DEFINITION. The operations of the Axis Drive Unit and the Motion Queue on each other: legs, stops, the end of an
axis's part, the end of a request, and dispatch (06, sections 6.2 to 6.6; 07, sections 7.2 and 7.3). -/

namespace Sys2Proof.Machine

/-! ## Legs and stops of one axis -/

def stepSign : StepDir → Int
  | .positive => 1
  | .negative => -1

/-- The direction from one position toward another; NEGATIVE when it is not above. -/
def dirTo (start stop : Int) : StepDir := if start < stop then .positive else .negative

/-- The soft limit that a direction runs toward (06 R95, R106). -/
def softLimit (g : AxisSettings) : StepDir → Int
  | .positive => g.travel
  | .negative => 0

/-- Plan a leg from the position to an end point (06 R96, R97). -/
def planLeg (leg : Leg) (stop : Int) (r : AxisRec) : AxisRec :=
  { r with leg := leg, legStart := r.position, legEnd := stop, dir := dirTo r.position stop }

/-- The end point of LEG1 (06 R97): the target, or beyond it by the backlash when the final direction opposes the
approach direction. -/
def leg1End (g : AxisSettings) (position target : Int) : Int :=
  if dirTo position target = g.approach ∨ g.backlash = 0 then target
  else match g.approach with
    | .positive => clamp 0 g.travel (target - g.backlash)
    | .negative => clamp 0 g.travel (target + g.backlash)

/-- An axis is handed a target (06 R95): at its target it stays IDLE, otherwise it enters MOVING with LEG1. -/
def handTarget (g : AxisSettings) (target : Int) (r : AxisRec) : AxisRec :=
  if target = r.position then r
  else planLeg .leg1 (leg1End g r.position target) { r with state := .moving, target := some target }

/-- The axis enters SETTLING (06 R98). Its homing count stays (log 31). -/
def settleAxis (r : AxisRec) : AxisRec :=
  { r with state := .settling, leg := .none, target := none, jogOwner := none, jogTimer := none }

/-- Whole steps covered since the leg or the jog run began. -/
def covered (r : AxisRec) : Int := mag (r.position - r.legStart)

/-- Whole steps in which the square of a speed is reached from the start speed, or lost to it, rounded up (06 R96). -/
def rampSteps (g : AxisSettings) (square : Int) : Int :=
  ceilDiv (square - g.startSpeed * g.startSpeed) (2 * g.accel)

/-- The square of a speed one step on, by at most a rate toward the square that is aimed at. A step at the acceleration
changes the square of the speed by twice the acceleration (06 R96). -/
def paceToward (rate aim square : Int) : Int :=
  if square ≤ aim then min (square + rate) aim else max (square - rate) aim

/-- Plan a deceleration from where the axis is (06 R96): it rests on the first whole step at or beyond the point where
the speed reaches the start speed, and never beyond an end point. With n steps issued the distance covered lies from n
to n + 1: `slow` is the least ramp from n, `fast` the greatest from n + 1, so the rest lies between two whole steps
(log 8). -/
def planRest (slow fast stop : Int) (r : AxisRec) : AxisRec :=
  let n := covered r
  let whole := mag (stop - r.legStart)
  { r with stopLo := min (n + slow) whole, stopHi := min (n + 1 + fast) whole }

/-- A stop inside a leg (06 R108), never beyond the leg end point: n steps from rest give a ramp of n steps, or that of
the max speed. -/
def stopInLeg (g : AxisSettings) (r : AxisRec) : AxisRec :=
  let n := covered r
  let ramp := rampSteps g (g.maxSpeed * g.maxSpeed)
  { planRest (min n ramp) (min (n + 1) ramp) r.legEnd r with leg := .stopping }

/-- A jog run decelerates, never beyond the soft limit it runs toward (06 R106, R107): from the least squared speed at
its last step, to the greatest one step on. -/
def slowJog (g : AxisSettings) (r : AxisRec) : AxisRec :=
  planRest (rampSteps g r.jogSlow)
    (rampSteps g (paceToward (2 * g.accel) (r.jogPeak * r.jogPeak) r.jogFast)) (softLimit g r.dir) r

/-- A jog ends (06 R107): it decelerates, as a jog that reverses does already. -/
def endJog (g : AxisSettings) (r : AxisRec) : AxisRec :=
  match r.leg with
  | .run =>
    { (if r.dir = r.jogDir then slowJog g r else r) with leg := .stopping, jogOwner := none, jogTimer := none }
  | .hold => settleAxis r
  | _ => r

/-- What STOP does to one axis (06 R108). A stopped homing keeps its homing count (log 31). -/
def stopAxis (g : AxisSettings) (r : AxisRec) : AxisRec :=
  match r.state with
  | .moving => match r.leg with
    | .leg1 | .leg2 => stopInLeg g r
    | _ => r
  | .jog => endJog g r
  | .homing => { r with state := .unhomed, leg := .none }
  | _ => r

/-- An axis in motion stops at once, without a ramp, in LOST or FAULT (06 R100, R101, R102). Its index error stays
(log 32). -/
def haltAxis (k : AxisState) (r : AxisRec) : AxisRec :=
  { r with state := k, leg := .none, target := none, jogOwner := none, jogTimer := none }

/-- The limit of a homing phase: travel + floor(travel / 10) (06 R100). -/
def homingLimit (g : AxisSettings) : Int := g.travel + g.travel / 10

/-- An axis starts homing (06 R99); the filtered home switch picks the first phase. -/
def startHoming (switch : Bool) (r : AxisRec) : AxisRec :=
  { r with
    state := .homing, reason := .none, indexError := none, homingCount := 0, target := none,
    leg := if switch then .release else .seek, dir := if switch then .positive else .negative }

/-- Write one axis record. -/
def State.setAxis (s : State) (x : Axis) (r : AxisRec) : State := { s with axes := s.axes.set x r }

/-- Apply STOP to the axes of a set. -/
def stopAxes (which : PerAxis Bool) (s : State) : State :=
  { s with axes := s.axes.map fun x r => if which.get x then stopAxis (s.set.axes.get x) r else r }

/-! ## Requests -/

/-- The axes of a request. -/
def Request.names (r : Request) (x : Axis) : Bool := r.axes.get x

def hasAxis (v : PerAxis Bool) : Bool := allAxes.any v.get

/-- Two axis sets share an axis. -/
def sharesAxis (u v : PerAxis Bool) : Bool := allAxes.any fun x => u.get x && v.get x

/-- Change the record of a request. -/
def updateRequest (k : Nat) (f : Request → Request) (s : State) : State :=
  { s with mq := { s.mq with requests := s.mq.requests.map fun r => if r.serial = k then f r else r } }

/-- The port or ports that a source's events go to (07 R121, 03 R41). -/
def Source.dest : Source → Dest
  | .portA => .port .a
  | .portB => .port .b
  | .comp | .start => .both

/-- The port whose outcome list a source's entries join (07 R121). -/
def Source.list : Source → Option Port
  | .portA | .start => some .a
  | .portB => some .b
  | .comp => none

/-- The event of an outcome (07 R119). -/
def Outcome.event : Outcome → EventKind
  | .done | .doneNoGeometry | .geomRefused | .aborted => .motionDone
  | .fault | .emptySlot => .motionFault

/-- An entry joins the outcome list of the source's port (07 R121). -/
def listOutcome (r : Request) (o : Outcome) (s : State) : State :=
  match r.source.list with
  | none => s
  | some p =>
    { s with mq := { s.mq with
        outcomes := s.mq.outcomes.set p (pushWindow 4 (s.mq.outcomes.get p) ⟨r.tag, r.kind, o⟩) } }

/-- The event of a request's end (07 R119, R121): a COMP request has one only when it ends FAULT. -/
def raiseOutcome (r : Request) (o : Outcome) (s : State) : State :=
  match r.source with
  | .comp => if o = .fault then raise .both .motionFault s else s
  | _ => raise r.source.dest o.event s

/-- Record an outcome and raise its event (07 R121). -/
def recordOutcome (r : Request) (o : Outcome) (s : State) : State := raiseOutcome r o (listOutcome r o s)

/-- The geometry of a RECALL that would end DONE (07 R120, 03 R44). -/
def settleGeometry (r : Request) (s : State) : State × Outcome :=
  match r.payload with
  | none => (s, .done)
  | some d =>
    if r.source = .portB && !s.set.rights.geometry then (s, .doneNoGeometry)
    else
      let q := compose { s.set.geo with offsets := d, corners := true } r.source.dest s
      (q.1, if q.2 then .done else .geomRefused)

/-- How a request ends by what became of its axes (06 R103). -/
def axesOutcome (r : Request) : Outcome := if r.failed then .fault else if r.stopped then .aborted else .done

/-- A COMP request is accounted at its end (07 R130). -/
def accountComp (r : Request) (s : State) : State :=
  match r.kind with
  | .comp => { s with fc := { s.fc with applied := s.fc.applied + (s.axes.focus.position - r.focusStart) } }
  | _ => s

/-- The record leaves the queue, and its axes are released (07 R119). -/
def dropRequest (k : Nat) (s : State) : State :=
  { s with
    mq := { s.mq with requests := s.mq.requests.filter fun r => decide (r.serial ≠ k) },
    axes := s.axes.map fun _ a => if a.running = some k then { a with running := none } else a }

/-- A request ends with an outcome (07 R119, in its order). -/
def endRequest (r : Request) (o : Outcome) (s : State) : State :=
  let q := if o = .done && r.kind = .recall then settleGeometry r s else (s, o)
  recordOutcome r q.2 (dropRequest r.serial (accountComp r q.1))

/-- Every axis of a request is at rest: in IDLE, UNHOMED, LOST or FAULT (06 R103). -/
def requestAtRest (s : State) (r : Request) : Bool :=
  allAxes.all fun x => !r.names x || !(s.axes.get x).state.busy

/-! ## Dispatch -/

/-- An axis is free for dispatch (07 R117). -/
def freeAxis (s : State) (x : Axis) : Bool :=
  (s.axes.get x).running.isNone && !(s.axes.get x).state.busy

/-- The oldest WAITING request whose axes are free and named by no older WAITING request (07 R117). -/
def nextDispatch (s : State) : List Request → PerAxis Bool → Option Request
  | [], _ => none
  | r :: rest, older =>
    if r.dispatched then nextDispatch s rest older
    else if (allAxes.all fun x => !r.names x || (freeAxis s x && !older.get x)) then some r
    else nextDispatch s rest (older.map fun x b => b || r.names x)

/-- Every named axis is IDLE. -/
def allIdle (s : State) (r : Request) : Bool :=
  allAxes.all fun x => !r.names x || decide ((s.axes.get x).state = .idle)

/-- The request becomes RUNNING, and each named axis takes it (07 R118). -/
def bindRequest (r : Request) (s : State) : State :=
  updateRequest r.serial (fun q => { q with dispatched := true, focusStart := s.axes.focus.position })
    { s with axes := s.axes.map fun x a => if r.names x then { a with running := some r.serial } else a }

/-- The axis target handed at dispatch (07 R118). -/
def dispatchTarget (s : State) (r : Request) (slot : Option SlotRec) (x : Axis) : Int :=
  let travel := (s.set.axes.get x).travel
  let position := (s.axes.get x).position
  let v := (r.targets.get x).getD 0
  match r.kind with
  | .move => match x with
    | .focus => clamp 0 travel (v + s.fc.applied)
    | _ => clamp 0 travel v
  | .step => clamp 0 travel (position + v)
  | .comp => clamp 0 travel (position + r.compTarget - s.fc.applied)
  | .recall => match slot, x with
    | none, _ => position
    | some q, .shiftH => clamp 0 travel q.shiftH
    | some q, .shiftV => clamp 0 travel q.shiftV
    | some q, .zoom => clamp 0 travel q.zoom
    | some q, .focus => clamp 0 travel (q.focusUser + s.fc.applied)
  | .home => position

/-- Each named axis is handed its target; the targets and the payload are fixed in the record (07 R118). -/
def handTargets (r : Request) (slot : Option SlotRec) (s : State) : State :=
  updateRequest r.serial
    (fun q => { q with
      targets := r.axes.map fun x b => if b then some (dispatchTarget s r slot x) else none,
      payload := slot.bind SlotRec.offsets })
    { s with axes := s.axes.map fun x a =>
        if r.names x then handTarget (s.set.axes.get x) (dispatchTarget s r slot x) a else a }

/-- Each named axis starts homing, or reports its part failed while MDFLT is active (06 R99, 07 R118). -/
def startHomingAxes (r : Request) (s : State) : State :=
  if s.inputs.mdflt.level then updateRequest r.serial (fun q => { q with failed := true }) s
  else { s with axes := s.axes.map fun x a =>
      if r.names x then startHoming (s.inputs.home.get x).level a else a }

/-- The request of a serial number. -/
def findRequest (s : State) (k : Nat) : Option Request := s.mq.requests.find? fun r => decide (r.serial = k)

/-- End a request that has just been dispatched when all its axes are at rest (06 R95, R99). -/
def endIfAtRest (k : Nat) (s : State) : State :=
  match findRequest s k with
  | none => s
  | some r => if requestAtRest s r then endRequest r (axesOutcome r) s else s

/-- The work of a dispatch by kind (07 R118). -/
def dispatchWork (r : Request) (s : State) : State :=
  match r.kind with
  | .home => endIfAtRest r.serial (startHomingAxes r s)
  | .recall =>
    if allIdle s r then
      match s.set.slots[r.slot]?.join with
      | none => endRequest r .emptySlot s
      | some q => endIfAtRest r.serial (handTargets r (some q) s)
    else endRequest r .fault s
  | .move | .step =>
    if allIdle s r then endIfAtRest r.serial (handTargets r none s) else endRequest r .fault s
  | .comp =>
    if allIdle s r then endIfAtRest r.serial (handTargets r none s)
    else endRequest { r with focusStart := s.axes.focus.position } .fault s

/-- Dispatch one request (07 R118). -/
def dispatch (r : Request) (s : State) : State := dispatchWork r (bindRequest r s)

/-- The dispatch pass over the WAITING requests, oldest first (07 R117). -/
def dispatchPass : Nat → State → State
  | 0, s => s
  | n + 1, s =>
    match nextDispatch s s.mq.requests (PerAxis.const false) with
    | none => s
    | some r => dispatchPass n (dispatch r s)

/-- End every running request whose axes are all at rest, oldest first, the dispatch test following each end (07 R119
in its order, log 27). -/
def finishRequests : Nat → State → State
  | 0, s => s
  | n + 1, s =>
    match s.mq.requests.find? fun r => r.dispatched && requestAtRest s r with
    | none => s
    | some r =>
      let s := endRequest r (axesOutcome r) s
      finishRequests n (dispatchPass s.mq.requests.length s)

/-- What follows every arrival that can change the test of 07 R117: requests whose axes have come to rest end, and
the WAITING requests are tested. -/
def settleQueue (s : State) : State :=
  let s := finishRequests s.mq.requests.length s
  dispatchPass s.mq.requests.length s

/-- A waiting COMP request (07 R129). -/
def Request.waitingComp (r : Request) : Bool := decide (r.kind = .comp) && !r.dispatched

/-- Remove every waiting COMP request, without an outcome (07 R129, R131). -/
def removeWaitingComp (s : State) : State :=
  { s with mq := { s.mq with requests := s.mq.requests.filter fun r => !r.waitingComp } }

/-- A request joins the end of the queue as WAITING (07 R113). -/
def joinQueue (r : Request) (s : State) : State :=
  { s with mq := { s.mq with
      requests := s.mq.requests ++ [{ r with serial := s.mq.nextSerial }], nextSerial := s.mq.nextSerial + 1 } }

/-- An axis of a running request has entered LOST or FAULT: its part failed, the request's other axes are stopped as
if STOP had named them, and what has come to rest ends (06 R103). -/
def partFailed (x : Axis) (s : State) : State :=
  match (s.axes.get x).running.bind (findRequest s) with
  | none => settleQueue s
  | some r =>
    let others := r.axes.map fun y b => b && decide (y ≠ x)
    settleQueue
      (updateRequest r.serial (fun q => { q with failed := true, stopped := q.stopped || hasAxis others })
        (stopAxes others s))

/-- STOP of a set of axes (06 R108): every running request that holds a named axis is marked stopped, and its other
axes are stopped as if named. -/
def stopNamed (which : PerAxis Bool) (s : State) : State :=
  let hit (r : Request) : Bool := r.dispatched && sharesAxis r.axes which
  let all := s.mq.requests.foldl (fun v r => if hit r then v.map fun x b => b || r.names x else v) which
  let marked := { s with mq := { s.mq with
    requests := s.mq.requests.map fun r => if hit r then { r with stopped := true } else r } }
  settleQueue (stopAxes all marked)

/-- MDFLT puts every axis into FAULT with reason DRIVER; every running request fails, and MOTION_FAULT goes to both
ports (06 R102). A LOST axis keeps its index error (log 32). -/
def driverFault (s : State) : State :=
  settleQueue
    (raise .both .motionFault
      { s with
        axes := s.axes.map fun _ r => { haltAxis .fault r with reason := .driver },
        mq := { s.mq with
          requests := s.mq.requests.map fun r => if r.dispatched then { r with failed := true } else r } })

/-- A homing phase has reached its limit without its edge (06 R100). -/
def homeTimedOut (x : Axis) (s : State) : State :=
  partFailed x
    (s.setAxis x { haltAxis .fault (s.axes.get x) with
      reason := .homeTimeout, homingCount := (homingLimit (s.set.axes.get x)).toNat })

end Sys2Proof.Machine
end

