-- ==== Sys2Proof/Machine/Requests.lean ====
section
/-! DEFINITION. The commands of the Motion Queue and the Lens Memory Table, and Focus Compensation (07). -/

namespace Sys2Proof.Machine

/-! ## Enqueueing (07 R114 to R116) -/

/-- The values of a set of axes, in axis order: each named axis takes the next. -/
def assignValues (m : PerAxis Bool) (l : List Int) : PerAxis (Option Int) :=
  let at' (b : Bool) (k : Nat) : Option Int := if b then l[k]? else none
  let n (b : Bool) : Nat := if b then 1 else 0
  { shiftH := at' m.shiftH 0, shiftV := at' m.shiftV (n m.shiftH), zoom := at' m.zoom (n m.shiftH + n m.shiftV),
    focus := at' m.focus (n m.shiftH + n m.shiftV + n m.zoom) }

/-- A request as it joins the queue. -/
def newRequest (p : Port) (k : Kind) (m : PerAxis Bool) (v : PerAxis (Option Int)) (slot : Nat) (tag : Nat) :
    Request :=
  { serial := 0, source := portSource p, kind := k, axes := m, targets := v, slot := slot, payload := none,
    compTarget := 0, tag := some tag, dispatched := false, stopped := false, failed := false, focusStart := 0 }

/-- The queue holds 8 requests, not counting a waiting COMP request that the new one would displace (07 R114). -/
def queueFull (s : State) (m : PerAxis Bool) : Bool :=
  decide (8 ≤ (s.mq.requests.filter fun r => !(m.focus && r.waitingComp)).length)

/-- A named axis is UNHOMED, LOST or FAULT (07 R114). -/
def notHomed (s : State) (m : PerAxis Bool) : Bool :=
  allAxes.any fun x => m.get x && match (s.axes.get x).state with
    | .unhomed | .lost | .fault => true
    | _ => false

/-- An accepted request joins the queue, displaces a waiting COMP request when it names FOCUS, and the dispatch test
is applied; the reply states the tag and whether it was dispatched (07 R114). -/
def enqueue (r : Request) (status : Status) (s : State) : Answer :=
  let k := s.mq.nextSerial
  let s := joinQueue r s
  let s := if r.axes.focus then removeWaitingComp s else s
  let s := dispatchPass s.mq.requests.length s
  let waits := s.mq.requests.any fun q => decide (q.serial = k) && !q.dispatched
  { st := s, status := status, data := u8 (r.tag.getD 0) ++ flag (!waits) }

/-- The checks FULL and NOT_HOMED, and then the enqueue (07 R114). -/
def tryEnqueue (r : Request) (status : Status) (s : State) : Answer :=
  if queueFull s r.axes then refuse s .full
  else if r.kind ≠ .home && notHomed s r.axes then refuse s .notHomed
  else enqueue r status s

/-- The value that the record of a MOVE holds for an axis: clamped into the travel for the first three axes, the
carried one for FOCUS (07 R115). -/
def heldTarget (s : State) (x : Axis) (t : Int) : Int :=
  match x with
  | .focus => t
  | _ => clamp 0 (s.set.axes.get x).travel t

/-- The clamp of a MOVE target changes a value (07 R115). -/
def moveClamps (s : State) (x : Axis) (t : Int) : Bool :=
  match x with
  | .focus => !within 0 s.set.axes.focus.travel (t + s.fc.applied)
  | _ => !within 0 (s.set.axes.get x).travel t

/-- An axis set is not empty and names no unknown axis (07 R114). -/
def axisSetOk (m : Nat) : Bool := decide (0 < m ∧ m < 16)

/-- MQ_MOVE (07 R115). -/
def mqMove (p : Port) (a : MoveArgs) (s : State) : Answer :=
  let m := axesOfMask a.axes
  if axisSetOk a.axes && decide (a.vals.length = (allAxes.filter m.get).length)
      && a.vals.all (within 0 65535) then
    let v := assignValues m a.vals
    let clamps := allAxes.any fun x => match v.get x with
      | none => false
      | some t => moveClamps s x t
    let held := v.map fun x o => o.map (heldTarget s x)
    tryEnqueue (newRequest p .move m held 0 a.tag) (if clamps then .okClamped else .ok) s
  else refuse s .range

/-- MQ_STEP (07 R115). -/
def mqStep (p : Port) (a : MoveArgs) (s : State) : Answer :=
  let m := axesOfMask a.axes
  if axisSetOk a.axes && decide (a.vals.length = (allAxes.filter m.get).length)
      && a.vals.all (within (-65000) 65000) then
    tryEnqueue (newRequest p .step m (assignValues m a.vals) 0 a.tag) .ok s
  else refuse s .range

/-- MQ_HOME (07 R116). -/
def mqHome (p : Port) (a : TaggedArgs) (s : State) : Answer :=
  if axisSetOk a.what then
    tryEnqueue (newRequest p .home (axesOfMask a.what) (PerAxis.const none) 0 a.tag) .ok s
  else refuse s .range

/-- MQ_RECALL (07 R116): its axis set is all four axes. -/
def mqRecall (p : Port) (a : TaggedArgs) (s : State) : Answer :=
  if a.what ≤ 9 then
    tryEnqueue (newRequest p .recall (PerAxis.const true) (PerAxis.const none) a.what a.tag) .ok s
  else refuse s .range

/-- The WAITING requests that FLUSH from a port removes (07 R122). -/
def flushed (p : Port) (r : Request) : Bool :=
  !r.dispatched && match p, r.source with
    | .a, .portA | .a, .start | .b, .portB => true
    | _, _ => false

/-- FLUSH (07 R122). -/
def flushCommand (p : Port) (_ : Unit) (s : State) : Answer :=
  let n := (s.mq.requests.filter (flushed p)).length
  let s := { s with mq := { s.mq with requests := s.mq.requests.filter fun r => !flushed p r } }
  { st := dispatchPass s.mq.requests.length s, status := .ok, data := u8 n }

/-- A per-axis target in a reply: three bytes for the distances of a waiting STEP, two otherwise, with the absent
flag (07 R123, 12, log 17). -/
def targetBytes (r : Request) (o : Option Int) : List Byte :=
  if r.kind = .step && !r.dispatched then s24 (o.getD 0) ++ flag o.isNone else opt16 o

/-- One record of MQ_STATUS (07 R123): the slot of a request that is no RECALL and the comp target of one that is no
COMP are 0 (log 34). -/
def requestBytes (r : Request) : List Byte :=
  u8 r.source.code ++ u8 r.kind.code ++ u8 (axesMask r.axes)
    ++ allAxes.flatMap (fun x => targetBytes r (r.targets.get x))
    ++ u8 r.slot ++ flag r.payload.isSome ++ s16 r.compTarget ++ opt8 r.tag ++ flag r.dispatched ++ flag r.stopped

/-- The data of MQ_STATUS (07 R123). -/
def mqStatusData (s : State) : List Byte :=
  u8 s.mq.requests.length ++ s.mq.requests.flatMap requestBytes ++ s16 s.fc.applied

/-- MQ_OUTCOMES (07 R121): the issuing port's list, oldest first, which it empties. -/
def mqOutcomes (p : Port) (_ : Unit) (s : State) : Answer :=
  let l := s.mq.outcomes.get p
  { st := { s with mq := { s.mq with outcomes := s.mq.outcomes.set p [] } }, status := .ok,
    data := u8 l.length ++ l.flatMap fun e => opt8 e.tag ++ u8 e.kind.code ++ u8 e.outcome.code }

/-! ## Lens Memory Table (07, section 7.4) -/

/-- Any axis is HOMING, MOVING, JOG or SETTLING. -/
def anyBusy (s : State) : Bool := allAxes.any fun x => (s.axes.get x).state.busy

/-- The label that MEM_SAVE carries; none for a label that it may not (07 R125). -/
def labelOf (a : SaveArgs) : Option (Option (List Byte)) :=
  if a.flags.testBit 1 then (if labelOk a.label then some (some a.label) else none) else some none

/-- What MEM_SAVE stores (07 R125). -/
def savedSlot (s : State) (label : Option (List Byte)) (geometry : Bool) : SlotRec :=
  { label := label, shiftH := s.axes.shiftH.position, shiftV := s.axes.shiftV.position,
    zoom := s.axes.zoom.position, focusUser := s.axes.focus.position - s.fc.applied,
    offsets := if geometry then some s.set.geo.offsets else none }

/-- Write a slot. -/
def setSlot (i : Nat) (o : Option SlotRec) (s : State) : State :=
  { s with set := { s.set with slots := setAt s.set.slots i o } }

/-- MEM_SAVE (07 R125). -/
def memSave (a : SaveArgs) (s : State) : Answer :=
  match labelOf a with
  | none => refuse s .range
  | some label =>
    if 10 ≤ a.slot ∨ 4 ≤ a.flags then refuse s .range
    else if notHomed s (PerAxis.const true) then refuse s .notHomed
    else if anyBusy s then refuse s .busy
    else accept (setSlot a.slot (some (savedSlot s label (a.flags.testBit 0))) s)

/-- MEM_DELETE (07 R126). -/
def memDelete (i : Nat) (s : State) : Answer :=
  if 10 ≤ i then refuse s .range else accept (setSlot i none s)

/-- A slot in a reply: state, then for a FILLED slot the label with its length, the positions and the offsets, each
with its absent flag (07 R126, log 17). -/
def slotBytes : Option SlotRec → List Byte
  | none => u8 0
  | some r =>
    u8 1 ++ u8 (r.label.getD []).length ++ r.label.getD [] ++ flag r.label.isNone
      ++ s16 r.shiftH ++ s16 r.shiftV ++ s16 r.zoom ++ s24 r.focusUser
      ++ offsetBytes (r.offsets.getD (PerCorner.const ⟨0, 0⟩)) ++ flag r.offsets.isNone

/-- MEM_READ (07 R126). -/
def memRead (i : Nat) (s : State) : Answer :=
  match s.set.slots[i]? with
  | none => refuse s .range
  | some o => reply s (slotBytes o ++ u8 (powerOnCode s.set.powerOn))

/-- MEM_SET_POWERON (07 R127). -/
def memSetPoweron (v : Nat) (s : State) : Answer :=
  if h : v < 10 then accept { s with set := { s.set with powerOn := some ⟨v, h⟩ } }
  else if v = 0xFF then accept { s with set := { s.set with powerOn := none } }
  else refuse s .range

/-! ## Focus Compensation (07, section 7.5) -/

/-- comp_target (07 R128). -/
def compTargetOf (g : FcSettings) (t : Int) : Int :=
  clamp (-g.limit) g.limit (roundDiv (g.k * (t - g.tRef)) 16)

/-- FOCUS is in a state in which its position is known (07 R128). -/
def focusKnown (s : State) : Bool :=
  match s.axes.focus.state with
  | .idle | .moving | .jog | .settling => true
  | _ => false

/-- A COMP request (07 R129). -/
def compRequest (t : Int) : Request :=
  { serial := 0, source := .comp, kind := .comp, axes := { PerAxis.const false with focus := true },
    targets := PerAxis.const none, slot := 0, payload := none, compTarget := t, tag := none, dispatched := false,
    stopped := false, failed := false, focusStart := 0 }

/-- The COMP request that an evaluation asks for (07 R129). -/
def askComp (t : Int) (s : State) : State :=
  if s.mq.requests.any Request.waitingComp then
    { s with mq := { s.mq with
      requests := s.mq.requests.map fun r => if r.waitingComp then { r with compTarget := t } else r } }
  else if s.mq.requests.any fun r => decide (r.kind = .comp) then s
  else if 8 ≤ s.mq.requests.length then s
  else
    let s := joinQueue (compRequest t) s
    dispatchPass s.mq.requests.length s

/-- An evaluation at a T_LB update (07 R128). -/
def evaluateComp (t : Int) (s : State) : State :=
  let g := s.set.fc
  let target := compTargetOf g t
  let s := { s with fc := { s.fc with lastTarget := some target } }
  if g.enable && focusKnown s && decide (g.deadband ≤ mag (target - s.fc.applied)) then askComp target s else s

/-- The settings that FC_SET carries; none for an enable code that names nothing. -/
def fcSettingsOf (a : FcArgs) : Option FcSettings :=
  match a.enable with
  | 0 => some { enable := false, k := a.k, tRef := a.tRef, limit := a.limit, deadband := a.deadband }
  | 1 => some { enable := true, k := a.k, tRef := a.tRef, limit := a.limit, deadband := a.deadband }
  | _ => none

/-- FC_SET (07 R131): enable OFF removes a waiting COMP request, and the queue is tested (07 R117). -/
def fcSet (a : FcArgs) (s : State) : Answer :=
  match fcSettingsOf a with
  | none => refuse s .range
  | some g =>
    if g.ok then
      let s := { s with set := { s.set with fc := g } }
      if g.enable then accept s
      else
        let s := removeWaitingComp s
        accept (dispatchPass s.mq.requests.length s)
    else refuse s .range

/-- Whether a COMP request is held: absent 0, WAITING 1, RUNNING 2 (07 R131, 12). -/
def compHeld (s : State) : Nat :=
  match s.mq.requests.find? fun r => decide (r.kind = .comp) with
  | none => 0
  | some r => if r.dispatched then 2 else 1

/-- The data of FC_STATUS (07 R131). -/
def fcStatusData (s : State) : List Byte :=
  flag s.set.fc.enable ++ s16 s.set.fc.k ++ s16 s.set.fc.tRef ++ s16 s.set.fc.limit ++ s8 s.set.fc.deadband
    ++ s16 s.fc.applied ++ opt16 s.fc.lastTarget ++ u8 (compHeld s)

def execMqMove (p : Port) (v : Params MoveArgs) (s : State) : Result := command p 0x60#8 .motion v (mqMove p) s

def execMqStep (p : Port) (v : Params MoveArgs) (s : State) : Result := command p 0x61#8 .motion v (mqStep p) s

def execMqHome (p : Port) (v : Params TaggedArgs) (s : State) : Result := command p 0x62#8 .motion v (mqHome p) s

def execMqRecall (p : Port) (v : Params TaggedArgs) (s : State) : Result :=
  command p 0x63#8 .motion v (mqRecall p) s

def execFlush (p : Port) (v : Params Unit) (s : State) : Result := command p 0x64#8 .motion v (flushCommand p) s

def execMqStatus (p : Port) (v : Params Unit) (s : State) : Result :=
  command p 0x65#8 .none v (fun _ s => reply s (mqStatusData s)) s

def execMqOutcomes (p : Port) (v : Params Unit) (s : State) : Result := command p 0x66#8 .none v (mqOutcomes p) s

def execMemSave (p : Port) (v : Params SaveArgs) (s : State) : Result := command p 0x70#8 .motion v memSave s

def execMemDelete (p : Port) (v : Params Nat) (s : State) : Result := command p 0x71#8 .motion v memDelete s

def execMemRead (p : Port) (v : Params Nat) (s : State) : Result := command p 0x72#8 .none v memRead s

def execMemSetPoweron (p : Port) (v : Params Nat) (s : State) : Result :=
  command p 0x73#8 .config v memSetPoweron s

def execFcSet (p : Port) (v : Params FcArgs) (s : State) : Result := command p 0x78#8 .config v fcSet s

def execFcStatus (p : Port) (v : Params Unit) (s : State) : Result :=
  command p 0x79#8 .none v (fun _ s => reply s (fcStatusData s)) s

end Sys2Proof.Machine
end

