-- ==== Sys2Proof/Machine/Operands.lean ====
section
/-! DEFINITION. The operand forms: the parameter bytes of every control-port command, and the command that a run of
bytes spells (12 R190). -/

namespace Sys2Proof.Machine

/-- What reads a value from the front of a run of bytes; none when there are too few, or none fits. -/
abbrev Reader (α : Type) := List Byte → Option (α × List Byte)

def Reader.pure {α : Type} (a : α) : Reader α := fun l => some (a, l)

def Reader.bind {α β : Type} (r : Reader α) (f : α → Reader β) : Reader β := fun l =>
  match r l with
  | none => none
  | some (a, rest) => f a rest

/-- No form fits. -/
def Reader.fail {α : Type} : Reader α := fun _ => none

/-- One byte as a number. -/
def rU8 : Reader Nat
  | [] => none
  | b :: l => some (b.toNat, l)

/-- Two bytes, most significant first. -/
def rU16 : Reader Nat := rU8.bind fun h => rU8.bind fun l => Reader.pure (256 * h + l)

/-- Three bytes. -/
def rU24 : Reader Nat := rU16.bind fun h => rU8.bind fun l => Reader.pure (256 * h + l)

/-- A two's complement reading of an n-bit number. -/
def signed (n v : Nat) : Int := if v < 2 ^ (n - 1) then (v : Int) else (v : Int) - (2 ^ n : Nat)

def rS16 : Reader Int := rU16.bind fun v => Reader.pure (signed 16 v)

def rS24 : Reader Int := rU24.bind fun v => Reader.pure (signed 24 v)

/-- An unsigned number as an integer. -/
def rI8 : Reader Int := rU8.bind fun v => Reader.pure (v : Int)

def rI16 : Reader Int := rU16.bind fun v => Reader.pure (v : Int)

/-- n values, one after another. -/
def rMany {α : Type} (r : Reader α) : Nat → Reader (List α)
  | 0 => Reader.pure []
  | n + 1 => r.bind fun a => (rMany r n).bind fun l => Reader.pure (a :: l)

/-- A (dx, dy) pair. -/
def rPt : Reader Pt := rS16.bind fun x => rS16.bind fun y => Reader.pure ⟨x, y⟩

/-- The form check of 10 R173: the bytes match the form when it reads them all. -/
def formOf {α : Type} (r : Reader α) (l : List Byte) : Params α :=
  match r l with
  | some (a, []) => .form a
  | _ => .misfit

/-- The form of a command without parameters. -/
def rNothing : Reader Unit := Reader.pure ()

def rRound : Reader (List Nat) := rU8.bind fun n => rMany rU8 n

def rTrigger : Reader TriggerArgs :=
  rU8.bind fun m => rU8.bind fun n => rU16.bind fun d => rU16.bind fun p => Reader.pure ⟨m, n, d, p⟩

def rTable : Reader TableArgs := rU8.bind fun t => (rMany rS16 17).bind fun l => Reader.pure ⟨t, l⟩

/-- Two bytes carry a table number, five a zero and a scale (12 R190). -/
def rChannel : Reader ChannelArgs := fun l =>
  if l.length = 2 then (rU8.bind fun c => rU8.bind fun t => Reader.pure (ChannelArgs.temp c t)) l
  else (rU8.bind fun c => rU16.bind fun z => rU16.bind fun k => Reader.pure (ChannelArgs.angle c z k)) l

def rAtt : Reader AttArgs :=
  rI16.bind fun d => rS16.bind fun z => rI16.bind fun t => rI16.bind fun r => Reader.pure ⟨d, z, t, r⟩

def rCorner : Reader CornerArgs := rU8.bind fun c => rPt.bind fun d => Reader.pure ⟨c, d⟩

def rCorners : Reader (PerCorner Pt) :=
  rPt.bind fun a => rPt.bind fun b => rPt.bind fun c => rPt.bind fun d => Reader.pure ⟨a, b, c, d⟩

def rPanel : Reader Pt := rI16.bind fun w => rI16.bind fun h => Reader.pure ⟨w, h⟩

/-- The selector code of a fine-warp edit; any other code matches no form (12 R190). -/
def rSelector : Reader Selector := rU8.bind fun k =>
  match k with
  | 0 => Reader.pure .x
  | 1 => Reader.pure .y
  | 2 => Reader.pure .both
  | _ => Reader.fail

/-- The values of the selected components. -/
def rComps : Selector → Reader Comps
  | .x => rS16.bind fun v => Reader.pure (.x v)
  | .y => rS16.bind fun v => Reader.pure (.y v)
  | .both => rS16.bind fun v => rS16.bind fun w => Reader.pure (.both v w)

/-- The expected value under its flag byte; a flag above 1 matches no form (12 R190). -/
def rExpected (k : Selector) : Nat → Reader (Option Comps)
  | 0 => Reader.pure none
  | 1 => (rComps k).bind fun e => Reader.pure (some e)
  | _ => Reader.fail

def rEdit : Reader EditArgs :=
  rU8.bind fun i => rU8.bind fun j => rSelector.bind fun k => rU8.bind fun f => (rComps k).bind fun v =>
    (rExpected k f).bind fun e => Reader.pure ⟨i, j, v, e⟩

def rZero : Reader ZeroArgs :=
  rU8.bind fun i => rU8.bind fun j => rSelector.bind fun k => rU8.bind fun f =>
    (rExpected k f).bind fun e => Reader.pure ⟨i, j, k, e⟩

/-- The form check of a vertex edit. One whose selector or flag no form has matches none, whatever its length (12 R190);
the vertex that it names is kept, since its reply carries the entry (04 R58). -/
def editForm {α : Type} (r : Reader α) (l : List Byte) : EditParams α :=
  match formOf r l with
  | .form a => .form a
  | .misfit => match l with
    | i :: j :: k :: rest =>
      if decide (2 < k.toNat) || rest.head?.any fun f => decide (1 < f.toNat) then .noForm i.toNat j.toNat else .misfit
    | _ => .misfit

def rJog : Reader JogArgs := rU8.bind fun x => rU8.bind fun d => rU8.bind fun l => Reader.pure ⟨x, d, l⟩

def rAxisParams : Reader AxisArgs :=
  rU8.bind fun x => rU16.bind fun t => rU16.bind fun s => rU16.bind fun m => rU24.bind fun a => rU16.bind fun h =>
    rU8.bind fun b => rU8.bind fun d => rU16.bind fun ip => rU8.bind fun it => rU16.bind fun st =>
      Reader.pure ⟨x, t, s, m, a, h, b, d, ip, it, st⟩

/-- How many of bits 0 to 3 are set. -/
def axisCount (m : Nat) : Nat := (allAxes.filter fun x => (axesOfMask m).get x).length

def rMove : Reader MoveArgs :=
  rU8.bind fun m => rU8.bind fun t => (rMany rI16 (axisCount m)).bind fun l => Reader.pure ⟨m, t, l⟩

def rStep : Reader MoveArgs :=
  rU8.bind fun m => rU8.bind fun t => (rMany rS24 (axisCount m)).bind fun l => Reader.pure ⟨m, t, l⟩

def rTagged : Reader TaggedArgs := rU8.bind fun w => rU8.bind fun t => Reader.pure ⟨w, t⟩

/-- One byte as it stands. -/
def rByte : Reader Byte
  | [] => none
  | b :: l => some (b, l)

/-- The label follows when flag bit 1 says that one is present (12 R190). -/
def rSave : Reader SaveArgs :=
  rU8.bind fun s => rU8.bind fun f =>
    if f.testBit 1 then rU8.bind fun n => (rMany rByte n).bind fun l => Reader.pure ⟨s, f, l⟩
    else Reader.pure ⟨s, f, []⟩

def rFc : Reader FcArgs :=
  rU8.bind fun e => rS16.bind fun k => rS16.bind fun t => rI16.bind fun l => rI8.bind fun d =>
    Reader.pure ⟨e, k, t, l, d⟩

def rCurve : Reader CurveArgs :=
  rU8.bind fun f => rU8.bind fun n =>
    (rMany (rS16.bind fun t => rI16.bind fun d => Reader.pure (⟨t, d⟩ : CurvePoint)) n).bind fun l =>
      Reader.pure ⟨f, l⟩

def rBinding : Reader BindingArgs :=
  rU8.bind fun f => rU8.bind fun n => (rMany rU8 n).bind fun l => Reader.pure ⟨f, l⟩

def rFanParams : Reader FanArgs :=
  rU8.bind fun f => rI16.bind fun s => rI16.bind fun c => rI16.bind fun t => Reader.pure ⟨f, s, c, t⟩

def rOffsets : Reader OffsetArgs :=
  rU8.bind fun c => rS16.bind fun f => rS16.bind fun g => Reader.pure ⟨c, f, g⟩

def rProt : Reader ProtArgs :=
  rI16.bind fun f => rI16.bind fun r => rI8.bind fun g => rI16.bind fun a => Reader.pure ⟨f, r, g, a⟩

def rThreshold : Reader ThresholdArgs :=
  rU8.bind fun c => rS16.bind fun s => rS16.bind fun t => Reader.pure ⟨c, s, t⟩

/-- The command that an identifier and its parameter bytes spell, as a port sends it (12 R190). An identifier that
names no command spells UNKNOWN_COMMAND. -/
def commandOf (p : Port) (id : Byte) (l : List Byte) : Instr :=
  match id.toNat with
  | 0x10 => .smpSetRound p (formOf rRound l)
  | 0x11 => .smpSetTrigger p (formOf rTrigger l)
  | 0x12 => .smpSetTable p (formOf rTable l)
  | 0x13 => .smpSetChannel p (formOf rChannel l)
  | 0x14 => .smpClearPeak p (formOf rU16 l)
  | 0x15 => .smpReadChannel p (formOf rU8 l)
  | 0x16 => .smpStatus p (formOf rNothing l)
  | 0x20 => .captureLevel p (formOf rNothing l)
  | 0x21 => .attSetOrientation p (formOf rU8 l)
  | 0x22 => .attSetParams p (formOf rAtt l)
  | 0x23 => .attStatus p (formOf rNothing l)
  | 0x30 => .geoSetCorner p (formOf rCorner l)
  | 0x31 => .geoSetCorners p (formOf rCorners l)
  | 0x32 => .geoNudgeCorner p (formOf rCorner l)
  | 0x33 => .geoZeroCorners p (formOf rNothing l)
  | 0x34 => .geoSetMode p (formOf rU8 l)
  | 0x35 => .geoSetFollow p (formOf rU8 l)
  | 0x36 => .geoSetPanel p (formOf rPanel l)
  | 0x37 => .geoSetZoomTable p (formOf (rMany rU16 8) l)
  | 0x38 => .geoClearClip p (formOf rNothing l)
  | 0x39 => .geoStatus p (formOf rNothing l)
  | 0x40 => .fwSet p (editForm rEdit l)
  | 0x41 => .fwNudge p (editForm rEdit l)
  | 0x42 => .fwZero p (editForm rZero l)
  | 0x43 => .fwZeroAll p (formOf rNothing l)
  | 0x44 => .fwSetLimit p (formOf rU16 l)
  | 0x45 => .fwEnable p (formOf rU8 l)
  | 0x46 => .fwRead p (formOf rU8 l)
  | 0x47 => .meshStatus p (formOf rNothing l)
  | 0x50 => .jog p (formOf rJog l)
  | 0x51 => .jogEnd p (formOf rU8 l)
  | 0x52 => .stop p (formOf rU8 l)
  | 0x53 => .axisSetParams p (formOf rAxisParams l)
  | 0x54 => .axisSetJog p (formOf rU16 l)
  | 0x55 => .axisStatus p (formOf rNothing l)
  | 0x56 => .axisReadParams p (formOf rU8 l)
  | 0x60 => .mqMove p (formOf rMove l)
  | 0x61 => .mqStep p (formOf rStep l)
  | 0x62 => .mqHome p (formOf rTagged l)
  | 0x63 => .mqRecall p (formOf rTagged l)
  | 0x64 => .flush p (formOf rNothing l)
  | 0x65 => .mqStatus p (formOf rNothing l)
  | 0x66 => .mqOutcomes p (formOf rNothing l)
  | 0x70 => .memSave p (formOf rSave l)
  | 0x71 => .memDelete p (formOf rU8 l)
  | 0x72 => .memRead p (formOf rU8 l)
  | 0x73 => .memSetPoweron p (formOf rU8 l)
  | 0x78 => .fcSet p (formOf rFc l)
  | 0x79 => .fcStatus p (formOf rNothing l)
  | 0x80 => .fanSetQuiet p (formOf rU8 l)
  | 0x81 => .fanClear p (formOf rU8 l)
  | 0x82 => .fanSetCurve p (formOf rCurve l)
  | 0x83 => .fanSetBinding p (formOf rBinding l)
  | 0x84 => .fanSetParams p (formOf rFanParams l)
  | 0x85 => .fanSetOffsets p (formOf rOffsets l)
  | 0x86 => .fanSetSlew p (formOf rI16 l)
  | 0x87 => .fanStatus p (formOf rNothing l)
  | 0x88 => .fanReadSettings p (formOf rU8 l)
  | 0x90 => .protSetParams p (formOf rProt l)
  | 0x91 => .protSetThresholds p (formOf rThreshold l)
  | 0x92 => .protStatus p (formOf rNothing l)
  | 0x93 => .protReadSettings p (formOf rNothing l)
  | 0x94 => .light p (formOf rU8 l)
  | 0x95 => .clearTrip p (formOf rNothing l)
  | 0xA0 => .readEvents p (formOf rNothing l)
  | 0xA1 => .setEventMask p (formOf rU16 l)
  | 0xA2 => .ident p (formOf rNothing l)
  | 0xA3 => .portStatus p (formOf rNothing l)
  | 0xA4 => .setRights p (formOf rU8 l)
  | 0xB0 => .storeStatus p (formOf rNothing l)
  | 0xB1 => .setAutohome p (formOf rU8 l)
  | 0xB2 => .saveSettings p (formOf rNothing l)
  | 0xB3 => .reset p (formOf rNothing l)
  | _ => .unknownCommand p id

/-- The identifier names a command (12 R190). -/
def knownId (id : Byte) : Bool :=
  match commandOf .a id [] with
  | .unknownCommand _ _ => false
  | _ => true

end Sys2Proof.Machine
end

