-- ==== Sys2Proof/Machine/Ports.lean ====
section
/-! DEFINITION. The Port Unit's own commands and arrivals (10): events and masks, rights, identity, status, the
transmitter, and what could not be taken as a command. -/

namespace Sys2Proof.Machine

/-- I2C_WRITE_OVERFLOW (10 R168): the buffer takes BAD_FRAME with no command identifier. -/
def writeOverflow (s : State) : State := if s.deaf then s else placeA none .badFrame [] s

/-- The response buffer as a read returns it (12 R191): sequence number, command identifier (0x00 when absent), status,
data length, data. -/
def Response.bytes (r : Response) : List Byte :=
  u8 r.seq ++ [r.id.getD 0x00#8] ++ u8 r.status.code ++ u8 r.data.length ++ r.data

/-- What a read of n bytes at the System Port returns: the response buffer from its first field, then 0xFF; none while
the part does not acknowledge its address. A read changes nothing, so no arrival carries it (10 R169, 12 R191). -/
def systemRead (n : Nat) (s : State) : Option (List Byte) :=
  if s.deaf then none else some ((s.port.bufA.bytes ++ List.replicate n 0xFF#8).take n)

/-- UNKNOWN_COMMAND (10 R173, first check). An identifier that names a command is not this arrival (log 2, 22). -/
def unknownTaken (p : Port) (id : Byte) (s : State) : State :=
  if knownId id then s else answerTo p id (fun s => refuse s .unknown) s

/-- The event set of a port in a reply: the number of kinds, the kinds in order, the reset cause when RESET is among
them (10 R179, log 17). -/
def eventBytes (e : EventSet) : List Byte :=
  u8 e.kinds.length ++ e.kinds.flatMap (fun k => u8 k.code)
    ++ (if e.kinds.contains .reset then u8 ((e.cause.map ResetCause.code).getD 0) else [])

/-- The data of READ_EVENTS (10 R179). -/
def readEventsData (p : Port) (s : State) : List Byte :=
  eventBytes (s.port.events.get p) ++ u16 (eventMaskOf (s.port.masks.get p))

/-- Empty the event set of a port (10 R179); ATTN_A and the notice follow (R177, R178). -/
def emptyEvents (p : Port) (s : State) : State :=
  { s with port := s.port.changeEvents fun u => { u with events := u.events.set p ⟨[], none⟩ } }

/-- READ_EVENTS (10 R179). -/
def readEvents (p : Port) (_ : Unit) (s : State) : Answer := reply (emptyEvents p s) (readEventsData p s)

/-- SET_EVENT_MASK (10 R176): a bit above 13 names no kind. -/
def setEventMask (p : Port) (m : Nat) (s : State) : Answer :=
  if m < 16384 then
    accept { s with port := s.port.changeEvents fun u => { u with masks := u.masks.set p (eventsNamed m) } }
  else refuse s .range

/-- The data of IDENT (10 R180): vendor code, part code, silicon revision. -/
def identData : List Byte := u16 0x4547 ++ u16 0x0D07 ++ u8 3

/-- IDENT (10 R180). -/
def ident (_ : Unit) (s : State) : Answer := reply s identData

/-- The System Port address that ASEL selects (10, section 10.1). -/
def systemAddress (asel : Bool) : Nat := if asel then 0x3B else 0x3A

/-- The data of PORT_STATUS (10 R180). -/
def portStatusData (p : Port) (s : State) : List Byte :=
  u8 (portCode p) ++ u8 s.set.rights.mask ++ u16 (eventMaskOf (s.port.masks.get p))
    ++ u8 (s.port.events.get p).kinds.length ++ u8 (systemAddress s.port.asel) ++ u8 s.port.frameCount
    ++ u8 s.port.tx.length ++ flag s.port.owed

/-- PORT_STATUS (10 R180). -/
def portStatus (p : Port) (_ : Unit) (s : State) : Answer := reply s (portStatusData p s)

/-- SET_RIGHTS (10 R174). -/
def setRights (m : Nat) (s : State) : Answer :=
  if m < 32 then accept { s with set := { s.set with rights := Rights.ofMask m } } else refuse s .range

/-- TX_FRAME_SENT (10 R172). -/
def frameSent (s : State) : State := { s with port := s.port.sendHead }

/-- The transmitter begins the frame at the head of its queue (10 R172, log 1). -/
def beginFrame (s : State) : State := { s with port := s.port.beginHead }

/-- INTERBYTE_GAP_EXPIRY (10 R170): a frame in progress is abandoned. -/
def gapExpired (s : State) : State := { s with port := { s.port with rx := .hunt } }

def execI2cWriteOverflow (s : State) : Result := .next (writeOverflow s)

def execUnknownCommand (p : Port) (id : Byte) (s : State) : Result := .next (unknownTaken p id s)

def execReadEvents (p : Port) (v : Params Unit) (s : State) : Result := command p 0xA0#8 .none v (readEvents p) s

def execSetEventMask (p : Port) (v : Params Nat) (s : State) : Result :=
  command p 0xA1#8 .none v (setEventMask p) s

def execIdent (p : Port) (v : Params Unit) (s : State) : Result := command p 0xA2#8 .none v ident s

def execPortStatus (p : Port) (v : Params Unit) (s : State) : Result := command p 0xA3#8 .none v (portStatus p) s

def execSetRights (p : Port) (v : Params Nat) (s : State) : Result := command p 0xA4#8 .systemPort v setRights s

def execTxFrameSent (s : State) : Result := .next (frameSent s)

def execInterbyteGapExpiry (s : State) : Result := .next (gapExpired s)

end Sys2Proof.Machine
end

