-- ==== Sys2Proof/Machine/Mesh.lean ====
section
/-! DEFINITION. The commands of the Mesh Engine: edits of the fine-warp layer, its limit and its enable, the reads,
and the completion of a computation (04, sections 4.4 to 4.6). -/

namespace Sys2Proof.Machine

/-- The entry (i, j) of the layer in force (04 R56). -/
def layerEntry (i j : Nat) (s : State) : Pt := meshAt s.set.layer i j

/-- Write the entry (i, j). -/
def setEntry (i j : Nat) (d : Pt) (s : State) : State :=
  { s with set := { s.set with layer := setAt s.set.layer (meshIndex i j) d } }

/-- Vertex (i, j) lies in the mesh (04 R58). -/
def vertexOk (i j : Nat) : Bool := decide (i ≤ 16 ∧ j ≤ 8)

/-- An expected value differs from the stored entry in a selected component (04 R59). -/
def stale (d : Pt) : Option Comps → Bool
  | none => false
  | some (.x e) => decide (d.x ≠ e)
  | some (.y e) => decide (d.y ≠ e)
  | some (.both e f) => decide (d.x ≠ e) || decide (d.y ≠ f)

/-- Put values into the selected components. -/
def putComps (v : Comps) (d : Pt) : Pt :=
  match v with
  | .x a => { d with x := a }
  | .y b => { d with y := b }
  | .both a b => ⟨a, b⟩

/-- Every selected value satisfies a test. -/
def allComps (p : Int → Bool) : Comps → Bool
  | .x a => p a
  | .y b => p b
  | .both a b => p a && p b

/-- Add the stored components to the selected deltas. -/
def addComps (v : Comps) (d : Pt) : Comps :=
  match v with
  | .x a => .x (d.x + a)
  | .y b => .y (d.y + b)
  | .both a b => .both (d.x + a) (d.y + b)

/-- Saturate the selected values to +- a limit. -/
def saturateComps (limit : Int) : Comps → Comps
  | .x a => .x (clamp (-limit) limit a)
  | .y b => .y (clamp (-limit) limit b)
  | .both a b => .both (clamp (-limit) limit a) (clamp (-limit) limit b)

/-- Zeros under a selector. -/
def zeroComps : Selector → Comps
  | .x => .x 0
  | .y => .y 0
  | .both => .both 0 0

/-- The entry as stored, both components, in a reply (04 R58). -/
def entryReply (i j : Nat) (k : Status) (s : State) : Answer :=
  { st := s, status := k, data := ptBytes (layerEntry i j s) }

/-- A rebuild is asked for when fine warp is ENABLED (04 R58). -/
def rebuildIfWarped (s : State) : State := if s.set.geo.fineWarp then rebuild false s else s

/-- An accepted edit writes the entry, then asks for a rebuild (04 R58, log 19). -/
def acceptEdit (i j : Nat) (d : Pt) (k : Status) (s : State) : Answer :=
  entryReply i j k (rebuildIfWarped (setEntry i j d s))

/-- An edit that is refused with RANGE: the reply carries the entry of its vertex (04 R58), and none for a vertex outside
the mesh, which has no entry (log 18). -/
def rangeReply (i j : Nat) (s : State) : Answer :=
  if vertexOk i j then entryReply i j .range s else refuse s .range

/-- The first two checks of a vertex edit (04 R58): RANGE, then STALE; the third is the command's. The selector is checked
with the form (`editCommand`). -/
def editChecks (i j : Nat) (valuesOk : Bool) (expected : Option Comps) (edit : State → Answer) (s : State) :
    Answer :=
  if vertexOk i j && valuesOk then
    if stale (layerEntry i j s) expected then entryReply i j .stale s else edit s
  else rangeReply i j s

/-- FW_SET (04 R60). -/
def fwSet (a : EditArgs) (s : State) : Answer :=
  editChecks a.i a.j true a.expected
    (fun s =>
      if allComps (within (-s.set.geo.fineLimit) s.set.geo.fineLimit) a.vals then
        acceptEdit a.i a.j (putComps a.vals (layerEntry a.i a.j s)) .ok s
      else entryReply a.i a.j .limit s) s

/-- FW_NUDGE (04 R61). -/
def fwNudge (a : EditArgs) (s : State) : Answer :=
  editChecks a.i a.j (allComps (within (-4096) 4096) a.vals) a.expected
    (fun s =>
      let d := layerEntry a.i a.j s
      let sum := addComps a.vals d
      let held := saturateComps s.set.geo.fineLimit sum
      acceptEdit a.i a.j (putComps held d) (if held = sum then .ok else .okClamped) s) s

/-- FW_ZERO (04 R62). -/
def fwZero (a : ZeroArgs) (s : State) : Answer :=
  editChecks a.i a.j true a.expected
    (fun s => acceptEdit a.i a.j (putComps (zeroComps a.sel) (layerEntry a.i a.j s)) .ok s) s

/-- FW_ZERO_ALL (04 R62). -/
def fwZeroAll (_ : Unit) (s : State) : Answer :=
  accept (rebuildIfWarped { s with set := { s.set with layer := Vector.replicate 153 ⟨0, 0⟩ } })

/-- An entry saturated to +- a limit (04 R63). -/
def saturateEntry (limit : Int) (d : Pt) : Pt := ⟨clamp (-limit) limit d.x, clamp (-limit) limit d.y⟩

/-- The number of entries in which a component is beyond a limit (04 R63). -/
def beyondLimit (limit : Int) (l : FineLayer) : Nat :=
  (l.toList.filter fun d => decide (saturateEntry limit d ≠ d)).length

/-- The limit field and the saturated layer (04 R63). -/
def applyLimit (limit : Int) (s : State) : State :=
  { s with set := { s.set with
      geo := { s.set.geo with fineLimit := limit }, layer := s.set.layer.map (saturateEntry limit) } }

/-- FW_SET_LIMIT (04 R63). -/
def fwSetLimit (limit : Nat) (s : State) : Answer :=
  if limit ≤ 2048 then
    let n := beyondLimit limit s.set.layer
    let t := applyLimit limit s
    if 0 < n then { st := rebuildIfWarped t, status := .okClamped, data := u8 n }
    else { st := t, status := .ok, data := u8 0 }
  else refuse s .range

/-- The fine warp field (04 R64). -/
def setFineWarp (on : Bool) (s : State) : State :=
  { s with set := { s.set with geo := { s.set.geo with fineWarp := on } } }

/-- FW_ENABLE (04 R64): every accepted one asks for a rebuild. -/
def fwEnable (a : Nat) (s : State) : Answer :=
  match a with
  | 0 => accept (rebuild false (setFineWarp false s))
  | 1 => accept (rebuild false (setFineWarp true s))
  | _ => refuse s .range

/-- The data of FW_READ (04 R65): the 17 entries of a row, the fine limit and the fine warp flag. -/
def fwRowData (j : Nat) (s : State) : List Byte :=
  ((List.range 17).flatMap fun i => ptBytes (layerEntry i j s)) ++ s16 s.set.geo.fineLimit
    ++ flag s.set.geo.fineWarp

/-- FW_READ (04 R65). -/
def fwRead (j : Nat) (s : State) : Answer := if j ≤ 8 then reply s (fwRowData j s) else refuse s .range

/-- The engine state in a reply (12). -/
def EngineState.code : EngineState → Nat
  | .idle => 0
  | .computing _ _ => 1

/-- The build bank with its absent flag (04 R73). -/
def EngineState.bankCode : EngineState → Option Nat
  | .idle => none
  | .computing i _ => some i.code

/-- The data of MESH_STATUS (04 R73). -/
def meshStatusData (s : State) : List Byte :=
  u8 s.eng.state.code ++ opt8 s.eng.state.bankCode ++ flag s.eng.pendingReq ++ flag s.eng.allDirty
    ++ u8 s.eng.restarts ++ u8 s.eng.clampCount ++ flag s.set.geo.fineWarp ++ s16 s.set.geo.fineLimit
    ++ u8 s.pres.banks.a.state.code ++ u8 s.pres.banks.b.state.code ++ u16 s.pres.generation

/-- MESH_STATUS (04 R73). -/
def meshStatus (_ : Unit) (s : State) : Answer := reply s (meshStatusData s)

/-- COMPUTATION_COMPLETION (04 R69): nothing while the engine is IDLE. -/
def computationCompleted (s : State) : State :=
  match s.eng.state with
  | .idle => s
  | .computing i snap => completeComputation i snap s

def execComputationCompletion (s : State) : Result := .next (computationCompleted s)

/-- A vertex edit on its way to the Mesh Engine. One whose selector or flag no form has is refused with RANGE, before its
right is looked at (12 R190; 10 R173), and its reply carries the entry as every reply to a vertex edit does (04 R58; 10
R173, the exception; the flag is log 18). -/
def editCommand {α : Type} (p : Port) (id : Byte) (v : EditParams α) (unit : α → State → Answer) (s : State) : Result :=
  match v with
  | .form a => command p id .geometry (.form a) unit s
  | .noForm i j => command p id .none (.form ()) (fun _ => rangeReply i j) s
  | .misfit => command p id .geometry .misfit unit s

def execFwSet (p : Port) (v : EditParams EditArgs) (s : State) : Result := editCommand p 0x40#8 v fwSet s

def execFwNudge (p : Port) (v : EditParams EditArgs) (s : State) : Result := editCommand p 0x41#8 v fwNudge s

def execFwZero (p : Port) (v : EditParams ZeroArgs) (s : State) : Result := editCommand p 0x42#8 v fwZero s

def execFwZeroAll (p : Port) (v : Params Unit) (s : State) : Result := command p 0x43#8 .geometry v fwZeroAll s

def execFwSetLimit (p : Port) (v : Params Nat) (s : State) : Result := command p 0x44#8 .geometry v fwSetLimit s

def execFwEnable (p : Port) (v : Params Nat) (s : State) : Result := command p 0x45#8 .geometry v fwEnable s

def execFwRead (p : Port) (v : Params Nat) (s : State) : Result := command p 0x46#8 .none v fwRead s

def execMeshStatus (p : Port) (v : Params Unit) (s : State) : Result := command p 0x47#8 .none v meshStatus s

end Sys2Proof.Machine
end

