-- ==== Sys2Proof/Machine/Presentation.lean ====
section
/-! DEFINITION. The Mesh Port and the video watch of the Presentation Unit (05, sections 5.2 to 5.6; 12 R192). -/

namespace Sys2Proof.Machine

/-- A set of rows as a bit mask (12). -/
def rowMask (r : RowSet) : Nat := maskOf r

/-- The live bank in a reply: A 0, B 1, none 0xFF (12 R192). -/
def liveCode (v : PerBank) : Nat := (v.live.map BankId.code).getD 0xFF

/-- The formats byte: bit 0 presented, bit 1 selected (12 R192). -/
def formatBits (u : Presentation) : Nat := u.presented.code + 2 * u.selected.code

/-- The reply of MP_STATUS, 12 bytes (05 R85, 12 R192). -/
def mpStatusBytes (s : State) : List Byte :=
  u8 Status.ok.code ++ u8 (liveCode s.pres.banks) ++ u16 s.pres.generation ++ u16 (rowMask s.pres.reported)
    ++ u8 (formatBits s.pres) ++ u16 (rowMask s.pres.saturated) ++ u8 s.eng.state.code ++ u8 s.pres.swap.code
    ++ flag s.pres.video

/-- The bytes driven on MISO: 0xFF for each of the n bytes of a command and its parameters, then the reply (12 R192). -/
def driven (n : Nat) (out : List Byte) : List Byte := List.replicate n 0xFF#8 ++ out

/-- Byte k that the part drives in a transaction, counted from 0: 0xFF beyond what it has to send, and all through a
transaction that is ignored (05 R84, 12 R192). -/
def misoByte (u : Presentation) (k : Nat) : Byte := u.miso[k]?.getD 0xFF#8

/-- A transaction takes its one command of n bytes, whose reply is sent (05 R84). -/
def takeMesh (n : Nat) (out : List Byte) (s : State) : State :=
  { s with pres := { s.pres with trans := .taken, miso := driven n out } }

/-- No command byte has come since chip select was asserted, or it is asserted now (05 R84). -/
def Trans.fresh : Trans → Bool
  | .none | .selected => true
  | .taken | .ignored => false

/-- A Mesh Port command is heard: it is the first of its transaction, and the part is not held in reset. One that comes
later in a transaction is among its ignored bytes (05 R84, R91). During the load the Mesh Port works (05 R92, log 12). -/
def meshHeard (s : State) : Bool := !s.held && s.pres.trans.fresh

/-- A transaction that begins while the part is held in reset stays asserted across it, and is ignored until its
release (05 R91). -/
def ignoreMesh (s : State) : State :=
  if s.held && s.pres.trans.fresh then { s with pres := { s.pres with trans := .ignored } } else s

/-- MP_STATUS (05 R83, R85): it releases MATTN. -/
def mpStatus (s : State) : State :=
  if meshHeard s then takeMesh 1 (mpStatusBytes s) { s with pres := { s.pres with mattn := false } } else ignoreMesh s

/-- The rows that a read serves, cut at row 8 (05 R86). -/
def rowsServed (a : ReadArgs) : Nat := min a.count (9 - a.start)

/-- The header of a read (12 R192). -/
def readHeader (i : BankId) (a : ReadArgs) (s : State) : List Byte :=
  u8 i.code ++ u16 s.pres.generation ++ u8 s.pres.presented.code ++ u8 a.start ++ u8 (rowsServed a)

/-- The reply of MP_READ_ROWS (05 R86, 12 R192). -/
def readReply (live : Option BankId) (a : ReadArgs) (s : State) : List Byte :=
  match live with
  | none => u8 noMeshCode
  | some i =>
    if a.start ≤ 8 ∧ 1 ≤ a.count ∧ a.count ≤ 9 then
      u8 Status.ok.code ++ readHeader i a s
        ++ (List.range (rowsServed a)).flatMap fun k => rowBytes s.pres.presented (s.pres.banks.get i) (a.start + k)
    else u8 Status.range.code

/-- The live bank becomes READING at the command byte of MP_READ_ROWS (05 R81). -/
def beginRead (s : State) : State :=
  match s.pres.banks.find .live with
  | none => s
  | some i => { s with pres := { s.pres with banks := s.pres.banks.setState i .reading } }

/-- MP_READ_ROWS (05 R81, R84, R86). Parameters that are not complete at the release are no command: only the bank
is READING. -/
def mpReadRows (v : Params ReadArgs) (s : State) : State :=
  if meshHeard s then
    let live := s.pres.banks.live
    let s := beginRead s
    match v with
    | .misfit => takeMesh 0 [] s
    | .form a => takeMesh 3 (readReply live a s) s
  else ignoreMesh s

/-- The selected format takes a value, and the engine is sent the forcing request (05 R87). In the load, before the
engine works, the request leaves its mark alone, and the first build takes it (04 R74, log 12). -/
def selectFormat (f : Format) (s : State) : State :=
  let s := { s with pres := { s.pres with selected := f } }
  if s.deaf then { s with eng := { s.eng with allDirty := true } } else rebuild true s

/-- MP_SET_FORMAT (05 R87); parameters that are not complete are no command (05 R84). -/
def mpSetFormat (v : Params Nat) (s : State) : State :=
  if meshHeard s then
    match v with
    | .misfit => takeMesh 0 [] s
    | .form 0 => takeMesh 2 (u8 Status.ok.code) (selectFormat .wide s)
    | .form 1 => takeMesh 2 (u8 Status.ok.code) (selectFormat .narrow s)
    | .form _ => takeMesh 2 (u8 Status.range.code) s
  else ignoreMesh s

/-- The command that the bytes of a transaction spell up to its release (05 R84, 12 R192): the command byte, then its
parameters; none without a byte. -/
def meshCommandOf : List Byte → Option Instr
  | [] => none
  | b :: l =>
    if b = 0x01#8 then some .mpStatus
    else if b = 0x02#8 then
      some (.mpReadRows (match l with
        | i :: n :: _ => .form ⟨i.toNat, n.toNat⟩
        | _ => .misfit))
    else if b = 0x03#8 then
      some (.mpSetFormat (match l with
        | f :: _ => .form f.toNat
        | [] => .misfit))
    else some (.mpUnknownCommand b)

/-- The command bytes of the Mesh Port (12 R192). -/
def meshCommand (b : Byte) : Bool := decide (b = 0x01#8 ∨ b = 0x02#8 ∨ b = 0x03#8)

/-- MP_UNKNOWN_COMMAND (05 R84): UNKNOWN alone. A byte that names a command is not this arrival (log 2). -/
def mpUnknown (b : Byte) (s : State) : State :=
  if meshHeard s && !meshCommand b then takeMesh 1 (u8 Status.unknown.code) s else ignoreMesh s

/-- The READING bank returns to LIVE, and while video is absent a deferred swap is made (05 R80, R81). -/
def endRead (s : State) : State :=
  match s.pres.banks.find .reading with
  | none => s
  | some i =>
    let s := { s with pres := { s.pres with banks := s.pres.banks.setState i .live } }
    if s.pres.video then s else trySwap s

/-- MCSN_RELEASE (05 R81, R84, R91): the transaction ends. -/
def mcsnReleased (s : State) : State := endRead { s with pres := { s.pres with trans := .none, miso := [] } }

/-- PRES_VIDEO_WATCH_EXPIRY (05 R80). -/
def presVideoExpired (s : State) : State :=
  if s.pres.video then trySwap { s with pres := { s.pres with video := false } } else s

def execPresVideoWatchExpiry (s : State) : Result := .next (presVideoExpired s)

def execMpStatus (s : State) : Result := .next (mpStatus s)

def execMpReadRows (v : Params ReadArgs) (s : State) : Result := .next (mpReadRows v s)

def execMpSetFormat (v : Params Nat) (s : State) : Result := .next (mpSetFormat v s)

def execMpUnknownCommand (cmd : Byte) (s : State) : Result := .next (mpUnknown cmd s)

def execMcsnRelease (s : State) : Result := .next (mcsnReleased s)

end Sys2Proof.Machine
end

