-- ==== Sys2Proof/Machine/Axes.lean ====
section
/-! DEFINITION. The Axis Drive Unit (06): the step generator, the ends of legs, settling, homing, the index check,
MDFLT, jog, STOP, settings and status. An arrival that cannot arise in the state it meets changes nothing (log 2). -/

namespace Sys2Proof.Machine

/-! ## Steps and ends of motion -/

/-- The speed of a jog level (06 R105). -/
def levelSpeed (g : AxisSettings) (level : Nat) : Int :=
  g.startSpeed + roundDiv ((g.maxSpeed - g.startSpeed) * ((level : Int) - 1)) 3

/-- The position one step on, in the direction output's sense; the soft limits hold it (06 R95). -/
def stepPosition (g : AxisSettings) (r : AxisRec) : AxisRec :=
  let p := r.position + stepSign r.dir
  if within 0 g.travel p then { r with position := p } else r

/-- A jog run begins at the position, at the start speed, toward its level's speed (06 R104, R105, R106). -/
def beginRun (g : AxisSettings) (d : StepDir) (r : AxisRec) : AxisRec :=
  { r with
    leg := .run, dir := d, jogDir := d, legStart := r.position, jogPeak := levelSpeed g r.jogLevel,
    jogLow := levelSpeed g r.jogLevel, jogSlow := g.startSpeed * g.startSpeed,
    jogFast := g.startSpeed * g.startSpeed }

/-- The square of the speed from which the start speed is reached exactly at the soft limit a jog run runs toward (06
R106). -/
def limitSquare (g : AxisSettings) (r : AxisRec) : Int :=
  g.startSpeed * g.startSpeed + 2 * g.accel * (mag (softLimit g r.dir - r.legStart) - covered r)

/-- The profile of a jog run, one step on (06 R96, R105, R106): the squared speed has gone toward the least and the
greatest speed aimed at since the last step, and never above that of the soft limit; from here on the speed aimed at is
that of the level, or the start speed while the run reverses (log 8). -/
def followPace (g : AxisSettings) (r : AxisRec) : AxisRec :=
  let aim := if r.dir = r.jogDir then levelSpeed g r.jogLevel else g.startSpeed
  let next (speed square : Int) : Int := min (paceToward (2 * g.accel) (speed * speed) square) (limitSquare g r)
  { r with
    jogSlow := next r.jogLow r.jogSlow, jogFast := next r.jogPeak r.jogFast, jogLow := aim, jogPeak := aim }

/-- A step of a jog run (06 R95, R96). -/
def runStep (g : AxisSettings) (r : AxisRec) : AxisRec :=
  if within 0 g.travel (r.position + stepSign r.dir) then followPace g (stepPosition g r) else r

/-- A deceleration has reached a whole step on which it can rest (06 R96, log 8). -/
def canRest (r : AxisRec) : Bool := within r.stopLo r.stopHi (covered r)

/-- The next step of a leg, a jog or a deceleration, in direction d (06 R96, R106, R107). A jog that reverses issues
steps the old way while it decelerates; the first step the new way, from a step on which it can rest, is the turn
(log 9). -/
def stepMotion (g : AxisSettings) (d : StepDir) (r : AxisRec) : AxisRec :=
  match r.leg with
  | .leg1 | .leg2 => if d = r.dir ∧ r.position ≠ r.legEnd then stepPosition g r else r
  | .stopping => if d = r.dir ∧ covered r < r.stopHi then stepPosition g r else r
  | .run =>
    if r.dir = r.jogDir then (if d = r.dir then runStep g r else r)
    else if d = r.dir then (if covered r < r.stopHi then runStep g r else r)
    else (if canRest r then runStep g (beginRun g d r) else r)
  | _ => r

/-- STEP_ISSUED: a step of a leg or a jog changes the position; a step of a homing phase changes the homing count,
whose limit is tested at each step (06 R95, R96, R100). -/
def stepIssued (x : Axis) (d : StepDir) (s : State) : State :=
  let r := s.axes.get x
  let g := s.set.axes.get x
  match r.state with
  | .moving | .jog => s.setAxis x (stepMotion g d r)
  | .homing =>
    if d = r.dir then
      if homingLimit g ≤ (r.homingCount : Int) + 1 then homeTimedOut x s
      else s.setAxis x { r with homingCount := r.homingCount + 1 }
    else s
  | _ => s

/-- The end point of the leg is the position, or the next step lands on it (log 7). -/
def atLegEnd (g : AxisSettings) (r : AxisRec) : Bool :=
  decide (r.position = r.legEnd) || decide ((stepPosition g r).position = r.legEnd)

/-- The axis after the last step of a leg: LEG2 when the target lies beyond, otherwise SETTLING (06 R97, R98). -/
def endLeg (r : AxisRec) : AxisRec :=
  let r := { r with position := r.legEnd }
  match r.leg, r.target with
  | .leg1, some t => if t = r.legEnd then settleAxis r else planLeg .leg2 t r
  | _, _ => settleAxis r

/-- LEG_END (06 R97). -/
def legEnded (x : Axis) (s : State) : State :=
  let r := s.axes.get x
  match r.state, r.leg with
  | .moving, .leg1 | .moving, .leg2 =>
    if atLegEnd (s.set.axes.get x) r then s.setAxis x (endLeg r) else s
  | _, _ => s

/-- STOP_DECELERATION_END (06 R108). -/
def stopDecelerationEnded (x : Axis) (s : State) : State :=
  let r := s.axes.get x
  match r.state, r.leg with
  | .moving, .stopping => if canRest r then s.setAxis x (settleAxis r) else s
  | _, _ => s

/-- SETTLE_TIME_EXPIRY (06 R98): IDLE, then the zoom settle, then the axis's part of its request. -/
def settleExpired (x : Axis) (s : State) : State :=
  let r := s.axes.get x
  match r.state with
  | .settling =>
    let s := s.setAxis x { r with state := .idle }
    settleQueue (if x = .zoom then zoomSettle s else s)
  | _ => s

/-! ## Inputs -/

/-- HOME_SWITCH_EDGE (06 R99, R100): the release ends RELEASE, the activation ends SEEK, whose homing count stays
(log 31); any other edge changes only the filtered level. -/
def homeEdge (x : Axis) (s : State) : State :=
  let f := s.inputs.home.get x
  if s.held || !f.running then s
  else
    let s := { s with inputs := { s.inputs with home := s.inputs.home.set x f.confirm } }
    let r := s.axes.get x
    match r.state, r.leg, f.raw with
    | .homing, .release, false =>
      s.setAxis x { r with leg := .seek, homingCount := 0, dir := .negative }
    | .homing, .seek, true => s.setAxis x (settleAxis { r with position := 0 })
    | _, _, _ => s

/-- HOME_TIMEOUT (06 R100): the step that brings the homing count to its limit (log 7). -/
def homeTimeout (x : Axis) (s : State) : State :=
  let r := s.axes.get x
  match r.state with
  | .homing => if homingLimit (s.set.axes.get x) ≤ (r.homingCount : Int) + 1 then homeTimedOut x s else s
  | _ => s

/-- INDEX_EDGE (06 R101): an activation while MOVING is compared with the index position. -/
def indexEdge (x : Axis) (s : State) : State :=
  let f := s.inputs.index.get x
  if s.held || !f.running then s
  else
    let s := { s with inputs := { s.inputs with index := s.inputs.index.set x f.confirm } }
    let r := s.axes.get x
    let g := s.set.axes.get x
    if f.raw && decide (r.state = .moving) && decide (g.indexTol < mag (f.edgePos - g.indexPos)) then
      partFailed x (s.setAxis x { haltAxis .lost r with indexError := some f.edgePos })
    else s

/-- MDFLT_ACTIVATION (06 R102). During the load only the filtered level changes (11 R187). -/
def mdfltActivated (s : State) : State :=
  if s.held || !(s.inputs.mdflt.running && s.inputs.mdflt.raw) then s
  else
    let s := { s with inputs := { s.inputs with mdflt := s.inputs.mdflt.confirm } }
    if s.deaf then s else driverFault s

/-- MDFLT_DEASSERTION (06 R102): the filtered level alone. -/
def mdfltDeasserted (s : State) : State :=
  if s.held || !(s.inputs.mdflt.running && !s.inputs.mdflt.raw) then s
  else { s with inputs := { s.inputs with mdflt := s.inputs.mdflt.confirm } }

/-- A change of the raw level at one input. -/
def changeInput (pin : InputPin) (level : Bool) (s : State) : State :=
  let u (f : Filtered) (p : Int) : Filtered := if s.held then f.follow level else f.change level p
  let i := s.inputs
  { s with inputs := match pin with
    | .home x => { i with home := i.home.set x (u (i.home.get x) (s.axes.get x).position) }
    | .index x => { i with index := i.index.set x (u (i.index.get x) (s.axes.get x).position) }
    | .mdflt => { i with mdflt := u i.mdflt 0 }
    | .tco => { i with tco := u i.tco 0 }
    | .drvflt => { i with drvflt := u i.drvflt 0 }
    | .tach f => { i with tach := i.tach.set f (u (i.tach.get f) 0) } }

/-! ## Jog -/

/-- The step direction of a jog direction code under an orientation (06 R105); none when the code is of the wrong
kind for the axis (06 R104). Codes: LEFT 0, RIGHT 1, UP 2, DOWN 3, PLUS 4, MINUS 5. -/
def jogStep (x : Axis) (o : Orientation) (code : Nat) : Option StepDir :=
  match x, o, code with
  | .shiftH, .floor, 1 | .shiftH, .ceiling, 0 | .shiftV, .floor, 2 | .shiftV, .ceiling, 3 => some .positive
  | .shiftH, .floor, 0 | .shiftH, .ceiling, 1 | .shiftV, .floor, 3 | .shiftV, .ceiling, 2 => some .negative
  | .zoom, _, 4 | .focus, _, 4 => some .positive
  | .zoom, _, 5 | .focus, _, 5 => some .negative
  | _, _, _ => none

/-- A WAITING request names the axis. -/
def waitingNames (s : State) (x : Axis) : Bool := s.mq.requests.any fun r => !r.dispatched && r.names x

/-- The jog timeout starts, or a refresh restarts it, with its load: a new run of it (06 R104, R106; log 36). -/
def startTimeout (load : Int) (r : AxisRec) : AxisRec := { r with jogTimer := some load, jogRun := r.jogRun + 1 }

/-- A jog starts (06 R104): at the soft limit it is in HOLD at once. -/
def startJog (s : State) (p : Port) (x : Axis) (d : StepDir) (level : Nat) : AxisRec :=
  let r := s.axes.get x
  let g := s.set.axes.get x
  let run := beginRun g d { startTimeout s.set.jogTimeout r with
    state := .jog, jogOwner := some p, jogLevel := level, jogMap := s.att.effective }
  if r.position = softLimit g d then { run with leg := .hold } else run

/-- A jog run is to keep or take the speed of a level (06 R106): the speeds aimed at since its last step take it in. -/
def changeLevel (g : AxisSettings) (level : Nat) (r : AxisRec) : AxisRec :=
  { r with jogPeak := max r.jogPeak (levelSpeed g level), jogLow := min r.jogLow (levelSpeed g level) }

/-- A refresh from the owner (06 R106). The opposite direction decelerates the run. The model's choices (log 9): the jog
direction and the jog level are those of the refresh from here on, while the axis still decelerates the old way; and a
refresh back to the old direction while it decelerates resumes the run at once, from the speed it has come down to. -/
def refreshJog (s : State) (x : Axis) (d : StepDir) (level : Nat) : AxisRec :=
  let g := s.set.axes.get x
  let r := { startTimeout s.set.jogTimeout (s.axes.get x) with jogLevel := level }
  match r.leg with
  | .hold =>
    if d = r.jogDir then r else beginRun g d r
  | _ =>
    if r.dir = r.jogDir then
      if d = r.dir then changeLevel g level r else { slowJog g r with jogDir := d, jogLow := g.startSpeed }
    else if d = r.jogDir then r
    else changeLevel g level { r with jogDir := d }

/-- JOG (06 R104, R106). -/
def jogCommand (p : Port) (a : JogArgs) (s : State) : Answer :=
  match axisOf a.axis with
  | none => refuse s .range
  | some x =>
    let r := s.axes.get x
    let o := if r.state = .jog then r.jogMap else s.att.effective
    match jogStep x o a.dir with
    | none => refuse s .range
    | some d =>
      if 1 ≤ a.level ∧ a.level ≤ 4 then
        if r.state = .jog then
          if r.jogOwner = some p ∧ (r.leg = .run ∨ r.leg = .hold) then
            accept (s.setAxis x (refreshJog s x d a.level))
          else refuse s .busy
        else if r.state = .idle ∧ r.running = none ∧ waitingNames s x = false then
          accept (s.setAxis x (startJog s p x d a.level))
        else refuse s .busy
      else refuse s .range

/-- The soft limit is the position, or the next step lands on it (log 7). -/
def atSoftLimit (g : AxisSettings) (r : AxisRec) : Bool :=
  decide (r.position = softLimit g r.dir) || decide ((stepPosition g r).position = softLimit g r.dir)

/-- JOG_SOFT_LIMIT_REACHED (06 R106). -/
def jogLimitReached (x : Axis) (s : State) : State :=
  let r := s.axes.get x
  let g := s.set.axes.get x
  match r.state, r.leg with
  | .jog, .run =>
    if r.dir = r.jogDir ∧ atSoftLimit g r then
      s.setAxis x { r with position := softLimit g r.dir, leg := .hold }
    else s
  | _, _ => s

/-- JOG_TIMEOUT_EXPIRY (06 R107): the jog ends, when the run of the timeout that has expired is the one in progress.
After a refresh that came with the expiry and was taken first, the timeout has restarted, and the jog goes on (log 36). -/
def jogTimedOut (e : JogRun) (s : State) : State :=
  let r := s.axes.get e.axis
  match r.state with
  | .jog =>
    if r.jogTimer.isSome ∧ r.jogRun = e.run then s.setAxis e.axis (endJog (s.set.axes.get e.axis) r) else s
  | _ => s

/-- JOG_STOP_END (06 R107). -/
def jogStopped (x : Axis) (s : State) : State :=
  let r := s.axes.get x
  match r.state, r.leg with
  | .jog, .stopping => if canRest r then s.setAxis x (settleAxis r) else s
  | _, _ => s

/-- JOG_END (06 R107). -/
def jogEndCommand (p : Port) (a : Nat) (s : State) : Answer :=
  match axisOf a with
  | none => refuse s .range
  | some x =>
    let r := s.axes.get x
    if r.state = .jog ∧ (r.leg = .run ∨ r.leg = .hold) then
      if r.jogOwner = some p then accept (s.setAxis x (endJog (s.set.axes.get x) r)) else refuse s .busy
    else accept s

/-- STOP (06 R108). -/
def stopCommand (m : Nat) (s : State) : Answer :=
  if m = 0 ∨ 16 ≤ m then refuse s .range else accept (stopNamed (axesOfMask m) s)

/-! ## Settings and status -/

/-- The settings that AXIS_SET_PARAMS carries; none for an approach code that names nothing. -/
def axisSettingsOf (a : AxisArgs) : Option AxisSettings :=
  let g (d : StepDir) : AxisSettings :=
    { travel := a.travel, startSpeed := a.startSpeed, maxSpeed := a.maxSpeed, accel := a.accel,
      homingSpeed := a.homingSpeed, backlash := a.backlash, approach := d, indexPos := a.indexPos,
      indexTol := a.indexTol, settle := a.settle }
  match a.approach with
  | 0 => some (g .positive)
  | 1 => some (g .negative)
  | _ => none

/-- Replace the settings of an axis; a change of travel makes it UNHOMED (06 R109). Its homing count is held within the
range that the new travel gives it (06 R93): that it stays where the range allows is the model's choice (log 31). -/
def replaceAxisSettings (x : Axis) (g : AxisSettings) (s : State) : State :=
  let r := s.axes.get x
  let changed := decide (g.travel ≠ (s.set.axes.get x).travel)
  let s := { s with set := { s.set with axes := s.set.axes.set x g } }
  if changed then
    settleQueue (s.setAxis x { haltAxis .unhomed r with
      reason := .none, indexError := none, homingCount := min r.homingCount (homingLimit g).toNat })
  else s

/-- AXIS_SET_PARAMS (06 R109). -/
def axisSetParams (a : AxisArgs) (s : State) : Answer :=
  match axisOf a.axis, axisSettingsOf a with
  | some x, some g =>
    if g.ok then
      if (s.axes.get x).state.busy || (s.axes.get x).running.isSome then refuse s .busy
      else accept (replaceAxisSettings x g s)
    else refuse s .range
  | _, _ => refuse s .range

/-- AXIS_SET_JOG (06 R109). -/
def axisSetJog (t : Nat) (s : State) : Answer :=
  if jogTimeoutOk t then accept { s with set := { s.set with jogTimeout := t } } else refuse s .range

/-- The running request of an axis in a reply: source, tag, absent flag (06 R110); the tag is 0 for a request that has
none (log 34). -/
def runningBytes (s : State) (r : AxisRec) : List Byte :=
  match r.running.bind (findRequest s) with
  | none => u8 0 ++ u8 0 ++ flag true
  | some q => u8 q.source.code ++ u8 (q.tag.getD 0) ++ flag false

/-- The jog of an axis in a reply: owner, direction, level, absent flag (06 R110). -/
def jogBytes (r : AxisRec) : List Byte :=
  match r.jogOwner with
  | none => u8 0 ++ u8 0 ++ u8 0 ++ flag true
  | some p => u8 (portCode p) ++ u8 (stepDirCode r.jogDir) ++ u8 r.jogLevel ++ flag false

/-- One axis of AXIS_STATUS (06 R110); an absent index error is sent as 0 (log 34). -/
def axisBytes (s : State) (x : Axis) : List Byte :=
  let r := s.axes.get x
  u8 r.state.code ++ u8 r.leg.code ++ s16 r.position ++ opt16 r.target ++ u24 r.homingCount
    ++ runningBytes s r ++ jogBytes r ++ u8 r.reason.code ++ s16 (r.indexError.getD 0)
    ++ flag (s.inputs.home.get x).level ++ flag (s.inputs.index.get x).level ++ flag (enableOutput r)

/-- The data of AXIS_STATUS (06 R110). -/
def axisStatusData (s : State) : List Byte :=
  allAxes.flatMap (axisBytes s) ++ flag s.inputs.mdflt.level ++ s16 s.set.jogTimeout

/-- The ten settings of an axis (06 R110), in the order and widths of AXIS_SET_PARAMS (12 R190). -/
def axisSettingsBytes (g : AxisSettings) : List Byte :=
  s16 g.travel ++ s16 g.startSpeed ++ s16 g.maxSpeed ++ s24 g.accel ++ s16 g.homingSpeed ++ s8 g.backlash
    ++ u8 (stepDirCode g.approach) ++ s16 g.indexPos ++ s8 g.indexTol ++ s16 g.settle

/-- AXIS_READ_PARAMS (06 R110). -/
def axisReadParams (a : Nat) (s : State) : Answer :=
  match axisOf a with
  | none => refuse s .range
  | some x => reply s (axisSettingsBytes (s.set.axes.get x))

def execStepIssued (x : Axis) (d : StepDir) (s : State) : Result := .next (stepIssued x d s)

def execLegEnd (x : Axis) (s : State) : Result := .next (legEnded x s)

def execStopDecelerationEnd (x : Axis) (s : State) : Result := .next (stopDecelerationEnded x s)

def execSettleTimeExpiry (x : Axis) (s : State) : Result := .next (settleExpired x s)

def execHomeSwitchEdge (x : Axis) (s : State) : Result := .next (homeEdge x s)

def execHomeTimeout (x : Axis) (s : State) : Result := .next (homeTimeout x s)

def execIndexEdge (x : Axis) (s : State) : Result := .next (indexEdge x s)

def execMdfltActivation (s : State) : Result := .next (mdfltActivated s)

def execMdfltDeassertion (s : State) : Result := .next (mdfltDeasserted s)

def execRawLevelChange (pin : InputPin) (level : Bool) (s : State) : Result := .next (changeInput pin level s)

def execJog (p : Port) (v : Params JogArgs) (s : State) : Result := command p 0x50#8 .motion v (jogCommand p) s

def execJogSoftLimitReached (x : Axis) (s : State) : Result := .next (jogLimitReached x s)

def execJogTimeoutExpiry (e : JogRun) (s : State) : Result := .next (jogTimedOut e s)

def execJogStopEnd (x : Axis) (s : State) : Result := .next (jogStopped x s)

def execJogEnd (p : Port) (v : Params Nat) (s : State) : Result := command p 0x51#8 .motion v (jogEndCommand p) s

def execStop (p : Port) (v : Params Nat) (s : State) : Result := command p 0x52#8 .motion v stopCommand s

def execAxisSetParams (p : Port) (v : Params AxisArgs) (s : State) : Result :=
  command p 0x53#8 .config v axisSetParams s

def execAxisSetJog (p : Port) (v : Params Nat) (s : State) : Result := command p 0x54#8 .config v axisSetJog s

def execAxisStatus (p : Port) (v : Params Unit) (s : State) : Result :=
  command p 0x55#8 .none v (fun _ s => reply s (axisStatusData s)) s

def execAxisReadParams (p : Port) (v : Params Nat) (s : State) : Result :=
  command p 0x56#8 .none v axisReadParams s

end Sys2Proof.Machine
end

