-- ==== Sys2Proof/Machine/Protection.lean ====
section
/-! DEFINITION. The Protection Unit (09): the allowance, the trip, the light request and LSEN, the afterrun timer,
and its commands. -/

namespace Sys2Proof.Machine

/-- The TEMP channels in the order of their ids. -/
def tempChannels : List (Fin 7) := [0, 1, 2, 3, 4, 5, 6]

/-- The record of a TEMP channel (00, Channels: TEMP channels are 0 to 6). -/
def tempRec (s : State) (c : Fin 7) : ChannelRec := s.smp.records.get (Fin.castLE (by decide) c)

/-- The filtered value of a TEMP channel in VALID. -/
def validTemp (s : State) (c : Fin 7) : Option Int :=
  if (tempRec s c).validity = .valid then (tempRec s c).filtered else none

/-- The number of TEMP channels in FAULT. -/
def faultCount (s : State) : Nat := (tempChannels.filter fun c => decide ((tempRec s c).validity = .fault)).length

/-- The number of fans in FAILED. -/
def failedCount (s : State) : Nat := (allFans.filter fun f => decide ((s.fan.fans.get f).state = .failed)).length

/-! ## The allowance -/

/-- A channel derate (09 R151). -/
def channelDerate (g : Threshold) (t : Int) : Int :=
  if t ≤ g.ts then 0 else min 1000 (roundDiv (1000 * (t - g.ts)) (g.tt - g.ts))

/-- The greatest channel derate with its channel, the lower id on a tie; absent when no channel is VALID
(09 R151). -/
def channelTermOf (s : State) : Option (Int × Fin 7) :=
  tempChannels.foldl (fun best c =>
    match validTemp s c with
    | none => best
    | some t =>
      let d := channelDerate (s.set.thresholds.get c) t
      match best with
      | none => some (d, c)
      | some b => if b.1 < d then some (d, c) else best) none

/-- The fan shortfall: the greatest of the three (09 R152). -/
def fanShortfall (s : State) : Int :=
  max s.fan.fans.ls.shortfall (max s.fan.fans.oe.shortfall s.fan.fans.ex.shortfall)

/-- The shortfall derate (09 R152). -/
def shortfallDerateOf (s : State) : Int := roundDiv (fanShortfall s * s.set.prot.gain) 16

/-- The raw allowance from the derate terms, the FAULT channels and the FAILED fans (09 R153). -/
def rawAllowance (floor term derate : Int) (fault failed : Nat) : Int :=
  let a := 1000 - max term derate
  let a := if 0 < fault then min a 700 else a
  let a := if 0 < failed then floor else a
  clamp floor 1000 a

/-- The allowance after an evaluation with the trip CLEAR (09 R154). -/
def nextAllowance (rise raw allowance : Int) : Int :=
  if raw ≤ allowance then raw else min raw (allowance + roundDiv rise 10)

/-- The allowance takes a value; THERMAL_WARN when it leaves 1000 downward (09 R157). -/
def setAllowance (a : Int) (s : State) : State :=
  let t := { s with prot := { s.prot with allowance := a } }
  if s.prot.allowance = 1000 ∧ a < 1000 then raise .both .thermalWarn t else t

/-! ## The trip -/

/-- The afterrun timer starts with the afterrun time; a time of 0 ends it at once (09 R165). -/
def afterrunStart (s : State) : Option Int := if s.set.prot.afterrun = 0 then none else some s.set.prot.afterrun

/-- The protection periods of 100 ms that an afterrun time of t seconds sees at the least (09 R150, R165; log 35). -/
def afterrunPeriods (t : Int) : Nat := (10 * t - 1).toNat

/-- LSEN is judged again (09 R164). -/
def judgeLsen (s : State) : State := { s with prot := s.prot.judgeLsen }

/-- The trip latches, unless it is LATCHED (09 R160). -/
def latchTrip (c : TripCause) (s : State) : State :=
  match s.prot.trip with
  | some _ => s
  | none =>
    raise .both .thermalTrip
      (judgeLsen
        (setAllowance 0 { s with prot := { s.prot with
          trip := some c, afterrun := afterrunStart s, afterrunWait := afterrunPeriods s.set.prot.afterrun } }))

/-- The first trip condition that an evaluation finds (09 R158). -/
def tripCondition (s : State) : Option TripCause :=
  match tempChannels.find? fun c => match validTemp s c with
      | none => false
      | some t => decide ((s.set.thresholds.get c).tt ≤ t) with
  | some c => some (.channel c)
  | none => if 2 ≤ failedCount s then some .fans else none

/-- The trip test of an evaluation (09 R158). -/
def testTrip (s : State) : State :=
  match tripCondition s with
  | none => s
  | some c => latchTrip c s

/-- The derate terms, the raw allowance and the counts of an evaluation (09 R151 to R153, R167). -/
def formRaw (s : State) : State :=
  let term := channelTermOf s
  let channelTerm := (term.map Prod.fst).getD 0
  { s with prot := { s.prot with
      channelTerm := channelTerm, termChannel := term.map Prod.snd, shortfallDerate := shortfallDerateOf s,
      raw := rawAllowance s.set.prot.floor channelTerm (shortfallDerateOf s) (faultCount s) (failedCount s),
      faultSeen := faultCount s, failedSeen := failedCount s } }

/-- The allowance moves toward the raw allowance, unless the trip is LATCHED (09 R154). -/
def moveAllowance (s : State) : State :=
  match s.prot.trip with
  | some _ => s
  | none => setAllowance (nextAllowance s.set.prot.rise s.prot.raw s.prot.allowance) s

/-- One protection period of the run of the afterrun timer has passed (log 35). -/
def passPeriod (s : State) : State := { s with prot := { s.prot with afterrunWait := s.prot.afterrunWait - 1 } }

/-- PROTECTION_PERIOD_EXPIRY: one evaluation, the trip test first (09 R150). -/
def evaluate (s : State) : State :=
  if s.prot.running then moveAllowance (formRaw (testTrip (passPeriod s))) else s

/-- The filter of a fault input confirms an activation: the level changes, and the trip latches, but not during the
load (09 R159, 11 R187). -/
def tcoActivated (s : State) : State :=
  if s.held || !(s.inputs.tco.running && s.inputs.tco.raw) then s
  else
    let t := { s with inputs := { s.inputs with tco := s.inputs.tco.confirm } }
    if s.deaf then t else latchTrip .tco t

def drvfltActivated (s : State) : State :=
  if s.held || !(s.inputs.drvflt.running && s.inputs.drvflt.raw) then s
  else
    let t := { s with inputs := { s.inputs with drvflt := s.inputs.drvflt.confirm } }
    if s.deaf then t else latchTrip .drvflt t

/-- A filtered deassertion changes the level alone (09 R159). -/
def tcoDeasserted (s : State) : State :=
  if s.held || !(s.inputs.tco.running && !s.inputs.tco.raw) then s
  else { s with inputs := { s.inputs with tco := s.inputs.tco.confirm } }

def drvfltDeasserted (s : State) : State :=
  if s.held || !(s.inputs.drvflt.running && !s.inputs.drvflt.raw) then s
  else { s with inputs := { s.inputs with drvflt := s.inputs.drvflt.confirm } }

/-- AFTERRUN_TIMER_EXPIRY (09 R165). An expiry that comes with a restart, and is taken after it, is that of the run
before, and the restarted timer runs on with its full time: it is told by the protection periods since the start, of
which the run sees more before its own expiry (log 35). -/
def afterrunExpired (s : State) : State :=
  if 0 < s.prot.afterrunWait then s else { s with prot := { s.prot with afterrun := none } }

/-- Start-up completion is tested: no TEMP channel in NEW (09 R163). -/
def judgeStartup (s : State) : State :=
  if s.prot.startup then s
  else if tempChannels.all fun c => decide ((tempRec s c).validity ≠ .new) then
    judgeLsen { s with prot := { s.prot with startup := true } }
  else s

/-! ## Commands -/

/-- The light request takes a value (09 R162, R165). -/
def requestLight (on : Bool) (s : State) : State :=
  if on = s.prot.lightRequest then s
  else
    judgeLsen { s with prot := { s.prot with
      lightRequest := on, afterrun := if on then none else afterrunStart s,
      afterrunWait := if on then 0 else afterrunPeriods s.set.prot.afterrun } }

/-- LIGHT (09 R162): the reply carries LSEN after the command. -/
def lightCommand (a : Nat) (s : State) : Answer :=
  match a with
  | 0 => reply (requestLight false s) (flag (requestLight false s).prot.lsen)
  | 1 => reply (requestLight true s) (flag (requestLight true s).prot.lsen)
  | _ => refuse s .range

/-- The first condition that holds a clear back (09 R161). -/
def hotCondition (s : State) : Option TripCause :=
  match tempChannels.find? fun c => match validTemp s c with
      | none => false
      | some t => decide ((s.set.thresholds.get c).tt - 50 ≤ t) with
  | some c => some (.channel c)
  | none =>
    if s.inputs.tco.level then some .tco
    else if s.inputs.drvflt.level then some .drvflt
    else if 2 ≤ failedCount s then some .fans
    else none

/-- The trip clears (09 R161): the allowance becomes the floor, and LSEN is judged. -/
def releaseTrip (s : State) : State :=
  judgeLsen { s with prot := { s.prot with trip := none, allowance := s.set.prot.floor } }

/-- CLEAR_TRIP (09 R161). -/
def clearTripCommand (_ : Unit) (s : State) : Answer :=
  match s.prot.trip with
  | none => accept s
  | some _ =>
    match hotCondition s with
    | some c => { st := s, status := .hot, data := u8 c.code }
    | none => accept (releaseTrip s)

/-- The settings that PROT_SET_PARAMS carries. -/
def protSettingsOf (a : ProtArgs) : ProtSettings :=
  { floor := a.floor, rise := a.rise, gain := a.gain, afterrun := a.afterrun }

/-- The allowance under a new floor (09 R155). -/
def liftToFloor (s : State) : State :=
  if s.prot.trip.isNone && decide (s.prot.allowance < s.set.prot.floor) then setAllowance s.set.prot.floor s else s

/-- PROT_SET_PARAMS (09 R155). -/
def protSetParams (a : ProtArgs) (s : State) : Answer :=
  if (protSettingsOf a).ok then accept (liftToFloor { s with set := { s.set with prot := protSettingsOf a } })
  else refuse s .range

/-- PROT_SET_THRESHOLDS (09 R156). -/
def protSetThresholds (a : ThresholdArgs) (s : State) : Answer :=
  if a.channel < 7 ∧ (⟨a.ts, a.tt⟩ : Threshold).ok = true then
    accept { s with set := { s.set with thresholds := setAt s.set.thresholds a.channel ⟨a.ts, a.tt⟩ } }
  else refuse s .range

/-- The data of PROT_READ_SETTINGS (09 R156). -/
def protSettingsData (s : State) : List Byte :=
  s.set.thresholds.toList.flatMap (fun g => s16 g.ts ++ s16 g.tt)
    ++ s16 s.set.prot.floor ++ s16 s.set.prot.rise ++ s8 s.set.prot.gain ++ s16 s.set.prot.afterrun

/-- PROT_READ_SETTINGS (09 R156). -/
def protReadSettings (_ : Unit) (s : State) : Answer := reply s (protSettingsData s)

/-- The data of PROT_STATUS with the time left on the afterrun timer (09 R167); no channel is 0xFF (log 17). -/
def protStatusData (left : Nat) (s : State) : List Byte :=
  s16 s.prot.allowance ++ s16 s.prot.raw
    ++ s16 s.prot.channelTerm ++ u8 ((s.prot.termChannel.map Fin.val).getD 0xFF) ++ s16 s.prot.shortfallDerate
    ++ flag s.prot.trip.isSome ++ opt8 (s.prot.trip.map TripCause.code)
    ++ flag s.prot.lightRequest ++ flag s.prot.startup ++ flag s.prot.lsen
    ++ flag s.prot.afterrun.isSome ++ u16 left
    ++ flag s.inputs.tco.level ++ flag s.inputs.drvflt.level ++ u8 s.prot.failedSeen ++ u8 s.prot.faultSeen

/-- PROT_STATUS (09 R167): the time left of a running timer is a free value within its load (log 4), and that of a
stopped one is sent as 0 (log 34). -/
def protStatus (_ : Unit) (s : State) : Answer :=
  match s.prot.afterrun with
  | none => reply s (protStatusData 0 s)
  | some t =>
    let q := drawFree t.toNat s
    reply q.2 (protStatusData q.1 s)

def execProtectionPeriodExpiry (s : State) : Result := .next (evaluate s)

def execTcoActivation (s : State) : Result := .next (tcoActivated s)

def execDrvfltActivation (s : State) : Result := .next (drvfltActivated s)

def execTcoDeassertion (s : State) : Result := .next (tcoDeasserted s)

def execDrvfltDeassertion (s : State) : Result := .next (drvfltDeasserted s)

def execAfterrunTimerExpiry (s : State) : Result := .next (afterrunExpired s)

def execLight (p : Port) (v : Params Nat) (s : State) : Result := command p 0x94#8 .systemPort v lightCommand s

def execClearTrip (p : Port) (v : Params Unit) (s : State) : Result :=
  command p 0x95#8 .systemPort v clearTripCommand s

def execProtSetParams (p : Port) (v : Params ProtArgs) (s : State) : Result :=
  command p 0x90#8 .config v protSetParams s

def execProtSetThresholds (p : Port) (v : Params ThresholdArgs) (s : State) : Result :=
  command p 0x91#8 .config v protSetThresholds s

def execProtReadSettings (p : Port) (v : Params Unit) (s : State) : Result :=
  command p 0x93#8 .none v protReadSettings s

def execProtStatus (p : Port) (v : Params Unit) (s : State) : Result := command p 0x92#8 .none v protStatus s

end Sys2Proof.Machine
end

