-- ==== Sys2Proof/Machine/Fans.lean ====
section
/-! DEFINITION. The Fan Controller (08): demand, override, target and duty at a control period, the fan states, the
tach supervision, and its commands. -/

namespace Sys2Proof.Machine

/-! ## Demand, override, target (08, section 8.2) -/

/-- The lookup beyond a point of the curve (08 R134). -/
def lookupFrom (t : Int) (p : CurvePoint) : List CurvePoint → Int
  | [] => p.d
  | q :: rest =>
    if t ≤ q.t then p.d + roundDiv ((q.d - p.d) * (t - p.t)) (q.t - p.t) else lookupFrom t q rest

/-- The lookup of a temperature in a curve (08 R134). -/
def lookup (c : List CurvePoint) (t : Int) : Int :=
  match c with
  | [] => 0
  | p :: rest => if t ≤ p.t then p.d else lookupFrom t p rest

/-- The orientation offset of a TEMP channel in force (08 R133, R135). -/
def offsetOf (s : State) (c : Fin 7) : Int :=
  match s.att.effective with
  | .floor => (s.set.offsets.get c).floor
  | .ceiling => (s.set.offsets.get c).ceiling

/-- The contribution of a bound channel: none in NEW (08 R135). -/
def contribution (s : State) (curve : List CurvePoint) (c : Fin 7) : Option Int :=
  match (tempRec s c).validity with
  | .new => none
  | .fault => some 1000
  | .valid => (tempRec s c).filtered.map fun t => lookup curve (t + offsetOf s c)

/-- The greatest of a list of contributions; absent when there is none. -/
def greatest : List Int → Option Int
  | [] => none
  | d :: l => some (match greatest l with
    | none => d
    | some e => max d e)

/-- A demand from 1 to spin floor - 1 becomes the spin floor (08 R136). -/
def liftDemand (spinFloor d : Int) : Int := if 0 < d ∧ d < spinFloor then spinFloor else d

/-- The channels bound to a fan. -/
def boundChannels (g : FanSettings) : List (Fin 7) := tempChannels.filter fun c => g.bound.get c

/-- The demand of a fan (08 R136). -/
def demandOf (s : State) (g : FanSettings) : Int :=
  match greatest ((boundChannels g).filterMap (contribution s g.curve)) with
  | none => g.spinFloor
  | some d => liftDemand g.spinFloor d

/-- A fan is under override. -/
def Override.any (o : Override) : Bool := o.trip || o.failedFan || o.faultChannel

/-- The override of a fan (08 R137). -/
def overrideOf (s : State) (g : FanSettings) : Override :=
  { trip := s.prot.trip.isSome,
    failedFan := allFans.any fun f => decide ((s.fan.fans.get f).state = .failed),
    faultChannel := (boundChannels g).any fun c => decide ((tempRec s c).validity = .fault) }

/-- The afterrun duty (08 R138). -/
def afterrunDuty : Int := 600

/-- The target before the raise of afterrun, without override (08 R138). -/
def plainTarget (quiet : Bool) (cap demand : Int) : Int := if quiet then min demand cap else demand

/-- The target of a fan (08 R138). -/
def targetOf (quiet override afterrun : Bool) (cap demand : Int) : Int :=
  if override then 1000
  else if afterrun then max (plainTarget quiet cap demand) (plainTarget quiet cap afterrunDuty)
  else plainTarget quiet cap demand

/-- The shortfall of a fan (08 R138). -/
def shortfallOf (quiet override : Bool) (cap demand : Int) : Int :=
  if override then 0 else demand - plainTarget quiet cap demand

/-- A duty moves toward a target by at most the slew (08 R139). -/
def slewToward (slew target d : Int) : Int := if d < target then min target (d + slew) else max target (d - slew)

/-- The commanded duty of a RUNNING fan at a control period (08 R139). -/
def runningDuty (quiet override : Bool) (cap slew target d : Int) : Int :=
  if override then 1000 else slewToward slew target (if quiet then min d cap else d)

/-- A fan enters SPINUP (08 R140). -/
def spinUp (r : FanRec) : FanRec := { r with state := .spinup, duty := 1000 }

/-- A fan enters OFF. -/
def turnOff (r : FanRec) : FanRec := { r with state := .off, duty := 0 }

/-- The state and the duty of a fan at a control period, its new target and override being set (08 R139, R140). -/
def driveFan (quiet : Bool) (slew cap : Int) (r : FanRec) : FanRec :=
  match r.state with
  | .off => if 0 < r.target then spinUp r else r
  | .running =>
    if r.target = 0 then turnOff r
    else { r with duty := runningDuty quiet r.override.any cap slew r.target r.duty }
  | .spinup | .stalled | .failed => r

/-- One fan at a control period (08 R135 to R140); it is one of those that a restarted window waits for (log 28). -/
def controlFan (s : State) (f : Fan) (r : FanRec) : FanRec :=
  let g := s.set.fans.get f
  let o := overrideOf s g
  let d := demandOf s g
  driveFan s.set.quiet s.set.slew g.quietCap
    { r with
      demand := d, override := o, target := targetOf s.set.quiet o.any s.prot.afterrun.isSome g.quietCap d,
      shortfall := shortfallOf s.set.quiet o.any g.quietCap d, windowWait := r.windowWait - 1 }

/-- FAN_CONTROL_PERIOD: all three fans at one expiry (08 R133). -/
def controlPeriod (s : State) : State :=
  if s.fan.running then
    { s with fan := { s.fan with
        fans := s.fan.fans.map (controlFan s), afterrunSeen := s.prot.afterrun.isSome,
        tripSeen := s.prot.trip.isSome } }
  else s

/-! ## Fan states (08, section 8.4) -/

/-- Write one fan record. -/
def State.setFan (s : State) (f : Fan) (r : FanRec) : State :=
  { s with fan := { s.fan with fans := s.fan.fans.set f r } }

/-- The control periods of 100 ms that a tach window of 500 ms sees at the least (08 R133, R141; log 28). -/
def windowPeriods : Nat := 4

/-- A fan enters RUNNING at the end of a spin-up (08 R140); its tach window restarts (08 R141). -/
def enterRunning (quiet : Bool) (cap : Int) (r : FanRec) : FanRec :=
  { r with
    state := .running, lowWindows := 0, edges := 0, windowWait := windowPeriods,
    duty := if quiet && !r.override.any then min r.target cap else r.target }

/-- SPINUP_TIMER_EXPIRY (08 R140). -/
def spinupExpired (f : Fan) (s : State) : State :=
  let r := s.fan.fans.get f
  match r.state with
  | .spinup =>
    s.setFan f (if 0 < r.target then enterRunning s.set.quiet (s.set.fans.get f).quietCap r else turnOff r)
  | _ => s

/-- A rising edge of the filtered tach input is counted in the window (08 R141, log 21). -/
def countEdge (r : FanRec) : FanRec := { r with edges := min 4095 (r.edges + 1) }

/-- TACH_EDGE (08 R141): the filter confirms a change; a rise is counted, but not before the load completion
(11 R187, log 10). -/
def tachEdge (f : Fan) (s : State) : State :=
  let i := s.inputs.tach.get f
  if s.held || !i.running then s
  else
    let t := { s with inputs := { s.inputs with tach := s.inputs.tach.set f i.confirm } }
    if i.raw && !s.deaf then t.setFan f (countEdge (t.fan.fans.get f)) else t

/-- A fan stalls (08 R142, R143): STALLED, or FAILED when its restart count is at 3. -/
def stallFan (r : FanRec) : FanRec :=
  if r.restarts < 3 then { r with state := .stalled, duty := 0, lowWindows := 0 }
  else { r with state := .failed, duty := 0 }

/-- The judgement of a window in RUNNING (08 R141, R142). -/
def judgeSpeed (stallSpeed : Int) (r : FanRec) : FanRec :=
  if stallSpeed ≤ (r.speed : Int) then { r with lowWindows := 0, restarts := 0 }
  else
    let r := { r with lowWindows := r.lowWindows + 1 }
    if 3 ≤ r.lowWindows then stallFan r else r

/-- The measured speed of a completed window, and the next window (08 R141). -/
def measure (r : FanRec) : FanRec := { r with speed := r.edges * 60, edges := 0 }

/-- A completed window is measured, and judged in RUNNING (08 R141 to R143): FAN_FAULT at an entry to FAILED. -/
def judgeWindow (f : Fan) (s : State) : State :=
  let r := measure (s.fan.fans.get f)
  match r.state with
  | .running =>
    let q := judgeSpeed (s.set.fans.get f).stallSpeed r
    if q.state = .failed then raise .both .fanFault (s.setFan f q) else s.setFan f q
  | _ => s.setFan f r

/-- TACH_WINDOW_END (08 R141): an end that comes too early for the window that was restarted is that of the window
before, which ended across the restart: it is discarded and not judged, once (log 28). -/
def tachWindowEnd (f : Fan) (s : State) : State :=
  let r := s.fan.fans.get f
  if s.fan.running then
    if 0 < r.windowWait then s.setFan f { r with windowWait := 0 } else judgeWindow f s
  else s

/-- STOP_TIMER_EXPIRY (08 R142). -/
def stopExpired (f : Fan) (s : State) : State :=
  let r := s.fan.fans.get f
  match r.state with
  | .stalled =>
    s.setFan f (if 0 < r.target then spinUp { r with restarts := r.restarts + 1 } else turnOff r)
  | _ => s

/-! ## Commands (08, section 8.5) -/

/-- A RUNNING fan that is not under override drops to its cap in quiet mode (08 R144, R146). -/
def dropToCap (quiet : Bool) (cap : Int) (r : FanRec) : FanRec :=
  match r.state with
  | .running => if quiet && !r.override.any then { r with duty := min r.duty cap } else r
  | _ => r

/-- Every fan drops to its cap when quiet mode is ON. -/
def dropAll (s : State) : State :=
  { s with fan := { s.fan with
      fans := s.fan.fans.map fun f r => dropToCap s.set.quiet (s.set.fans.get f).quietCap r } }

/-- FAN_SET_QUIET (08 R144). -/
def fanSetQuiet (a : Nat) (s : State) : Answer :=
  match a with
  | 0 => accept { s with set := { s.set with quiet := false } }
  | 1 => accept (dropAll { s with set := { s.set with quiet := true } })
  | _ => refuse s .range

/-- The fan that a bit of a fan set names is in the set. -/
def namesFan (m : Nat) : Fan → Bool
  | .ls => m.testBit 0
  | .oe => m.testBit 1
  | .ex => m.testBit 2

/-- A FAILED fan is cleared (08 R143). -/
def clearFan (r : FanRec) : FanRec := { r with state := .off, restarts := 0, lowWindows := 0 }

/-- A named fan in FAILED. -/
def cleared (m : Nat) (f : Fan) (r : FanRec) : Bool := namesFan m f && decide (r.state = .failed)

/-- FAN_CLEAR (08 R143): the reply is the number of fans cleared. -/
def fanClear (m : Nat) (s : State) : Answer :=
  if m < 8 then
    { st := { s with fan := { s.fan with fans := s.fan.fans.map fun f r => if cleared m f r then clearFan r else r } },
      status := .ok, data := u8 (allFans.filter fun f => cleared m f (s.fan.fans.get f)).length }
  else refuse s .range

/-- Replace the settings of a fan. -/
def setFanSettings (f : Fan) (g : FanSettings) (s : State) : State :=
  { s with set := { s.set with fans := s.set.fans.set f g } }

/-- FAN_SET_CURVE (08 R145). -/
def fanSetCurve (a : CurveArgs) (s : State) : Answer :=
  match fanOf a.fan with
  | none => refuse s .range
  | some f =>
    if curveOk a.points then accept (setFanSettings f { s.set.fans.get f with curve := a.points } s)
    else refuse s .range

/-- A set of channel ids: not empty, at most 7, none twice, none above 6 (08 R145). -/
def bindingOk (l : List Nat) : Bool :=
  decide (1 ≤ l.length ∧ l.length ≤ 7) && decide l.Nodup && l.all fun n => decide (n < 7)

/-- The channels that a list names. -/
def boundSet (l : List Nat) : Vector Bool 7 := Vector.ofFn fun i : Fin 7 => l.contains i.val

/-- FAN_SET_BINDING (08 R145). That one which names an unknown fan is RANGE, as the other settings commands of a fan are,
is the model's choice (log 37). -/
def fanSetBinding (a : BindingArgs) (s : State) : Answer :=
  match fanOf a.fan with
  | none => refuse s .range
  | some f =>
    if bindingOk a.ids then accept (setFanSettings f { s.set.fans.get f with bound := boundSet a.ids } s)
    else refuse s .range

/-- FAN_SET_PARAMS (08 R146). -/
def fanSetParams (a : FanArgs) (s : State) : Answer :=
  match fanOf a.fan with
  | none => refuse s .range
  | some f =>
    if fanParamsOk a.spinFloor a.quietCap a.stallSpeed then
      let g := { s.set.fans.get f with spinFloor := a.spinFloor, quietCap := a.quietCap, stallSpeed := a.stallSpeed }
      accept ((setFanSettings f g s).setFan f (dropToCap s.set.quiet a.quietCap (s.fan.fans.get f)))
    else refuse s .range

/-- FAN_SET_OFFSETS (08 R146). -/
def fanSetOffsets (a : OffsetArgs) (s : State) : Answer :=
  if a.channel < 7 ∧ (⟨a.floor, a.ceiling⟩ : OrientOffsets).ok = true then
    accept { s with set := { s.set with offsets := setAt s.set.offsets a.channel ⟨a.floor, a.ceiling⟩ } }
  else refuse s .range

/-- FAN_SET_SLEW (08 R146). -/
def fanSetSlew (v : Int) (s : State) : Answer :=
  if slewOk v then accept { s with set := { s.set with slew := v } } else refuse s .range

/-- The load of the phase timer in ms: 1 s in SPINUP, 2 s in STALLED, stopped in other states (08 R133). -/
def phaseLoad : FanState → Option Nat
  | .spinup => some 1000
  | .stalled => some 2000
  | _ => none

/-- The override with its three causes in a reply. -/
def overrideBytes (o : Override) : List Byte := flag o.any ++ flag o.trip ++ flag o.failedFan ++ flag o.faultChannel

/-- One fan of FAN_STATUS, with the time left on its phase timer (08 R148). -/
def fanBytes (r : FanRec) (left : Option Nat) : List Byte :=
  u8 r.state.code ++ s16 r.duty ++ s16 r.demand ++ s16 r.target ++ s16 r.shortfall ++ overrideBytes r.override
    ++ u24 r.speed ++ u8 r.lowWindows ++ u8 r.restarts ++ u16 (left.getD 0) ++ flag left.isNone

/-- The time left on a phase timer, a free value within its load (log 4). -/
def phaseLeft (r : FanRec) (s : State) : Option Nat × State :=
  match phaseLoad r.state with
  | none => (none, s)
  | some t => (some (drawFree t s).1, (drawFree t s).2)

/-- The data of FAN_STATUS (08 R148). -/
def fanStatusData (ls oe ex : Option Nat) (s : State) : List Byte :=
  flag s.set.quiet ++ s16 s.set.slew ++ flag s.fan.afterrunSeen ++ flag s.fan.tripSeen
    ++ fanBytes s.fan.fans.ls ls ++ fanBytes s.fan.fans.oe oe ++ fanBytes s.fan.fans.ex ex

/-- FAN_STATUS (08 R148). -/
def fanStatus (_ : Unit) (s : State) : Answer :=
  let a := phaseLeft s.fan.fans.ls s
  let b := phaseLeft s.fan.fans.oe a.2
  let c := phaseLeft s.fan.fans.ex b.2
  reply c.2 (fanStatusData a.1 b.1 c.1 s)

/-- The data of FAN_READ_SETTINGS (08 R148). -/
def fanSettingsData (g : FanSettings) (s : State) : List Byte :=
  u8 g.curve.length ++ g.curve.flatMap (fun p => s16 p.t ++ s16 p.d) ++ u8 (maskOf g.bound)
    ++ s16 g.spinFloor ++ s16 g.quietCap ++ s16 g.stallSpeed
    ++ s.set.offsets.toList.flatMap fun o => s16 o.floor ++ s16 o.ceiling

/-- FAN_READ_SETTINGS (08 R148). -/
def fanReadSettings (a : Nat) (s : State) : Answer :=
  match fanOf a with
  | none => refuse s .range
  | some f => reply s (fanSettingsData (s.set.fans.get f) s)

def execFanControlPeriod (s : State) : Result := .next (controlPeriod s)

def execSpinupTimerExpiry (f : Fan) (s : State) : Result := .next (spinupExpired f s)

def execTachEdge (f : Fan) (s : State) : Result := .next (tachEdge f s)

def execTachWindowEnd (f : Fan) (s : State) : Result := .next (tachWindowEnd f s)

def execStopTimerExpiry (f : Fan) (s : State) : Result := .next (stopExpired f s)

def execFanSetQuiet (p : Port) (v : Params Nat) (s : State) : Result := command p 0x80#8 .cooling v fanSetQuiet s

def execFanClear (p : Port) (v : Params Nat) (s : State) : Result := command p 0x81#8 .cooling v fanClear s

def execFanSetCurve (p : Port) (v : Params CurveArgs) (s : State) : Result :=
  command p 0x82#8 .config v fanSetCurve s

def execFanSetBinding (p : Port) (v : Params BindingArgs) (s : State) : Result :=
  command p 0x83#8 .config v fanSetBinding s

def execFanSetParams (p : Port) (v : Params FanArgs) (s : State) : Result :=
  command p 0x84#8 .config v fanSetParams s

def execFanSetOffsets (p : Port) (v : Params OffsetArgs) (s : State) : Result :=
  command p 0x85#8 .config v fanSetOffsets s

def execFanSetSlew (p : Port) (v : Params Int) (s : State) : Result := command p 0x86#8 .config v fanSetSlew s

def execFanStatus (p : Port) (v : Params Unit) (s : State) : Result := command p 0x87#8 .none v fanStatus s

def execFanReadSettings (p : Port) (v : Params Nat) (s : State) : Result :=
  command p 0x88#8 .none v fanReadSettings s

end Sys2Proof.Machine
end

