-- ==== Sys2Proof/Machine/Attitude.lean ====
section
/-! DEFINITION. The Attitude Unit (02): the angle filters, tilt follow, the orientation, roll, and its commands. -/

namespace Sys2Proof.Machine

/-- The channel number of an ANGLE channel (00, Channels). -/
def AngleCh.channel : AngleCh → Fin 10
  | .pitch => 7
  | .roll => 8
  | .vert => 9

/-- The filtered value of a channel's window: the rounded mean, absent while the window is empty (02 R19). -/
def filteredAngle (s : State) (c : AngleCh) : Option Int := meanOf (s.att.windows.get c)

/-- The record of an ANGLE channel is in FAULT. -/
def angleFault (s : State) (c : AngleCh) : Bool := decide ((s.smp.records.get c.channel).validity = .fault)

/-- A channel is ready (02 R21). -/
def angleReady (s : State) (c : AngleCh) : Bool :=
  decide ((s.att.windows.get c).length = 16) && !angleFault s c

/-- Attitude is valid (02 R21). -/
def attitudeValid (s : State) : Bool := angleReady s .pitch && angleReady s .roll && angleReady s .vert

/-- Put values into p_app and p_ref. -/
def setPitch (app ref : Int) (s : State) : State :=
  { s with att := { s.att with pApp := app }, set := { s.set with pRef := ref } }

/-- A follow: p_app takes the filtered pitch for the composition, and a refusal gives the prior value back
(02 R23, R24). -/
def follow (f : Int) (s : State) : State :=
  let r := compose s.set.geo .both (setPitch f s.set.pRef s)
  if r.2 then r.1
  else
    let back := setPitch s.att.pApp s.set.pRef r.1
    raise .both .attitudeLimit { back with att := { back.att with refused := some f } }

/-- The refused pitch holds no follow of f back (02 R23, fourth condition). -/
def refusalAllows (deadband f : Int) (refused : Option Int) : Bool :=
  match refused with
  | none => true
  | some r => decide (deadband ≤ mag (f - r))

/-- The follow decision of a pitch update with filtered pitch f, while attitude is valid (02 R23, R25). -/
def followDecision (f : Int) (s : State) : State :=
  if mag (f - s.att.pApp) < s.set.att.deadband then { s with att := { s.att with refused := none } }
  else if s.set.geo.follow && refusalAllows s.set.att.deadband f s.att.refused then follow f s
  else s

/-- The effective orientation changes (02 R28). -/
def changeOrientation (o : Orientation) (d : Dest) (s : State) : State :=
  let s := composeOrHold d (raise d .orientationChanged { s with att := { s.att with effective := o } })
  { s with att := { s.att with refused := none } }

/-- The orientation that a vertical reading points to (02 R27). -/
def pointsTo (g : AttSettings) (filtered : Int) : Option Orientation :=
  let v := filtered - g.vertZero
  if v < -g.threshold then some .ceiling else if g.threshold < v then some .floor else none

/-- Orientation detection at a vertical update with filtered vertical f, in AUTO while VERT is ready (02 R27). -/
def detectOrientation (f : Int) (s : State) : State :=
  match pointsTo s.set.att f with
  | none => { s with att := { s.att with count := 0 } }
  | some o =>
    if o = s.att.effective then { s with att := { s.att with count := 0 } }
    else if 8 ≤ s.att.count + 1 then
      changeOrientation o .both { s with att := { s.att with count := 0 } }
    else { s with att := { s.att with count := s.att.count + 1 } }

/-- The roll test at a roll update with filtered roll f, while ROLL is ready (02 R29). -/
def rollTest (f : Int) (s : State) : State :=
  if s.att.rollRaised then
    if mag f < s.set.att.rollLimit - 50 then { s with att := { s.att with rollRaised := false } } else s
  else if s.set.att.rollLimit < mag f then
    raise .both .mountRoll { s with att := { s.att with rollRaised := true } }
  else s

/-- The decision that acts on a filter update of a channel (02 R19). -/
def angleDecision (c : AngleCh) (s : State) : State :=
  match filteredAngle s c with
  | none => s
  | some f =>
    match c with
    | .pitch => if attitudeValid s then followDecision f s else s
    | .roll => if angleReady s .roll then rollTest f s else s
    | .vert =>
      if angleReady s .vert && decide (s.set.orientation = .auto) then detectOrientation f s else s

/-- An angle is offered to the filters (02 R19, R20). -/
def offerAngle (c : AngleCh) (v : Int) (s : State) : State :=
  if frozen s then s
  else
    angleDecision c
      { s with att := { s.att with windows := s.att.windows.set c (pushWindow 16 (s.att.windows.get c) v) } }

/-- An ANGLE record enters FAULT: its window is emptied, frozen or not; for VERT the count goes to 0 (02 R21). -/
def emptyWindow (c : AngleCh) (s : State) : State :=
  { s with att := { s.att with
      windows := s.att.windows.set c [], count := match c with | .vert => 0 | _ => s.att.count } }

/-- CAPTURE_LEVEL (02 R22). -/
def captureLevel (p : Port) (_ : Unit) (s : State) : Answer :=
  match filteredAngle s .pitch with
  | none => refuse s .notReady
  | some f =>
    if attitudeValid s then
      let r := compose s.set.geo (.port p) (setPitch f f s)
      if r.2 then { st := r.1, status := .ok, data := s16 f }
      else { st := setPitch s.att.pApp s.set.pRef r.1, status := .shape, data := [] }
    else refuse s .notReady

/-- The effective orientation becomes the one named, an orientation change when it differs (02 R26). -/
def nameOrientation (p : Port) (o : Orientation) (s : State) : State :=
  if o = s.att.effective then s else changeOrientation o (.port p) s

/-- The orientation setting, with the orientation count at 0 (02 R26). -/
def setOrientation (g : OrientSetting) (s : State) : State :=
  { s with set := { s.set with orientation := g }, att := { s.att with count := 0 } }

/-- ATT_SET_ORIENTATION (02 R26). -/
def attSetOrientation (p : Port) (a : Nat) (s : State) : Answer :=
  match a with
  | 0 => accept (nameOrientation p .floor (setOrientation .floor s))
  | 1 => accept (nameOrientation p .ceiling (setOrientation .ceiling s))
  | 2 => accept (setOrientation .auto s)
  | _ => refuse s .range

/-- The settings that ATT_SET_PARAMS carries. -/
def attSettingsOf (a : AttArgs) : AttSettings :=
  { deadband := a.deadband, vertZero := a.vertZero, threshold := a.threshold, rollLimit := a.rollLimit }

/-- ATT_SET_PARAMS (02 R30): a new vertical zero or threshold sets the orientation count to 0. One that carries the
values in force is not new: it keeps the count, the model's choice (log 29). -/
def attSetParams (a : AttArgs) (s : State) : Answer :=
  let g := attSettingsOf a
  if g.ok then
    let kept := decide (g.vertZero = s.set.att.vertZero ∧ g.threshold = s.set.att.threshold)
    accept { s with
      set := { s.set with att := g }, att := { s.att with count := if kept then s.att.count else 0 } }
  else refuse s .range

/-- The data of ATT_STATUS (02 R31). -/
def attStatusData (s : State) : List Byte :=
  opt16 (filteredAngle s .pitch) ++ opt16 (filteredAngle s .roll) ++ opt16 (filteredAngle s .vert)
    ++ u8 s.att.windows.pitch.length ++ u8 s.att.windows.roll.length ++ u8 s.att.windows.vert.length
    ++ flag (angleReady s .pitch) ++ flag (angleReady s .roll) ++ flag (angleReady s .vert)
    ++ flag (attitudeValid s) ++ flag (frozen s) ++ flag (frozenByAxes s) ++ flag (frozenByFans s)
    ++ s16 s.set.pRef ++ s16 s.att.pApp ++ opt16 s.att.refused
    ++ u8 s.set.orientation.code ++ u8 s.att.effective.code ++ u8 s.att.count ++ flag s.att.rollRaised
    ++ s16 s.set.att.deadband ++ s16 s.set.att.vertZero ++ s16 s.set.att.threshold ++ s16 s.set.att.rollLimit

/-- ATT_STATUS (02 R31). -/
def attStatus (_ : Unit) (s : State) : Answer := reply s (attStatusData s)

def execCaptureLevel (p : Port) (v : Params Unit) (s : State) : Result :=
  command p 0x20#8 .geometry v (captureLevel p) s

def execAttSetOrientation (p : Port) (v : Params Nat) (s : State) : Result :=
  command p 0x21#8 .geometry v (attSetOrientation p) s

def execAttSetParams (p : Port) (v : Params AttArgs) (s : State) : Result :=
  command p 0x22#8 .config v attSetParams s

def execAttStatus (p : Port) (v : Params Unit) (s : State) : Result := command p 0x23#8 .none v attStatus s

end Sys2Proof.Machine
end

