-- ==== Sys2Proof/Machine/Sampling.lean ====
section
/-! DEFINITION. The Sampling Unit (01): triggers, rounds, the judgement of codes, channel records, what a conversion
completion hands on, and the unit's commands. -/

namespace Sys2Proof.Machine

/-! ## Codes and records -/

/-- A code that is neither a low-rail nor a high-rail sample (01 R9). -/
def validCode (c : Nat) : Bool := decide (32 ≤ c ∧ c ≤ 4063)

/-- The temperature of a code under a table (01 R12). -/
def tableTemp (t : Vector Int 17) (c : Nat) : Int :=
  let k := c / 256
  let lo := t[k]?.getD 0
  let hi := t[k + 1]?.getD 0
  lo + roundDiv ((hi - lo) * ((c : Int) - 256 * k)) 256

/-- The angle of a code (01 R13). -/
def codeAngle (g : AngleSettings) (c : Nat) : Int :=
  clamp (-9000) 9000 (roundDiv (((c : Int) - g.zeroCode) * g.scale) 64)

/-- A TEMP record accepts a temperature (01 R14). -/
def acceptTemp (t : Int) (r : ChannelRec) : ChannelRec :=
  let h := pushWindow 4 r.history t
  let f := (meanOf h).getD 0
  { r with history := h, filtered := some f, peak := max r.peak f }

/-- An ANGLE record accepts an angle (01 R13). -/
def acceptAngle (a : Int) (r : ChannelRec) : ChannelRec := { r with filtered := some a }

/-- What became of a sample (01 R9 to R11). -/
inductive Judgement where
  | accepted
  | discarded
  | enteredFault
deriving DecidableEq, Repr

/-- A valid sample in a record (01 R9, R11). -/
def takeValid (accept : ChannelRec → ChannelRec) (r : ChannelRec) : ChannelRec × Judgement :=
  let r := { r with validRun := min 255 (r.validRun + 1), invalidRun := 0 }
  match r.validity with
  | .fault =>
    if r.validRun = 4 then (accept { r with validity := .valid, history := [] }, .accepted) else (r, .discarded)
  | .new | .valid => (accept { r with validity := .valid }, .accepted)

/-- An invalid sample in a record (01 R9, R10). -/
def takeInvalid (r : ChannelRec) : ChannelRec × Judgement :=
  let r := { r with invalidRun := min 255 (r.invalidRun + 1), validRun := 0 }
  match r.validity with
  | .fault => (r, .discarded)
  | .new | .valid => if r.invalidRun = 3 then ({ r with validity := .fault }, .enteredFault) else (r, .discarded)

/-- A code is delivered to a record (01 R9). -/
def takeSample (accept : ChannelRec → ChannelRec) (c : Nat) (r : ChannelRec) : ChannelRec × Judgement :=
  let r := { r with lastCode := c }
  if validCode c then takeValid accept r else takeInvalid r

/-- The kind of a channel: TEMP 0 to 6, ANGLE 7 to 9 (00, Channels). -/
inductive ChannelKind where
  | temp (c : Fin 7)
  | angle (c : AngleCh)
deriving DecidableEq, Repr

def kindOf (k : Fin 10) : ChannelKind :=
  if h : k.val < 7 then .temp ⟨k.val, h⟩
  else match k.val with
    | 7 => .angle .pitch
    | 8 => .angle .roll
    | _ => .angle .vert

/-- How the record of a channel accepts a code, by the settings in force (01 R1, R12, R13). -/
def acceptCode (s : State) (k : Fin 10) (c : Nat) : ChannelRec → ChannelRec :=
  match kindOf k with
  | .temp t => acceptTemp (tableTemp (s.set.tables.get (s.set.tempTable.get t)) c)
  | .angle a => acceptAngle (codeAngle (s.set.angle.get a) c)

/-! ## What a completion hands on (01 R15) -/

/-- An accepted sample is handed on: an angle to the Attitude Unit, T_LB (channel 6) to Focus Compensation. -/
def handAccepted (k : Fin 10) (filtered : Option Int) (s : State) : State :=
  match kindOf k, filtered with
  | .angle a, some v => offerAngle a v s
  | .temp t, some v => if t = 6 then evaluateComp v s else s
  | _, none => s

/-- An entry to FAULT is handed on: SENSOR_FAULT to both ports, and the window of an ANGLE channel is emptied
(01 R10, 02 R21). -/
def handFault (k : Fin 10) (s : State) : State :=
  let s := raise .both .sensorFault s
  match kindOf k with
  | .angle a => emptyWindow a s
  | .temp _ => s

/-- A change of a TEMP channel's validity state is handed on to the Protection Unit (01 R15, 09 R163). -/
def handValidity (k : Fin 10) (before after : Validity) (s : State) : State :=
  match kindOf k with
  | .temp _ => if before = after then s else judgeStartup s
  | .angle _ => s

/-- A code is delivered to the record of channel k, and the update is handed on (01 R8, first and second). -/
def deliverCode (k : Fin 10) (code : Nat) (s : State) : State :=
  let r := s.smp.records.get k
  let q := takeSample (acceptCode s k code) code r
  let t := { s with smp := { s.smp with records := s.smp.records.set k q.1 } }
  let t := match q.2 with
    | .accepted => handAccepted k q.1.filtered t
    | .discarded => t
    | .enteredFault => handFault k t
  handValidity k r.validity q.1.validity t

/-- The next entry starts, or the round ends (01 R8, third). -/
def endConversion (rest : List (Fin 10)) (s : State) : State :=
  match rest with
  | [] => { s with smp := { s.smp with round := [], roundCount := (s.smp.roundCount + 1) % 65536 } }
  | l => { s with smp := { s.smp with round := l } }

/-- CONVERSION_COMPLETION (01 R8): nothing when no conversion is in progress. The converter delivers 12 bits
(01 R1, log 25). -/
def conversionCompleted (code : Nat) (s : State) : State :=
  match s.smp.round with
  | [] => s
  | k :: rest => endConversion rest (deliverCode k (code % 4096) s)

/-! ## Triggers -/

/-- A round trigger (01 R5, R8). -/
def roundTrigger (s : State) : State :=
  match s.smp.round with
  | [] => { s with smp := { s.smp with round := s.set.round } }
  | _ => { s with smp := { s.smp with overrun := true } }

/-- A qualifying frame start (01 R4, R5). -/
def qualified (s : State) : State :=
  if s.smp.delayRunning then { s with smp := { s.smp with overrun := true } }
  else if s.set.trigger.delay = 0 then roundTrigger s
  else { s with smp := { s.smp with delayRunning := true } }

/-- A frame start is counted (01 R4). -/
def countFrameStart (s : State) : State :=
  if s.set.trigger.divider ≤ s.smp.divCount + 1 then qualified { s with smp := { s.smp with divCount := 0 } }
  else { s with smp := { s.smp with divCount := s.smp.divCount + 1 } }

/-- The unit leaves SYNC_FALLBACK for SYNC_LOCKED (01 R6). -/
def lockSync (s : State) : State :=
  { s with smp := { s.smp with trigState := .syncLocked, periodRunning := false, divCount := 0 } }

/-- A frame start at the Sampling Unit (01 R4, R6). -/
def frameToSampling (s : State) : State :=
  let s := { s with smp := { s.smp with video := true } }
  match s.smp.trigState with
  | .freeRun => s
  | .syncFallback => countFrameStart (lockSync s)
  | .syncLocked => countFrameStart s

/-- A frame start at the Presentation Unit (05 R79, R80). -/
def frameToPresentation (s : State) : State := trySwap { s with pres := { s.pres with video := true } }

/-- FRAME_START (01 R4, 05 R79); edges at FSYNC are not taken before the load completes (11 R187). -/
def frameStart (s : State) : State := if s.deaf then s else frameToPresentation (frameToSampling s)

/-- DELAY_TIMER_EXPIRY (01 R4). -/
def delayExpired (s : State) : State :=
  if s.smp.delayRunning then roundTrigger { s with smp := { s.smp with delayRunning := false } } else s

/-- PERIOD_TIMER_EXPIRY (01 R7). An expiry that would fall before the load completion comes at it (11 R188). -/
def periodExpired (s : State) : State :=
  if s.deaf then s else if s.smp.periodRunning then roundTrigger s else s

/-- SMP_VIDEO_WATCH_EXPIRY (01 R6). -/
def smpVideoExpired (s : State) : State :=
  if s.smp.video then
    let s := { s with smp := { s.smp with video := false } }
    match s.smp.trigState with
    | .syncLocked =>
      { s with smp := { s.smp with
          trigState := .syncFallback, delayRunning := false, divCount := 0, periodRunning := true } }
    | .syncFallback | .freeRun => s
  else s

/-! ## Commands -/

/-- Channel ids from 0 to 9; none when the list names another. -/
def channelIds : List Nat → Option (List (Fin 10))
  | [] => some []
  | n :: l => if h : n < 10 then (channelIds l).map fun r => ⟨n, h⟩ :: r else none

/-- SMP_SET_ROUND (01 R2). -/
def smpSetRound (l : List Nat) (s : State) : Answer :=
  match channelIds l with
  | none => refuse s .range
  | some r => if roundOk r then accept { s with set := { s.set with round := r } } else refuse s .range

/-- The trigger settings that SMP_SET_TRIGGER carries; none for a mode code that names nothing. -/
def triggerSettingsOf (a : TriggerArgs) : Option TriggerSettings :=
  match a.mode with
  | 0 => some { mode := .sync, divider := a.divider, delay := a.delay, period := a.period }
  | 1 => some { mode := .free, divider := a.divider, delay := a.delay, period := a.period }
  | _ => none

/-- The trigger state of a mode (01 R3). -/
def trigStateOf (m : TrigMode) (video : Bool) : TrigState :=
  match m with
  | .free => .freeRun
  | .sync => if video then .syncLocked else .syncFallback

/-- The trigger settings take effect at once (01 R3). -/
def applyTrigger (g : TriggerSettings) (s : State) : State :=
  let k := trigStateOf g.mode s.smp.video
  { s with
    set := { s.set with trigger := g },
    smp := { s.smp with
      trigState := k, divCount := 0, delayRunning := false, periodRunning := decide (k ≠ .syncLocked) } }

/-- SMP_SET_TRIGGER (01 R3). -/
def smpSetTrigger (a : TriggerArgs) (s : State) : Answer :=
  match triggerSettingsOf a with
  | none => refuse s .range
  | some g => if g.ok then accept (applyTrigger g s) else refuse s .range

/-- SMP_SET_TABLE (01 R16). -/
def smpSetTable (a : TableArgs) (s : State) : Answer :=
  match rowOf 17 a.temps with
  | none => refuse s .range
  | some t =>
    if a.table < 4 ∧ tableOk t = true then
      accept { s with set := { s.set with tables := setAt s.set.tables a.table t } }
    else refuse s .range

/-- Set the table of a TEMP channel, or the zero and scale of an ANGLE channel (01 R16). -/
def smpSetChannel (a : ChannelArgs) (s : State) : Answer :=
  match a with
  | .temp id table =>
    if h : table < 4 then
      if id < 7 then accept { s with set := { s.set with tempTable := setAt s.set.tempTable id ⟨table, h⟩ } }
      else refuse s .range
    else refuse s .range
  | .angle id z scale =>
    if h : id < 10 then
      match kindOf ⟨id, h⟩ with
      | .temp _ => refuse s .range
      | .angle c =>
        if (⟨z, scale⟩ : AngleSettings).ok then
          accept { s with set := { s.set with angle := s.set.angle.set c ⟨z, scale⟩ } }
        else refuse s .range
    else refuse s .range

/-- The peaks of the named channels become 0 (01 R17). -/
def clearPeaks (m : Nat) (s : State) : State :=
  { s with smp := { s.smp with
      records := s.smp.records.mapIdx fun i r => if m.testBit i then { r with peak := 0 } else r } }

/-- SMP_CLEAR_PEAK (01 R17): a set that names an id above 6 is refused. -/
def smpClearPeak (m : Nat) (s : State) : Answer :=
  if m < 128 then accept (clearPeaks m s) else refuse s .range

/-- A channel record in a reply (01 R17). -/
def recordData (r : ChannelRec) : List Byte :=
  u16 r.lastCode ++ u8 r.validity.code ++ u8 r.invalidRun ++ u8 r.validRun ++ opt16 r.filtered ++ s16 r.peak
    ++ u8 r.history.length

/-- SMP_READ_CHANNEL (01 R17). -/
def smpReadChannel (id : Nat) (s : State) : Answer :=
  match s.smp.records[id]? with
  | none => refuse s .range
  | some r => reply s (recordData r)

/-- The data of SMP_STATUS (01 R17). The video watch is sent as 1 when video is present and 0 when it is absent: chapter
12 gives it no code, so this one is the model's choice (log 17). -/
def smpStatusData (s : State) : List Byte :=
  u8 s.set.trigger.mode.code ++ u8 s.smp.trigState.code ++ u8 s.smp.divCount ++ flag s.smp.delayRunning
    ++ flag s.smp.video ++ flag s.smp.overrun ++ u16 s.smp.roundCount ++ flag (!s.smp.round.isEmpty)

/-- SMP_STATUS (01 R5, R17): it clears the round overrun status. -/
def smpStatus (_ : Unit) (s : State) : Answer :=
  reply { s with smp := { s.smp with overrun := false } } (smpStatusData s)

def execConversionCompletion (code : Nat) (s : State) : Result := .next (conversionCompleted code s)

def execFrameStart (s : State) : Result := .next (frameStart s)

def execDelayTimerExpiry (s : State) : Result := .next (delayExpired s)

def execPeriodTimerExpiry (s : State) : Result := .next (periodExpired s)

def execSmpVideoWatchExpiry (s : State) : Result := .next (smpVideoExpired s)

def execSmpSetRound (p : Port) (v : Params (List Nat)) (s : State) : Result :=
  command p 0x10#8 .config v smpSetRound s

def execSmpSetTrigger (p : Port) (v : Params TriggerArgs) (s : State) : Result :=
  command p 0x11#8 .config v smpSetTrigger s

def execSmpSetTable (p : Port) (v : Params TableArgs) (s : State) : Result :=
  command p 0x12#8 .config v smpSetTable s

def execSmpSetChannel (p : Port) (v : Params ChannelArgs) (s : State) : Result :=
  command p 0x13#8 .config v smpSetChannel s

def execSmpClearPeak (p : Port) (v : Params Nat) (s : State) : Result :=
  command p 0x14#8 .config v smpClearPeak s

def execSmpReadChannel (p : Port) (v : Params Nat) (s : State) : Result :=
  command p 0x15#8 .none v smpReadChannel s

def execSmpStatus (p : Port) (v : Params Unit) (s : State) : Result := command p 0x16#8 .none v smpStatus s

end Sys2Proof.Machine
end

