-- ==== Sys2Proof/Machine/Store.lean ====
section
/-! DEFINITION. The Retained Settings Store, the resets and the load completion (11). -/

namespace Sys2Proof.Machine

/-! ## Saving (11, section 11.3) -/

/-- A save begins (11 R184): the settings in force are gathered, the count increases, and the check word in the image
is overwritten with a value that matches no contents. -/
def beginSave (p : Port) (s : State) : State :=
  let n := (s.store.saveCount + 1) % 4294967296
  { s with store := { s.store with
      state := .busy, saveCount := n, gathered := some { contents := s.set, count := n, issuer := p },
      image := { s.store.image with word := none } } }

/-- SAVE_SETTINGS (11 R184). -/
def saveSettings (p : Port) (_ : Unit) (s : State) : Answer :=
  match s.store.state with
  | .busy => refuse s .busy
  | .idle | .loading => accept (beginSave p s)

/-- The check word of contents and a save count (11 R182). -/
def checkWord (g : Settings) (n : Nat) : BitVec 32 := crc32 (Config.imageBytes g n)

/-- SAVE_COMPLETION (11 R184): nothing when no save is in progress. -/
def saveCompleted (s : State) : State :=
  match s.store.state, s.store.gathered with
  | .busy, some g =>
    raise (.port g.issuer) .storeDone
      { s with store := { s.store with
          state := .idle, gathered := none,
          image := { contents := g.contents, saveCount := g.count, word := some (checkWord g.contents g.count) } } }
  | _, _ => s

/-! ## Commands -/

/-- The data of STORE_STATUS with the time elapsed in a save (11 R186). -/
def storeStatusData (elapsed : Nat) (s : State) : List Byte :=
  u8 s.store.state.code ++ u16 elapsed ++ opt8 (s.store.gathered.map fun g => portCode g.issuer)
    ++ u8 s.store.result.code ++ u32 s.store.saveCount ++ flag s.set.autoHome ++ u8 (powerOnCode s.set.powerOn)
    ++ u8 s.store.cause.code

/-- STORE_STATUS (11 R186): the time elapsed in a save is a free value up to its 300 ms (log 4), and with no save in
progress it is sent as 0 (log 34). -/
def storeStatus (_ : Unit) (s : State) : Answer :=
  match s.store.state with
  | .busy =>
    let q := drawFree 300 s
    reply q.2 (storeStatusData q.1 s)
  | .idle | .loading => reply s (storeStatusData 0 s)

/-- SET_AUTOHOME (11 R186). -/
def setAutohome (a : Nat) (s : State) : Answer :=
  match a with
  | 0 => accept { s with set := { s.set with autoHome := false } }
  | 1 => accept { s with set := { s.set with autoHome := true } }
  | _ => refuse s .range

/-! ## Resets (11, section 11.4) -/

/-- An input at a reset: its filtered level starts from its raw level (06 R94, 09 R159). -/
def Filtered.restart (f : Filtered) : Filtered := { raw := f.raw, level := f.raw, edgePos := 0 }

def Inputs.restart (i : Inputs) : Inputs :=
  { home := i.home.map fun _ => Filtered.restart, index := i.index.map fun _ => Filtered.restart,
    mdflt := i.mdflt.restart, tco := i.tco.restart, drvflt := i.drvflt.restart,
    tach := i.tach.map fun _ => Filtered.restart }

/-- The image after a reset: torn when a save was in progress (11 R185). Which part of the new contents a torn image
holds is left open: the model keeps the old contents and count whole, with a word that matches nothing (log 33). -/
def Store.keptImage (u : Store) : Image :=
  match u.state with
  | .busy => { u.image with word := none }
  | _ => u.image

/-- A transaction whose chip select stays asserted across a reset is ignored until its release, a command byte taken or
not (05 R91). -/
def Trans.acrossReset : Trans → Trans
  | .none => .none
  | _ => .ignored

/-- Every unit takes its reset state and a load begins (11 R187). What lies outside the part stays: the queue of
arrivals, the image, the levels at the pins, a Mesh Port transaction in progress. -/
def resetPart (c : ResetCause) (s : State) : State :=
  { State.reset with
    pending := s.pending,
    inputs := s.inputs.restart,
    pres := { Presentation.reset with trans := s.pres.trans.acrossReset },
    port := { PortUnit.reset with asel := s.aselPin },
    store := { Store.reset with image := s.store.keptImage, cause := c },
    rstLow := s.rstLow, powerOff := s.powerOff, aselPin := s.aselPin, freeCount := s.freeCount }

/-- POWER_ON_RESET (11 R187): the supply enters its range. -/
def powerOnReset (s : State) : State := resetPart .power { s with powerOff := false }

/-- POWER_LOSS (11 R185, R187): the part is held from here. -/
def powerLost (s : State) : State := resetPart .power { s with powerOff := true }

/-- RSTN_LOW (11 R187): the part is held from here. -/
def rstnLow (s : State) : State := resetPart .pin { s with rstLow := true }

/-- RSTN_RISE (11 R187): the reset ends, unless the supply holds it (log 16). -/
def rstnRise (s : State) : State := resetPart .pin { s with rstLow := false }

/-- RESET (11 R187): from Port A it resets at once, with no reply placed; from Port B it is DENIED. -/
def resetCommand (p : Port) (v : Params Unit) (s : State) : State :=
  match p, v with
  | .a, .form _ => if s.deaf then s else resetPart .command s
  | _, _ => answerTo p 0xB3#8 (checked p .systemPort v fun _ s => accept s) s

/-! ## The load completion (11, section 11.5) -/

/-- The image's check word matches its contents (11 R182). -/
def wordMatches (i : Image) : Bool := decide (i.word = some (checkWord i.contents i.saveCount))

/-- The load result (11 R183). -/
def loadResult (i : Image) : LoadResult :=
  if wordMatches i then (if i.contents.sound then .loaded else .defaultsRange) else .defaultsCheck

/-- The settings and the save count that a load result gives (11 R183). -/
def loadedSettings (i : Image) : LoadResult → Settings
  | .loaded => i.contents
  | .defaultsCheck | .defaultsRange => defaultSettings

def loadedCount (i : Image) : LoadResult → Nat
  | .loaded => i.saveCount
  | .defaultsCheck | .defaultsRange => 0

/-- The effective orientation after a reset (02 R32). -/
def resetOrientation : OrientSetting → Orientation
  | .floor => .floor
  | .ceiling | .auto => .ceiling

/-- Each unit takes its retained content (11 R183, 01 R18, 02 R32, 03 R52). -/
def takeSettings (s : State) : State :=
  let r := loadResult s.store.image
  let g := loadedSettings s.store.image r
  { s with
    set := g,
    store := { s.store with state := .idle, result := r, saveCount := loadedCount s.store.image r },
    smp := { s.smp with trigState := trigStateOf g.trigger.mode false },
    att := { s.att with pApp := g.pRef, effective := resetOrientation g.orientation },
    geo := { s.geo with corners := nominal g.geo.width g.geo.height } }

/-- RESET with its cause joins both event sets of the Port Unit (10 R175, R181). -/
def addReset (c : ResetCause) (u : PortUnit) : PortUnit :=
  let v := addEvent .both .reset u
  { v with events := { a := ⟨v.events.a.kinds, some c⟩, b := ⟨v.events.b.kinds, some c⟩ } }

/-- RESET is raised to both ports (10 R181). -/
def raiseReset (s : State) : State := { s with port := s.port.changeEvents (addReset s.store.cause) }

/-- STORE_ERROR for a DEFAULTS load (11 R183). -/
def raiseStoreError (s : State) : State :=
  match s.store.result with
  | .loaded => s
  | .defaultsCheck | .defaultsRange => raise .both .storeError s

/-- Every fan enters SPINUP, and the control period and the tach windows start (08 R149). -/
def startFans (s : State) : State :=
  { s with fan := { s.fan with fans := s.fan.fans.map fun _ => spinUp, running := true } }

/-- The allowance takes the loaded floor, and the protection period starts (09 R166). -/
def startProtection (s : State) : State :=
  { s with prot := { s.prot with allowance := s.set.prot.floor, running := true } }

/-- The first composition: refused, it sets the held flag, and the first build is from the nominal corners
(03 R52). -/
def firstComposition (s : State) : State :=
  let r := compose s.set.geo .both s
  if r.2 then r.1
  else rebuild false (raise .both .geometryRefused { r.1 with geo := { r.1.geo with held := true } })

/-- An MDFLT that is filtered active at the load completion (06 R111). -/
def examineMdflt (s : State) : State := if s.inputs.mdflt.level then driverFault s else s

/-- A TCO or a DRVFLT that is filtered active at the load completion, TCO first (09 R166). -/
def examineFaults (s : State) : State :=
  let s := if s.inputs.tco.level then latchTrip .tco s else s
  if s.inputs.drvflt.level then latchTrip .drvflt s else s

/-- A start-up request (11 R189): all four axes, no tag. -/
def startRequest (k : Kind) (slot : Nat) : Request :=
  { serial := 0, source := .start, kind := k, axes := PerAxis.const true, targets := PerAxis.const none, slot := slot,
    payload := none, compTarget := 0, tag := none, dispatched := false, stopped := false, failed := false,
    focusStart := 0 }

/-- The start-up requests join the queue and are dispatched (11 R189). -/
def startRequests (s : State) : State :=
  if s.set.autoHome then
    let s := joinQueue (startRequest .home 0) s
    let s := match s.set.powerOn with
      | none => s
      | some k => joinQueue (startRequest .recall k.val) s
    dispatchPass s.mq.requests.length s
  else s

/-- What the units do at the load completion, with their events in the order of 11 R188. -/
def startUp (s : State) : State :=
  startRequests (examineFaults (examineMdflt (firstComposition (startProtection (startFans
    (raiseStoreError (raiseReset (takeSettings s))))))))

/-- LOAD_COMPLETION (11 R188): nothing while the store does not load, or the part is held in reset. -/
def loadCompleted (s : State) : State :=
  match s.store.state with
  | .loading => if s.held then s else startUp s
  | .idle | .busy => s

def execSaveSettings (p : Port) (v : Params Unit) (s : State) : Result :=
  command p 0xB2#8 .store v (saveSettings p) s

def execSaveCompletion (s : State) : Result := .next (saveCompleted s)

def execStoreStatus (p : Port) (v : Params Unit) (s : State) : Result := command p 0xB0#8 .none v storeStatus s

def execSetAutohome (p : Port) (v : Params Nat) (s : State) : Result := command p 0xB1#8 .config v setAutohome s

def execReset (p : Port) (v : Params Unit) (s : State) : Result := .next (resetCommand p v s)

def execPowerOnReset (s : State) : Result := .next (powerOnReset s)

def execPowerLoss (s : State) : Result := .next (powerLost s)

def execRstnLow (s : State) : Result := .next (rstnLow s)

def execRstnRise (s : State) : Result := .next (rstnRise s)

def execLoadCompletion (s : State) : Result := .next (loadCompleted s)

end Sys2Proof.Machine
end

