-- ==== Sys2Proof/Machine/Uart.lean ====
section
/-! DEFINITION. The Automation Port's receiver (10, section 10.2): the frame, its check, and the command that a good
frame carries. -/

namespace Sys2Proof.Machine

/-- The outcome of the command that a good frame carries: the meaning of its own row (10 R170, R173). The rows that
no port sends answer the state as it is. -/
def frameCommand (i : Instr) (s : State) : Result :=
  match i with
  | .smpSetRound p v => execSmpSetRound p v s
  | .smpSetTrigger p v => execSmpSetTrigger p v s
  | .smpSetTable p v => execSmpSetTable p v s
  | .smpSetChannel p v => execSmpSetChannel p v s
  | .smpClearPeak p v => execSmpClearPeak p v s
  | .smpReadChannel p v => execSmpReadChannel p v s
  | .smpStatus p v => execSmpStatus p v s
  | .captureLevel p v => execCaptureLevel p v s
  | .attSetOrientation p v => execAttSetOrientation p v s
  | .attSetParams p v => execAttSetParams p v s
  | .attStatus p v => execAttStatus p v s
  | .geoSetCorner p v => execGeoSetCorner p v s
  | .geoSetCorners p v => execGeoSetCorners p v s
  | .geoNudgeCorner p v => execGeoNudgeCorner p v s
  | .geoZeroCorners p v => execGeoZeroCorners p v s
  | .geoSetMode p v => execGeoSetMode p v s
  | .geoSetFollow p v => execGeoSetFollow p v s
  | .geoSetPanel p v => execGeoSetPanel p v s
  | .geoSetZoomTable p v => execGeoSetZoomTable p v s
  | .geoClearClip p v => execGeoClearClip p v s
  | .geoStatus p v => execGeoStatus p v s
  | .fwSet p v => execFwSet p v s
  | .fwNudge p v => execFwNudge p v s
  | .fwZero p v => execFwZero p v s
  | .fwZeroAll p v => execFwZeroAll p v s
  | .fwSetLimit p v => execFwSetLimit p v s
  | .fwEnable p v => execFwEnable p v s
  | .fwRead p v => execFwRead p v s
  | .meshStatus p v => execMeshStatus p v s
  | .jog p v => execJog p v s
  | .jogEnd p v => execJogEnd p v s
  | .stop p v => execStop p v s
  | .axisSetParams p v => execAxisSetParams p v s
  | .axisSetJog p v => execAxisSetJog p v s
  | .axisStatus p v => execAxisStatus p v s
  | .axisReadParams p v => execAxisReadParams p v s
  | .mqMove p v => execMqMove p v s
  | .mqStep p v => execMqStep p v s
  | .mqHome p v => execMqHome p v s
  | .mqRecall p v => execMqRecall p v s
  | .flush p v => execFlush p v s
  | .mqStatus p v => execMqStatus p v s
  | .mqOutcomes p v => execMqOutcomes p v s
  | .memSave p v => execMemSave p v s
  | .memDelete p v => execMemDelete p v s
  | .memRead p v => execMemRead p v s
  | .memSetPoweron p v => execMemSetPoweron p v s
  | .fcSet p v => execFcSet p v s
  | .fcStatus p v => execFcStatus p v s
  | .fanSetQuiet p v => execFanSetQuiet p v s
  | .fanClear p v => execFanClear p v s
  | .fanSetCurve p v => execFanSetCurve p v s
  | .fanSetBinding p v => execFanSetBinding p v s
  | .fanSetParams p v => execFanSetParams p v s
  | .fanSetOffsets p v => execFanSetOffsets p v s
  | .fanSetSlew p v => execFanSetSlew p v s
  | .fanStatus p v => execFanStatus p v s
  | .fanReadSettings p v => execFanReadSettings p v s
  | .light p v => execLight p v s
  | .clearTrip p v => execClearTrip p v s
  | .protSetParams p v => execProtSetParams p v s
  | .protSetThresholds p v => execProtSetThresholds p v s
  | .protReadSettings p v => execProtReadSettings p v s
  | .protStatus p v => execProtStatus p v s
  | .unknownCommand p id => execUnknownCommand p id s
  | .readEvents p v => execReadEvents p v s
  | .setEventMask p v => execSetEventMask p v s
  | .ident p v => execIdent p v s
  | .portStatus p v => execPortStatus p v s
  | .setRights p v => execSetRights p v s
  | .saveSettings p v => execSaveSettings p v s
  | .storeStatus p v => execStoreStatus p v s
  | .setAutohome p v => execSetAutohome p v s
  | .reset p v => execReset p v s
  | _ => .next s

/-- The receiver takes a state (10 R170). -/
def setReceiver (r : Receiver) (s : State) : State := { s with port := { s.port with rx := r } }

/-- A frame is abandoned with a BAD_FRAME response, which is not made while 4 frames wait (10 R170, R172). -/
def badFrame (s : State) : State :=
  let t := setReceiver .hunt s
  if t.port.tx.length < 4 then placeB (responsePayload t.port.frameCount 0x00#8 .badFrame []) t else t

/-- A payload is complete in the receiver, or waits for more (10 R170). -/
def keepByte (len : Nat) (got : List Byte) (s : State) : State :=
  if got.length < len then setReceiver (.payload len got) s else setReceiver (.check len got) s

/-- The command of a payload: its identifier and its parameters (10, section 10.2). -/
def payloadCommand : List Byte → Instr
  | [] => .unknownCommand .b 0x00#8
  | id :: params => commandOf .b id params

/-- A byte is taken in CHECK: on a match the frame's command is handed on; answerTo advances the frame count and
returns the receiver to HUNT (10 R170). -/
def checkFrame (len : Nat) (got : List Byte) (b : Byte) (s : State) : Result :=
  if crc8 (u8 len ++ got) = b then frameCommand (payloadCommand got) s else .next (badFrame s)

/-- A byte is taken according to the receiver's state (10 R170). -/
def takeByte (b : Byte) (s : State) : Result :=
  match s.port.rx with
  | .hunt => .next (if b = 0xA5#8 then setReceiver .length s else s)
  | .length =>
    .next (if 1 ≤ b.toNat ∧ b.toNat ≤ 60 then setReceiver (.payload b.toNat []) s else badFrame s)
  | .payload len got => .next (keepByte len (got ++ [b]) s)
  | .check len got => checkFrame len got b s

/-- UART_BYTE_RECEIVED (10 R170): a framing error abandons a frame in progress; a deaf receiver discards. -/
def byteReceived (b : Byte) (stopBit : Bool) (s : State) : Result :=
  if s.deaf then .next s else if stopBit then takeByte b s else .next (setReceiver .hunt s)

def execUartByteReceived (b : Byte) (stopBit : Bool) (s : State) : Result := byteReceived b stopBit s

end Sys2Proof.Machine
end

