-- ==== Sys2Proof/Machine/Dispatch.lean ====
section
/-! DEFINITION. One arm per command: each calls its meaning. -/

namespace Sys2Proof.Machine

def exec (i : Instr) (s : State) : Host.Outcome State Fault Refusal :=
  match i with
  | .conversionCompletion code => Sys2Proof.Machine.execConversionCompletion code s
  | .frameStart => Sys2Proof.Machine.execFrameStart s
  | .delayTimerExpiry => Sys2Proof.Machine.execDelayTimerExpiry s
  | .periodTimerExpiry => Sys2Proof.Machine.execPeriodTimerExpiry s
  | .smpVideoWatchExpiry => Sys2Proof.Machine.execSmpVideoWatchExpiry s
  | .smpSetRound p v => Sys2Proof.Machine.execSmpSetRound p v s
  | .smpSetTrigger p v => Sys2Proof.Machine.execSmpSetTrigger p v s
  | .smpSetTable p v => Sys2Proof.Machine.execSmpSetTable p v s
  | .smpSetChannel p v => Sys2Proof.Machine.execSmpSetChannel p v s
  | .smpClearPeak p v => Sys2Proof.Machine.execSmpClearPeak p v s
  | .smpReadChannel p v => Sys2Proof.Machine.execSmpReadChannel p v s
  | .smpStatus p v => Sys2Proof.Machine.execSmpStatus p v s
  | .captureLevel p v => Sys2Proof.Machine.execCaptureLevel p v s
  | .attSetOrientation p v => Sys2Proof.Machine.execAttSetOrientation p v s
  | .attSetParams p v => Sys2Proof.Machine.execAttSetParams p v s
  | .attStatus p v => Sys2Proof.Machine.execAttStatus p v s
  | .geoSetCorner p v => Sys2Proof.Machine.execGeoSetCorner p v s
  | .geoSetCorners p v => Sys2Proof.Machine.execGeoSetCorners p v s
  | .geoNudgeCorner p v => Sys2Proof.Machine.execGeoNudgeCorner p v s
  | .geoZeroCorners p v => Sys2Proof.Machine.execGeoZeroCorners p v s
  | .geoSetMode p v => Sys2Proof.Machine.execGeoSetMode p v s
  | .geoSetFollow p v => Sys2Proof.Machine.execGeoSetFollow p v s
  | .geoSetPanel p v => Sys2Proof.Machine.execGeoSetPanel p v s
  | .geoSetZoomTable p v => Sys2Proof.Machine.execGeoSetZoomTable p v s
  | .geoClearClip p v => Sys2Proof.Machine.execGeoClearClip p v s
  | .geoStatus p v => Sys2Proof.Machine.execGeoStatus p v s
  | .computationCompletion => Sys2Proof.Machine.execComputationCompletion s
  | .fwSet p v => Sys2Proof.Machine.execFwSet p v s
  | .fwNudge p v => Sys2Proof.Machine.execFwNudge p v s
  | .fwZero p v => Sys2Proof.Machine.execFwZero p v s
  | .fwZeroAll p v => Sys2Proof.Machine.execFwZeroAll p v s
  | .fwSetLimit p v => Sys2Proof.Machine.execFwSetLimit p v s
  | .fwEnable p v => Sys2Proof.Machine.execFwEnable p v s
  | .fwRead p v => Sys2Proof.Machine.execFwRead p v s
  | .meshStatus p v => Sys2Proof.Machine.execMeshStatus p v s
  | .presVideoWatchExpiry => Sys2Proof.Machine.execPresVideoWatchExpiry s
  | .mpStatus => Sys2Proof.Machine.execMpStatus s
  | .mpReadRows v => Sys2Proof.Machine.execMpReadRows v s
  | .mpSetFormat v => Sys2Proof.Machine.execMpSetFormat v s
  | .mpUnknownCommand cmd => Sys2Proof.Machine.execMpUnknownCommand cmd s
  | .mcsnRelease => Sys2Proof.Machine.execMcsnRelease s
  | .legEnd x => Sys2Proof.Machine.execLegEnd x s
  | .stopDecelerationEnd x => Sys2Proof.Machine.execStopDecelerationEnd x s
  | .settleTimeExpiry x => Sys2Proof.Machine.execSettleTimeExpiry x s
  | .homeSwitchEdge x => Sys2Proof.Machine.execHomeSwitchEdge x s
  | .homeTimeout x => Sys2Proof.Machine.execHomeTimeout x s
  | .indexEdge x => Sys2Proof.Machine.execIndexEdge x s
  | .mdfltActivation => Sys2Proof.Machine.execMdfltActivation s
  | .mdfltDeassertion => Sys2Proof.Machine.execMdfltDeassertion s
  | .jog p v => Sys2Proof.Machine.execJog p v s
  | .jogSoftLimitReached x => Sys2Proof.Machine.execJogSoftLimitReached x s
  | .jogTimeoutExpiry x => Sys2Proof.Machine.execJogTimeoutExpiry x s
  | .jogStopEnd x => Sys2Proof.Machine.execJogStopEnd x s
  | .jogEnd p v => Sys2Proof.Machine.execJogEnd p v s
  | .stop p v => Sys2Proof.Machine.execStop p v s
  | .axisSetParams p v => Sys2Proof.Machine.execAxisSetParams p v s
  | .axisSetJog p v => Sys2Proof.Machine.execAxisSetJog p v s
  | .axisStatus p v => Sys2Proof.Machine.execAxisStatus p v s
  | .axisReadParams p v => Sys2Proof.Machine.execAxisReadParams p v s
  | .mqMove p v => Sys2Proof.Machine.execMqMove p v s
  | .mqStep p v => Sys2Proof.Machine.execMqStep p v s
  | .mqHome p v => Sys2Proof.Machine.execMqHome p v s
  | .mqRecall p v => Sys2Proof.Machine.execMqRecall p v s
  | .flush p v => Sys2Proof.Machine.execFlush p v s
  | .mqStatus p v => Sys2Proof.Machine.execMqStatus p v s
  | .mqOutcomes p v => Sys2Proof.Machine.execMqOutcomes p v s
  | .memSave p v => Sys2Proof.Machine.execMemSave p v s
  | .memDelete p v => Sys2Proof.Machine.execMemDelete p v s
  | .memRead p v => Sys2Proof.Machine.execMemRead p v s
  | .memSetPoweron p v => Sys2Proof.Machine.execMemSetPoweron p v s
  | .fcSet p v => Sys2Proof.Machine.execFcSet p v s
  | .fcStatus p v => Sys2Proof.Machine.execFcStatus p v s
  | .fanControlPeriod => Sys2Proof.Machine.execFanControlPeriod s
  | .spinupTimerExpiry f => Sys2Proof.Machine.execSpinupTimerExpiry f s
  | .tachEdge f => Sys2Proof.Machine.execTachEdge f s
  | .tachWindowEnd f => Sys2Proof.Machine.execTachWindowEnd f s
  | .stopTimerExpiry f => Sys2Proof.Machine.execStopTimerExpiry f s
  | .fanSetQuiet p v => Sys2Proof.Machine.execFanSetQuiet p v s
  | .fanClear p v => Sys2Proof.Machine.execFanClear p v s
  | .fanSetCurve p v => Sys2Proof.Machine.execFanSetCurve p v s
  | .fanSetBinding p v => Sys2Proof.Machine.execFanSetBinding p v s
  | .fanSetParams p v => Sys2Proof.Machine.execFanSetParams p v s
  | .fanSetOffsets p v => Sys2Proof.Machine.execFanSetOffsets p v s
  | .fanSetSlew p v => Sys2Proof.Machine.execFanSetSlew p v s
  | .fanStatus p v => Sys2Proof.Machine.execFanStatus p v s
  | .fanReadSettings p v => Sys2Proof.Machine.execFanReadSettings p v s
  | .protectionPeriodExpiry => Sys2Proof.Machine.execProtectionPeriodExpiry s
  | .tcoActivation => Sys2Proof.Machine.execTcoActivation s
  | .drvfltActivation => Sys2Proof.Machine.execDrvfltActivation s
  | .tcoDeassertion => Sys2Proof.Machine.execTcoDeassertion s
  | .drvfltDeassertion => Sys2Proof.Machine.execDrvfltDeassertion s
  | .afterrunTimerExpiry => Sys2Proof.Machine.execAfterrunTimerExpiry s
  | .light p v => Sys2Proof.Machine.execLight p v s
  | .clearTrip p v => Sys2Proof.Machine.execClearTrip p v s
  | .protSetParams p v => Sys2Proof.Machine.execProtSetParams p v s
  | .protSetThresholds p v => Sys2Proof.Machine.execProtSetThresholds p v s
  | .protReadSettings p v => Sys2Proof.Machine.execProtReadSettings p v s
  | .protStatus p v => Sys2Proof.Machine.execProtStatus p v s
  | .i2cWriteOverflow => Sys2Proof.Machine.execI2cWriteOverflow s
  | .uartByteReceived b stopBit => Sys2Proof.Machine.execUartByteReceived b stopBit s
  | .interbyteGapExpiry => Sys2Proof.Machine.execInterbyteGapExpiry s
  | .txFrameSent => Sys2Proof.Machine.execTxFrameSent s
  | .unknownCommand p id => Sys2Proof.Machine.execUnknownCommand p id s
  | .readEvents p v => Sys2Proof.Machine.execReadEvents p v s
  | .setEventMask p v => Sys2Proof.Machine.execSetEventMask p v s
  | .ident p v => Sys2Proof.Machine.execIdent p v s
  | .portStatus p v => Sys2Proof.Machine.execPortStatus p v s
  | .setRights p v => Sys2Proof.Machine.execSetRights p v s
  | .saveSettings p v => Sys2Proof.Machine.execSaveSettings p v s
  | .saveCompletion => Sys2Proof.Machine.execSaveCompletion s
  | .storeStatus p v => Sys2Proof.Machine.execStoreStatus p v s
  | .setAutohome p v => Sys2Proof.Machine.execSetAutohome p v s
  | .reset p v => Sys2Proof.Machine.execReset p v s
  | .powerOnReset => Sys2Proof.Machine.execPowerOnReset s
  | .powerLoss => Sys2Proof.Machine.execPowerLoss s
  | .rstnLow => Sys2Proof.Machine.execRstnLow s
  | .rstnRise => Sys2Proof.Machine.execRstnRise s
  | .loadCompletion => Sys2Proof.Machine.execLoadCompletion s
  | .rawLevelChange pin level => Sys2Proof.Machine.execRawLevelChange pin level s
  | .stepIssued x d => Sys2Proof.Machine.execStepIssued x d s

end Sys2Proof.Machine
end

