-- ==== Sys2Proof/Machine/Step.lean ====
section
/-! DEFINITION. One step: the arrival at the front of the queue, or an idle step (log 1). -/

namespace Sys2Proof.Machine

/-- Take the arrival at the front of the queue. With none waiting, the Port B transmitter begins the frame at the head
of its queue, if one has not begun; nothing else happens (10 R172, log 1). -/
def step (s : State) : Host.Outcome State Fault Refusal :=
  match s.pending with
  | [] => .next (beginFrame s)
  | c :: rest => exec c { s with pending := rest }

/-- Put the command that a table word spells at the front of the queue; a word that spells none changes nothing. -/
def State.withFetchWord (s : State) (nbits w : Nat) : State :=
  match decodeTableWord nbits w with
  | none => s
  | some c => { s with pending := c :: s.pending }

end Sys2Proof.Machine
end

