-- ==== Sys2Proof/Safety.lean ====
section
/-! DEFINITION. What a safe state of the part is: the laws of the manual that hold at every moment, one predicate
each, and the terms in which the statements speak of a command that is taken and answered. -/

namespace Sys2Proof.Machine

/-! ## A command that is taken and answered (10) -/

/-- A command of a port reaches its unit: the ports are not deaf, and on Port B the transmit queue has room and the
right is held (10 R172, R173, R174; 11 R187). -/
def canUse (p : Port) (need : Need) (s : State) : Prop :=
  s.deaf = false ∧ mayUse s.set.rights p need = true ∧ (p = .b → s.port.tx.length < 4)

/-- The state in which the unit takes the command: on Port B the frame has been counted (10 R170). -/
def taken (p : Port) (s : State) : State :=
  match p with
  | .a => s
  | .b => countFrame s

/-- The reply of a command taken in s is placed on the state t that its unit left: in the Port A response buffer, or as
a Port B response frame with the frame count of its command (10 R169, R172). -/
def replied (p : Port) (id : Byte) (k : Status) (d : List Byte) (s t : State) : State :=
  match p with
  | .a => placeA (some id) k d t
  | .b => placeB (responsePayload ((s.port.frameCount + 1) % 256) id k d) t

/-! ## What a composition and a rebuild request leave (03 R41, 04 R66, R67) -/

/-- A rebuild request has turned the engine and the banks of s into those of t (04 R66 to R68, 05 R76): in COMPUTING it
waits; behind a waiting request nothing changes; otherwise a computation begins in the build bank, from the inputs as
they stand in t. -/
def RebuildAsked (s t : State) : Prop :=
  match s.eng.state with
  | .computing _ _ => t.eng = { s.eng with pendingReq := true } ∧ t.pres = s.pres
  | .idle =>
    if s.eng.pendingReq then t.eng = s.eng ∧ t.pres = s.pres
    else ∀ i, buildBank s.pres.banks = some i →
      t.eng = { s.eng with state := .computing i (snapshotOf t) }
        ∧ t.pres = { s.pres with
            banks := s.pres.banks.setState i .writing,
            swap := if (s.pres.banks.get i).state = .ready then .none else s.pres.swap }

/-- t is s after the composition of the trial record g with candidate c has been accepted (03 R41): beside the engine and
the banks, which a rebuild request reaches, only the corners, their flags, the refused pitch and the record change. -/
def ComposedTo (g : GeoRecord) (c : Candidate) (s t : State) : Prop :=
  (∃ e q, t = { s with
      set := { s.set with geo := g },
      geo := { s.geo with corners := c.corners, clamped := c.clamp.isSome, inset := c.inset, held := false },
      att := { s.att with refused := none }, eng := e, pres := q })
    ∧ RebuildAsked s t

/-- t is s after a composition of the record in force that an orientation change or a zoom settle asked for, with
candidate c and its events to d: accepted, the composition's state, with the rebuild it asks for; refused, the corners
stay, the held flag is set and GEOMETRY_REFUSED is raised (03 R39, R41, R43). -/
def ComposedOrHeld (c : Candidate) (d : Dest) (s t : State) : Prop :=
  let clip := reportCornerClip c d s
  (shapeOk s.set.geo.width s.set.geo.height c.corners = true → ComposedTo s.set.geo c clip t)
  ∧ (shapeOk s.set.geo.width s.set.geo.height c.corners = false →
    t = { clip with geo := { clip.geo with held := true }, port := clip.port.raise d .geometryRefused })

/-- t is s after the effective orientation has changed to o, the events going to d (02 R28; 03 R34, R41, R43):
ORIENTATION_CHANGED is raised, no pitch is refused, and the corners are composed for o, or held. -/
def OrientedTo (o : Orientation) (d : Dest) (s t : State) : Prop :=
  ComposedOrHeld (candidateOf s.set.geo s.geo.band s.att.pApp s.set.pRef o) d
    { s with
      att := { s.att with effective := o, refused := none }, port := s.port.raise d .orientationChanged } t

/-- A command of port p that composes the trial record g: accepted when the candidate passes the shape check, with status
k, the composition's state, and the events of its clamp at the port; otherwise SHAPE, with nothing changed but what the
clamp reports (03 R34, R39, R41, R42). -/
def AnswersComposed (i : Instr) (p : Port) (id : Byte) (k : Status) (g : GeoRecord) (s : State) : Prop :=
  (shapeOk g.width g.height (candidate g s).corners = true →
    ∃ t, exec i s = .next (replied p id k [] s t)
      ∧ ComposedTo g (candidate g s) (reportCornerClip (candidate g s) (.port p) (taken p s)) t)
  ∧ (shapeOk g.width g.height (candidate g s).corners = false →
    exec i s = .next (replied p id .shape [] s (reportCornerClip (candidate g s) (.port p) (taken p s))))

/-- An edit of the fine-warp layer or its settings has put g in force: with fine warp ENABLED a rebuild request follows;
with it DISABLED nothing else changes (04 R58, R63). -/
def WarpedTo (g : Settings) (s t : State) : Prop :=
  if g.geo.fineWarp then (∃ e q, t = { s with set := g, eng := e, pres := q }) ∧ RebuildAsked s t
  else t = { s with set := g }

/-- The Presentation Unit after the READY bank i has become the live mesh (05 R78): the bank that was live is EMPTY, the
swap state is NONE, the generation advances, the dirty rows are reported, the selected format is presented with the rows
that saturate in it, and MATTN is asserted. -/
def swapped (i : BankId) (u : Presentation) : Presentation :=
  { u with
    banks := (u.banks.setState i .live).setState i.other .empty, swap := .none,
    generation := (u.generation + 1) % 65536, reported := (u.banks.get i).dirty, presented := u.selected,
    saturated := saturatedRows (u.banks.get i), mattn := true }

/-! ## The end of a request (07 R119 to R121, R130) -/

/-- The event of a request's end and where it goes (07 R119, R121): a COMP request has one only when it ends FAULT. -/
def endEvent (q : Request) (o : Outcome) : Option (Dest × EventKind) :=
  let k : EventKind := match o with
    | .fault | .emptySlot => .motionFault
    | .done | .doneNoGeometry | .geomRefused | .aborted => .motionDone
  match q.source with
  | .portA => some (.port .a, k)
  | .portB => some (.port .b, k)
  | .start => some (.both, k)
  | .comp => if o = .fault then some (.both, .motionFault) else none

/-- s after request q has ended with outcome o (07 R119, R121, R130): a COMP request is accounted, the record leaves the
queue, its axes are released, its entry joins the list of its port and its event is raised. -/
def ended (q : Request) (o : Outcome) (s : State) : State :=
  { s with
    fc := match q.kind with
      | .comp => { s.fc with applied := s.fc.applied + (s.axes.focus.position - q.focusStart) }
      | .move | .step | .home | .recall => s.fc,
    axes := s.axes.map fun _ a => if a.running = some q.serial then { a with running := none } else a,
    mq := { s.mq with
      requests := s.mq.requests.filter fun r => decide (r.serial ≠ q.serial),
      outcomes := match q.source with
        | .portA | .start => { s.mq.outcomes with a := pushWindow 4 s.mq.outcomes.a ⟨q.tag, q.kind, o⟩ }
        | .portB => { s.mq.outcomes with b := pushWindow 4 s.mq.outcomes.b ⟨q.tag, q.kind, o⟩ }
        | .comp => s.mq.outcomes },
    port := match endEvent q o with
      | none => s.port
      | some e => s.port.raise e.1 e.2 }

/-- t is s after a RECALL whose axes have all finished has ended (03 R44; 07 R119, R120): without a payload DONE; with
one that Port B has no right to offer DONE_NO_GEOMETRY; otherwise its offsets are composed with mode CORNERS, and it
ends DONE, or GEOM_REFUSED with the record as it was. -/
def RecallEnded (q : Request) (s t : State) : Prop :=
  match q.payload with
  | none => t = ended q .done s
  | some d =>
    if q.source = .portB ∧ s.set.rights.geometry = false then t = ended q .doneNoGeometry s
    else
      let g : GeoRecord := { s.set.geo with offsets := d, corners := true }
      let clip := reportCornerClip (candidate g s) q.source.dest s
      (shapeOk g.width g.height (candidate g s).corners = true →
        ∃ u, ComposedTo g (candidate g s) clip u ∧ t = ended q .done u)
      ∧ (shapeOk g.width g.height (candidate g s).corners = false → t = ended q .geomRefused clip)

/-! ## The dispatch test (07 R117) -/

/-- A WAITING request at place n of the queue of s, or one that is to take it, is held back: an axis that it names is
not free, or an older WAITING request names it. -/
def heldBack (s : State) (n : Nat) (q : Request) : Prop :=
  ∃ x, q.axes.get x = true
    ∧ ((s.axes.get x).running ≠ none ∨ (s.axes.get x).state.busy = true
      ∨ ∃ k r, k < n ∧ s.mq.requests[k]? = some r ∧ r.dispatched = false ∧ r.axes.get x = true)

/-- Every WAITING request that stands before place n of the queue of s is held back. -/
def heldBefore (s : State) (n : Nat) : Prop :=
  ∀ k q, k < n → s.mq.requests[k]? = some q → q.dispatched = false → heldBack s k q

/-- The dispatch test has turned s into t (07 R117): the WAITING requests are tested oldest first, and each that is not
held back is dispatched as it is reached. -/
inductive DispatchTested : State → State → Prop
  | done {s : State} : heldBefore s s.mq.requests.length → DispatchTested s s
  | next {s t : State} {n : Nat} {q : Request} :
    s.mq.requests[n]? = some q → q.dispatched = false → heldBefore s n → ¬ heldBack s n q →
    DispatchTested (dispatch q s) t → DispatchTested s t

/-! ## What follows an arrival that brings axes to rest (06 R103; 07 R117, R119) -/

/-- A running request all of whose axes are at rest (06 R103). -/
def atRest (s : State) (q : Request) : Prop :=
  q.dispatched = true ∧ ∀ x, q.axes.get x = true → (s.axes.get x).state.busy = false

/-- t is s after q has ended as its axes came to rest: FAULT when one of them failed, ABORTED when it was stopped and none
failed, and otherwise DONE, a RECALL offering its geometry (06 R103; 07 R119, R120). -/
def AxesEnded (q : Request) (s t : State) : Prop :=
  if q.failed = false ∧ q.stopped = false ∧ q.kind = .recall then RecallEnded q s t
  else t = ended q (if q.failed then .fault else if q.stopped then .aborted else .done) s

/-- s after the part of axis x in the request that holds it has failed (06 R103): that request is marked failed, and
stopped when it has other axes (log 24), and these are stopped as STOP stops them; on an axis that no request holds
nothing more changes. -/
def failedPart (x : Axis) (s : State) : State :=
  match (s.axes.get x).running.bind fun k => s.mq.requests.find? fun q => decide (q.serial = k) with
  | none => s
  | some q => { s with
      axes := s.axes.map fun y a => if q.axes.get y = true ∧ y ≠ x then stopAxis (s.set.axes.get y) a else a,
      mq := { s.mq with requests := s.mq.requests.map fun p =>
        if p.serial = q.serial then
          { p with failed := true, stopped := p.stopped || allAxes.any fun y => q.axes.get y && decide (y ≠ x) }
        else p } }

/-- The queue has settled from s to t: each running request whose axes are all at rest ends, oldest first (log 27), the
dispatch test following each end; with none left, the dispatch test is applied (07 R117, R119). -/
inductive QueueSettled : State → State → Prop
  | rest {s t : State} : (∀ q ∈ s.mq.requests, ¬ atRest s q) → DispatchTested s t → QueueSettled s t
  | finish {s e u t : State} {n : Nat} {q : Request} :
    s.mq.requests[n]? = some q → atRest s q → (∀ k r, k < n → s.mq.requests[k]? = some r → ¬ atRest s r) →
    AxesEnded q s e → DispatchTested e u → QueueSettled u t → QueueSettled s t

/-! ## The control-port commands (10, section 10.8; 12 R190) -/

/-- What a control-port command is to the Port Unit: its port, its identifier, what it needs of the port, and whether its
parameter bytes match a form of it, or its own rule answers that they do not. -/
structure Control where
  port : Port
  id : Byte
  need : Need
  fits : Bool

/-- The parameters match a form. -/
def isForm {α : Type} : Params α → Bool
  | .form _ => true
  | .misfit => false

/-- What a vertex edit is to the Port Unit (12 R190; 10 R173): one whose selector or flag no form has is refused before
its right is looked at, with the reply that 04 R58 gives it, so that it needs none. -/
def editControl {α : Type} (p : Port) (id : Byte) : EditParams α → Control
  | .form _ => ⟨p, id, .geometry, true⟩
  | .noForm _ _ => ⟨p, id, .none, true⟩
  | .misfit => ⟨p, id, .geometry, false⟩

/-- The control-port command of an arrival: the identifiers of 12 R190 and the rights of 10, section 10.8; none for the
arrivals that no port sends, and for UNKNOWN_COMMAND, whose identifier names no command. -/
def controlOf : Instr → Option Control
  | .smpSetRound p v => some ⟨p, 0x10#8, .config, isForm v⟩
  | .smpSetTrigger p v => some ⟨p, 0x11#8, .config, isForm v⟩
  | .smpSetTable p v => some ⟨p, 0x12#8, .config, isForm v⟩
  | .smpSetChannel p v => some ⟨p, 0x13#8, .config, isForm v⟩
  | .smpClearPeak p v => some ⟨p, 0x14#8, .config, isForm v⟩
  | .smpReadChannel p v => some ⟨p, 0x15#8, .none, isForm v⟩
  | .smpStatus p v => some ⟨p, 0x16#8, .none, isForm v⟩
  | .captureLevel p v => some ⟨p, 0x20#8, .geometry, isForm v⟩
  | .attSetOrientation p v => some ⟨p, 0x21#8, .geometry, isForm v⟩
  | .attSetParams p v => some ⟨p, 0x22#8, .config, isForm v⟩
  | .attStatus p v => some ⟨p, 0x23#8, .none, isForm v⟩
  | .geoSetCorner p v => some ⟨p, 0x30#8, .geometry, isForm v⟩
  | .geoSetCorners p v => some ⟨p, 0x31#8, .geometry, isForm v⟩
  | .geoNudgeCorner p v => some ⟨p, 0x32#8, .geometry, isForm v⟩
  | .geoZeroCorners p v => some ⟨p, 0x33#8, .geometry, isForm v⟩
  | .geoSetMode p v => some ⟨p, 0x34#8, .geometry, isForm v⟩
  | .geoSetFollow p v => some ⟨p, 0x35#8, .geometry, isForm v⟩
  | .geoSetPanel p v => some ⟨p, 0x36#8, .config, isForm v⟩
  | .geoSetZoomTable p v => some ⟨p, 0x37#8, .config, isForm v⟩
  | .geoClearClip p v => some ⟨p, 0x38#8, .geometry, isForm v⟩
  | .geoStatus p v => some ⟨p, 0x39#8, .none, isForm v⟩
  | .fwSet p v => some (editControl p 0x40#8 v)
  | .fwNudge p v => some (editControl p 0x41#8 v)
  | .fwZero p v => some (editControl p 0x42#8 v)
  | .fwZeroAll p v => some ⟨p, 0x43#8, .geometry, isForm v⟩
  | .fwSetLimit p v => some ⟨p, 0x44#8, .geometry, isForm v⟩
  | .fwEnable p v => some ⟨p, 0x45#8, .geometry, isForm v⟩
  | .fwRead p v => some ⟨p, 0x46#8, .none, isForm v⟩
  | .meshStatus p v => some ⟨p, 0x47#8, .none, isForm v⟩
  | .jog p v => some ⟨p, 0x50#8, .motion, isForm v⟩
  | .jogEnd p v => some ⟨p, 0x51#8, .motion, isForm v⟩
  | .stop p v => some ⟨p, 0x52#8, .motion, isForm v⟩
  | .axisSetParams p v => some ⟨p, 0x53#8, .config, isForm v⟩
  | .axisSetJog p v => some ⟨p, 0x54#8, .config, isForm v⟩
  | .axisStatus p v => some ⟨p, 0x55#8, .none, isForm v⟩
  | .axisReadParams p v => some ⟨p, 0x56#8, .none, isForm v⟩
  | .mqMove p v => some ⟨p, 0x60#8, .motion, isForm v⟩
  | .mqStep p v => some ⟨p, 0x61#8, .motion, isForm v⟩
  | .mqHome p v => some ⟨p, 0x62#8, .motion, isForm v⟩
  | .mqRecall p v => some ⟨p, 0x63#8, .motion, isForm v⟩
  | .flush p v => some ⟨p, 0x64#8, .motion, isForm v⟩
  | .mqStatus p v => some ⟨p, 0x65#8, .none, isForm v⟩
  | .mqOutcomes p v => some ⟨p, 0x66#8, .none, isForm v⟩
  | .memSave p v => some ⟨p, 0x70#8, .motion, isForm v⟩
  | .memDelete p v => some ⟨p, 0x71#8, .motion, isForm v⟩
  | .memRead p v => some ⟨p, 0x72#8, .none, isForm v⟩
  | .memSetPoweron p v => some ⟨p, 0x73#8, .config, isForm v⟩
  | .fcSet p v => some ⟨p, 0x78#8, .config, isForm v⟩
  | .fcStatus p v => some ⟨p, 0x79#8, .none, isForm v⟩
  | .fanSetQuiet p v => some ⟨p, 0x80#8, .cooling, isForm v⟩
  | .fanClear p v => some ⟨p, 0x81#8, .cooling, isForm v⟩
  | .fanSetCurve p v => some ⟨p, 0x82#8, .config, isForm v⟩
  | .fanSetBinding p v => some ⟨p, 0x83#8, .config, isForm v⟩
  | .fanSetParams p v => some ⟨p, 0x84#8, .config, isForm v⟩
  | .fanSetOffsets p v => some ⟨p, 0x85#8, .config, isForm v⟩
  | .fanSetSlew p v => some ⟨p, 0x86#8, .config, isForm v⟩
  | .fanStatus p v => some ⟨p, 0x87#8, .none, isForm v⟩
  | .fanReadSettings p v => some ⟨p, 0x88#8, .none, isForm v⟩
  | .light p v => some ⟨p, 0x94#8, .systemPort, isForm v⟩
  | .clearTrip p v => some ⟨p, 0x95#8, .systemPort, isForm v⟩
  | .protSetParams p v => some ⟨p, 0x90#8, .config, isForm v⟩
  | .protSetThresholds p v => some ⟨p, 0x91#8, .config, isForm v⟩
  | .protReadSettings p v => some ⟨p, 0x93#8, .none, isForm v⟩
  | .protStatus p v => some ⟨p, 0x92#8, .none, isForm v⟩
  | .readEvents p v => some ⟨p, 0xA0#8, .none, isForm v⟩
  | .setEventMask p v => some ⟨p, 0xA1#8, .none, isForm v⟩
  | .ident p v => some ⟨p, 0xA2#8, .none, isForm v⟩
  | .portStatus p v => some ⟨p, 0xA3#8, .none, isForm v⟩
  | .setRights p v => some ⟨p, 0xA4#8, .systemPort, isForm v⟩
  | .saveSettings p v => some ⟨p, 0xB2#8, .store, isForm v⟩
  | .storeStatus p v => some ⟨p, 0xB0#8, .none, isForm v⟩
  | .setAutohome p v => some ⟨p, 0xB1#8, .config, isForm v⟩
  | .reset p v => some ⟨p, 0xB3#8, .systemPort, isForm v⟩
  | .conversionCompletion _ | .frameStart | .delayTimerExpiry | .periodTimerExpiry | .smpVideoWatchExpiry
  | .computationCompletion | .presVideoWatchExpiry | .mpStatus | .mpReadRows _ | .mpSetFormat _
  | .mpUnknownCommand _ | .mcsnRelease | .legEnd _ | .stopDecelerationEnd _ | .settleTimeExpiry _
  | .homeSwitchEdge _ | .homeTimeout _ | .indexEdge _ | .mdfltActivation | .mdfltDeassertion
  | .jogSoftLimitReached _ | .jogTimeoutExpiry _ | .jogStopEnd _ | .fanControlPeriod | .spinupTimerExpiry _
  | .tachEdge _ | .tachWindowEnd _ | .stopTimerExpiry _ | .protectionPeriodExpiry | .tcoActivation
  | .drvfltActivation | .tcoDeassertion | .drvfltDeassertion | .afterrunTimerExpiry | .i2cWriteOverflow
  | .uartByteReceived _ _ | .interbyteGapExpiry | .txFrameSent | .unknownCommand _ _ | .saveCompletion
  | .powerOnReset | .powerLoss | .rstnLow | .rstnRise | .loadCompletion | .rawLevelChange _ _ | .stepIssued _ _ => none

/-! ## Laws of the units -/

/-- Every setting in force lies in the range that its command checks (11 R182; 04 R56 for the fine-warp layer), and so
do the corner offsets that a running RECALL request is to write (07 R118, R120). -/
def SettingsSound (s : State) : Prop :=
  s.set.sound = true ∧ ∀ r ∈ s.mq.requests, ∀ d, r.payload = some d → d.all offsetOk = true

/-- Nothing moves while the store loads (11 R187): no round and no delay timer runs, the queue holds no request, the
control and protection periods are stopped, the trip is CLEAR, and every axis is UNHOMED at homing count 0 (06 R111). -/
def LoadQuiet (s : State) : Prop :=
  s.store.state = .loading →
    s.smp.round = [] ∧ s.smp.delayRunning = false ∧ s.mq.requests = [] ∧ s.fan.running = false
      ∧ s.prot.running = false ∧ s.prot.trip = none
      ∧ ∀ x : Axis, (s.axes.get x).state = .unhomed ∧ (s.axes.get x).homingCount = 0

/-- LSEN is asserted exactly while the light is requested, start-up is complete and the trip is CLEAR (09 R164). -/
def LightGated (s : State) : Prop :=
  s.prot.lsen = (s.prot.lightRequest && s.prot.startup && s.prot.trip.isNone)

/-- The allowance is 0 while the trip is LATCHED, and otherwise lies from the floor to 1000 (09 R154). -/
def AllowanceBounded (s : State) : Prop :=
  match s.prot.trip with
  | some _ => s.prot.allowance = 0
  | none => s.set.prot.floor ≤ s.prot.allowance ∧ s.prot.allowance ≤ 1000

/-- The law of the allowance with what keeps it (09 R154, R155, R166). -/
def AllowanceLaw (s : State) : Prop := s.set.prot.ok = true ∧ AllowanceBounded s ∧ LoadQuiet s

/-- The commanded duty of a fan by its state (08 R139): with quiet mode ON and no override, a RUNNING fan is at most at
its quiet cap. -/
def dutyLawful (quiet : Bool) (cap : Int) (r : FanRec) : Prop :=
  match r.state with
  | .off | .stalled | .failed => r.duty = 0
  | .spinup => r.duty = 1000
  | .running => quiet = true → r.override.any = false → r.duty ≤ cap

/-- The law of the commanded duties (08 R139). -/
def FanLaw (s : State) : Prop :=
  slewOk s.set.slew = true ∧ ∀ f : Fan, dutyLawful s.set.quiet (s.set.fans.get f).quietCap (s.fan.fans.get f)

/-- A bank holds the live mesh. -/
def BankState.shown : BankState → Bool
  | .live | .reading => true
  | _ => false

/-- A bank is WRITING only while the engine computes into it (05 R75). -/
def writingLawful (s : State) (i : BankId) : Prop :=
  (s.pres.banks.get i).state = .writing ↔ ∃ snap, s.eng.state = .computing i snap

/-- The law of the banks (05 R75, 04 R66, R72): at most one bank is LIVE or READING, at most one is READY, none is READY
while the engine computes, a swap is WAITING or DEFERRED exactly while a bank is READY, and a rebuild request waits in
IDLE only behind a READY bank. -/
def BankLaw (s : State) : Prop :=
  writingLawful s .a ∧ writingLawful s .b
    ∧ ¬ (s.pres.banks.a.state.shown = true ∧ s.pres.banks.b.state.shown = true)
    ∧ ¬ (s.pres.banks.a.state = .ready ∧ s.pres.banks.b.state = .ready)
    ∧ (∀ i snap, s.eng.state = .computing i snap → (s.pres.banks.get i.other).state ≠ .ready)
    ∧ (s.pres.swap ≠ .none ↔ ∃ i, (s.pres.banks.get i).state = .ready)
    ∧ (s.eng.state = .idle → s.eng.pendingReq = true → ∃ i, (s.pres.banks.get i).state = .ready)

/-- The number of COMP requests held. -/
def compCount (s : State) : Nat := (s.mq.requests.filter fun r => decide (r.kind = .comp)).length

/-- The bounds of the Motion Queue (07 R113, R121, R129): at most 8 requests, at most one of them COMP, at most 4
outcomes a port; nothing is held while the store loads. -/
def QueueLaw (s : State) : Prop :=
  s.mq.requests.length ≤ 8 ∧ compCount s ≤ 1 ∧ s.mq.outcomes.a.length ≤ 4 ∧ s.mq.outcomes.b.length ≤ 4
    ∧ LoadQuiet s

/-- The number of notices of the transmit queue that have not begun. -/
def waitingNotices (u : PortUnit) : Nat := (u.tx.filter TxFrame.waitingNotice).length

/-- The law of the Port Unit (10 R172, R175, R177, R178): each kind at most once, ATTN_A by the unmasked set, at most
4 frames, a notice owed only to a full queue, at most one notice not begun, and none while nothing is unmasked. -/
def PortLaw (u : PortUnit) : Prop :=
  u.events.a.kinds.Nodup ∧ u.events.b.kinds.Nodup
    ∧ u.attnA = !(unmasked u.events.a u.masks.a).isEmpty
    ∧ u.tx.length ≤ 4
    ∧ (u.owed = true → u.tx.length = 4)
    ∧ waitingNotices u + (if u.owed then 1 else 0) ≤ 1
    ∧ (u.unmaskedB.isEmpty = true → waitingNotices u = 0 ∧ u.owed = false)

/-- A position lies within the soft limits (06 R95). -/
def inTravel (g : AxisSettings) (p : Int) : Prop := 0 ≤ p ∧ p ≤ g.travel

/-- The law of one axis (06 R93, R95 to R98): a homed axis is within its soft limits, and so are the end of its leg and
its target. -/
def axisLawful (g : AxisSettings) (r : AxisRec) : Prop :=
  match r.state with
  | .idle | .settling | .jog => inTravel g r.position
  | .moving => inTravel g r.position ∧ inTravel g r.legEnd ∧ ∀ t, r.target = some t → inTravel g t
  | .unhomed | .homing | .lost | .fault => True

/-- The ranges of the counts and the level of an axis record, whatever its state (06 R93). -/
def axisRanges (g : AxisSettings) (r : AxisRec) : Prop :=
  (0 ≤ r.position ∧ r.position ≤ 65535) ∧ (r.homingCount : Int) ≤ g.travel + g.travel / 10
    ∧ 1 ≤ r.jogLevel ∧ r.jogLevel ≤ 4

/-- The law of the axes (06 R93, R95). -/
def AxisLaw (s : State) : Prop :=
  LoadQuiet s ∧ ∀ x : Axis, (s.set.axes.get x).ok = true ∧ axisRanges (s.set.axes.get x) (s.axes.get x)
    ∧ axisLawful (s.set.axes.get x) (s.axes.get x)

/-- A point lies in a panel of w by h pixels (00, Quantities and units). -/
def inPanel (w h : Int) (p : Pt) : Prop := 0 ≤ p.x ∧ p.x ≤ 16 * w ∧ 0 ≤ p.y ∧ p.y ≤ 16 * h

/-- Four corners lie in the panel and pass the shape check (03 R39, R40). -/
def cornersLawful (w h : Int) (c : PerCorner Pt) : Prop :=
  inPanel w h c.tl ∧ inPanel w h c.tr ∧ inPanel w h c.bl ∧ inPanel w h c.br ∧ shapeOk w h c = true

/-- The composed corners are always an accepted composition's, or nominal (03 R41, R52). -/
def CornerLaw (s : State) : Prop :=
  panelOk s.set.geo.width s.set.geo.height = true
    ∧ cornersLawful s.set.geo.width s.set.geo.height s.geo.corners

/-- Every vertex of a bank that holds a finished mesh lies in its panel (04 R57). -/
def bankLawful (b : Bank) : Prop :=
  match b.state with
  | .ready | .live | .reading => ∀ k : Fin 153, inPanel b.width b.height (b.mesh.get k)
  | .empty | .writing => True

/-- The snapshot of a computation in progress has lawful corners. -/
def snapshotLawful (e : EngineState) : Prop :=
  match e with
  | .idle => True
  | .computing _ snap => panelOk snap.width snap.height = true ∧ cornersLawful snap.width snap.height snap.corners

/-- The law of the meshes (04 R57). -/
def MeshLaw (s : State) : Prop :=
  CornerLaw s ∧ snapshotLawful s.eng.state ∧ bankLawful s.pres.banks.a ∧ bankLawful s.pres.banks.b

/-- The ranges of a channel record (01, section 1.5): a VALID channel has a filtered value. -/
def recordLawful (r : ChannelRec) : Prop :=
  r.lastCode ≤ 4095 ∧ r.invalidRun ≤ 255 ∧ r.validRun ≤ 255 ∧ r.history.length ≤ 4
    ∧ (r.validity = .valid → r.filtered.isSome = true)

/-- The law of the channel records and the round (01 R2, section 1.5). -/
def SamplingLaw (s : State) : Prop :=
  (∀ k : Fin 10, recordLawful (s.smp.records.get k)) ∧ s.smp.round.length ≤ 16 ∧ s.smp.roundCount < 65536
    ∧ roundOk s.set.round = true

/-- At most 16 samples in a window, each an angle within +-9000 (02 R19). -/
def windowLawful (l : List Int) : Prop := l.length ≤ 16 ∧ ∀ v ∈ l, -9000 ≤ v ∧ v ≤ 9000

/-- The law of the attitude state (02, state table): the windows, and the orientation count below 8. -/
def AttitudeLaw (s : State) : Prop :=
  (∀ c : AngleCh, windowLawful (s.att.windows.get c)) ∧ s.att.count ≤ 7

end Sys2Proof.Machine
end

