-- ==== Sys2Proof/Certificates/Slice0/Obligations.lean ====
section
/-! DEFINITION. The statements for the provers. Each says in its docstring which rules it formalises. In a statement of
a control-port command, p is either port, `canUse` is the condition under which the command reaches its unit (10 R172,
R173, R174; 11 R187), `taken p s` is s with a Port B frame counted (10 R170), and `replied` places the reply (10 R169,
R172); the next state is given whole, as an update of `taken p s`, so that every field not named is unchanged. -/

open Sys2Proof Sys2Proof.Machine

/-! ## The queue of arrivals -/

/-- One step with a command at the front of the queue is that command's meaning on the state with the queue's rest.
The queue itself is the model's (log 1). -/
def Obligations.StepTakesFront : Prop :=
  ∀ (c : Instr) (s : State), step { s with pending := c :: s.pending } = exec c s

/-- THE MODEL'S CHOICE (log 1): on an empty queue the Port B transmitter begins the frame at the head of its queue,
when it has not begun, a notice taking its contents then (10 R172, R178); nothing else happens. -/
def Obligations.IdleStep : Prop :=
  ∀ s : State, s.pending = [] →
    ∃ l, step s = .next { s with port := { s.port with tx := l } }
      ∧ (∀ pay rest, s.port.tx = .response pay false :: rest → l = .response pay true :: rest)
      ∧ (∀ rest, s.port.tx = .notice none :: rest → l = .notice (some s.port.noticePayload) :: rest)
      ∧ (∀ pay rest, s.port.tx = .response pay true :: rest → l = s.port.tx)
      ∧ (∀ pay rest, s.port.tx = .notice (some pay) :: rest → l = s.port.tx)
      ∧ (s.port.tx = [] → l = [])

/-! ## Sampling Unit (01) -/

/-- SMP_SET_ROUND, SMP_SET_TRIGGER, SMP_SET_TABLE and SMP_SET_CHANNEL with values in range are answered OK and
replace the settings they carry; SMP_SET_TRIGGER also sets the trigger state, the divider count to 0, stops the
delay timer and runs or stops the period timer (01 R2, R3, R16). SMP_CLEAR_PEAK sets the peaks of the named TEMP
channels to 0 and leaves every other field of every record; SMP_READ_CHANNEL returns the record; SMP_STATUS
returns the status and clears the round overrun (01 R5, R17). Where 12 leaves the order, the width or the code of reply
data open, as that of the video watch, they are the model's choice (log 17). -/
def Obligations.SamplingCommands : Prop :=
  (∀ (p : Port) (s : State), canUse p .config s →
     (∀ ids : List (Fin 10), 1 ≤ ids.length → ids.length ≤ 16 →
       exec (.smpSetRound p (.form (ids.map Fin.val))) s =
         .next (replied p 0x10#8 .ok [] s
           { taken p s with set := { (taken p s).set with round := ids } }))
     ∧ (∀ n d t : Nat, 1 ≤ n → n ≤ 16 → d ≤ 10000 → 5 ≤ t → t ≤ 1000 →
       exec (.smpSetTrigger p (.form ⟨1, n, d, t⟩)) s =
         .next (replied p 0x11#8 .ok [] s
           { taken p s with
             set := { (taken p s).set with trigger := ⟨.free, n, d, t⟩ },
             smp := { (taken p s).smp with
               trigState := .freeRun, divCount := 0, delayRunning := false, periodRunning := true } })
       ∧ (s.smp.video = true → exec (.smpSetTrigger p (.form ⟨0, n, d, t⟩)) s =
         .next (replied p 0x11#8 .ok [] s
           { taken p s with
             set := { (taken p s).set with trigger := ⟨.sync, n, d, t⟩ },
             smp := { (taken p s).smp with
               trigState := .syncLocked, divCount := 0, delayRunning := false, periodRunning := false } }))
       ∧ (s.smp.video = false → exec (.smpSetTrigger p (.form ⟨0, n, d, t⟩)) s =
         .next (replied p 0x11#8 .ok [] s
           { taken p s with
             set := { (taken p s).set with trigger := ⟨.sync, n, d, t⟩ },
             smp := { (taken p s).smp with
               trigState := .syncFallback, divCount := 0, delayRunning := false, periodRunning := true } })))
     ∧ (∀ (k : Fin 4) (t : Vector Int 17), (∀ v ∈ t.toList, -400 ≤ v ∧ v ≤ 1500) →
       exec (.smpSetTable p (.form ⟨k.val, t.toList⟩)) s =
         .next (replied p 0x12#8 .ok [] s
           { taken p s with set := { (taken p s).set with tables := (taken p s).set.tables.set k t } }))
     ∧ (∀ (c : Fin 7) (k : Fin 4),
       exec (.smpSetChannel p (.form (.temp c.val k.val))) s =
         .next (replied p 0x13#8 .ok [] s
           { taken p s with set := { (taken p s).set with tempTable := (taken p s).set.tempTable.set c k } }))
     ∧ (∀ (c : AngleCh) (z k : Nat), z ≤ 4095 → 1 ≤ k → k ≤ 1023 →
       exec (.smpSetChannel p (.form (.angle c.channel.val z k))) s =
         .next (replied p 0x13#8 .ok [] s
           { taken p s with set := { (taken p s).set with angle := (taken p s).set.angle.set c ⟨z, k⟩ } })))
  ∧ (∀ (p : Port) (s : State), canUse p .none s →
       (canUse p .config s → ∀ m : Nat, m < 128 → ∃ l : Vector ChannelRec 10,
         exec (.smpClearPeak p (.form m)) s =
           .next (replied p 0x14#8 .ok [] s { taken p s with smp := { (taken p s).smp with records := l } })
         ∧ ∀ k : Fin 10, l.get k =
             if m.testBit k.val then { s.smp.records.get k with peak := 0 } else s.smp.records.get k)
       ∧ (∀ k : Fin 10, let r := s.smp.records.get k
           exec (.smpReadChannel p (.form k.val)) s =
           .next (replied p 0x15#8 .ok
             (u16 r.lastCode ++ u8 r.validity.code ++ u8 r.invalidRun ++ u8 r.validRun ++ opt16 r.filtered ++ s16 r.peak
               ++ u8 r.history.length) s (taken p s)))
       ∧ exec (.smpStatus p (.form ())) s =
           .next (replied p 0x16#8 .ok
             (u8 s.set.trigger.mode.code ++ u8 s.smp.trigState.code ++ u8 s.smp.divCount ++ flag s.smp.delayRunning
               ++ flag s.smp.video ++ flag s.smp.overrun ++ u16 s.smp.roundCount ++ flag (!s.smp.round.isEmpty)) s
             { taken p s with smp := { (taken p s).smp with overrun := false } }))

/-- DELAY_TIMER_EXPIRY and PERIOD_TIMER_EXPIRY give a round trigger: it takes the snapshot of the round list when no
round is in progress, and otherwise sets the round overrun; SMP_VIDEO_WATCH_EXPIRY leaves SYNC_LOCKED for
SYNC_FALLBACK, and only that state (01 R4 to R8). FRAME_START with no bank READY: both video watches run; in
FREE_RUN nothing further; in SYNC_LOCKED and in SYNC_FALLBACK, which it ends, it is counted, and the one that
brings the count to N starts a round, or the delay timer when the frame delay is above 0, or is dropped as an
overrun while the delay timer runs or a round is in progress (01 R4, R5, R6; 05 R79). -/
def Obligations.RoundsAndFrames : Prop :=
  (∀ s : State,
     (s.smp.delayRunning = true → s.smp.round = [] →
       exec .delayTimerExpiry s = .next { s with smp := { s.smp with delayRunning := false, round := s.set.round } })
     ∧ (s.smp.delayRunning = true → s.smp.round ≠ [] →
       exec .delayTimerExpiry s = .next { s with smp := { s.smp with delayRunning := false, overrun := true } })
     ∧ (s.deaf = false → s.smp.periodRunning = true → s.smp.round = [] →
       exec .periodTimerExpiry s = .next { s with smp := { s.smp with round := s.set.round } })
     ∧ (s.deaf = false → s.smp.periodRunning = true → s.smp.round ≠ [] →
       exec .periodTimerExpiry s = .next { s with smp := { s.smp with overrun := true } })
     ∧ (s.smp.video = true → s.smp.trigState = .syncLocked →
       exec .smpVideoWatchExpiry s =
         .next { s with smp := { s.smp with
           video := false, trigState := .syncFallback, delayRunning := false, divCount := 0, periodRunning := true } })
     ∧ (s.smp.video = true → s.smp.trigState ≠ .syncLocked →
       exec .smpVideoWatchExpiry s = .next { s with smp := { s.smp with video := false } }))
  ∧ (∀ s : State, s.deaf = false → s.pres.banks.find .ready = none →
       (s.smp.trigState = .freeRun →
         exec .frameStart s =
           .next { s with smp := { s.smp with video := true }, pres := { s.pres with video := true } })
       ∧ (s.smp.trigState = .syncLocked → s.smp.divCount + 1 < s.set.trigger.divider →
         exec .frameStart s =
           .next { s with
             smp := { s.smp with video := true, divCount := s.smp.divCount + 1 },
             pres := { s.pres with video := true } })
       ∧ (s.smp.trigState = .syncLocked → s.smp.divCount + 1 = s.set.trigger.divider → s.smp.delayRunning = true →
         exec .frameStart s =
           .next { s with
             smp := { s.smp with video := true, divCount := 0, overrun := true }, pres := { s.pres with video := true } })
       ∧ (s.smp.trigState = .syncLocked → s.smp.divCount + 1 = s.set.trigger.divider → s.smp.delayRunning = false →
         0 < s.set.trigger.delay →
         exec .frameStart s =
           .next { s with
             smp := { s.smp with video := true, divCount := 0, delayRunning := true },
             pres := { s.pres with video := true } })
       ∧ (s.smp.trigState = .syncLocked → s.smp.divCount + 1 = s.set.trigger.divider → s.smp.delayRunning = false →
         s.set.trigger.delay = 0 → s.smp.round = [] →
         exec .frameStart s =
           .next { s with
             smp := { s.smp with video := true, divCount := 0, round := s.set.round },
             pres := { s.pres with video := true } })
       ∧ (s.smp.trigState = .syncLocked → s.smp.divCount + 1 = s.set.trigger.divider → s.smp.delayRunning = false →
         s.set.trigger.delay = 0 → s.smp.round ≠ [] →
         exec .frameStart s =
           .next { s with
             smp := { s.smp with video := true, divCount := 0, overrun := true }, pres := { s.pres with video := true } })
       ∧ (s.smp.trigState = .syncFallback → s.set.trigger.divider = 1 → s.smp.delayRunning = false →
         s.set.trigger.delay = 0 → s.smp.round = [] →
         exec .frameStart s =
           .next { s with
             smp := { s.smp with
               video := true, trigState := .syncLocked, periodRunning := false, divCount := 0, round := s.set.round },
             pres := { s.pres with video := true } })
       ∧ (s.smp.trigState = .syncFallback →
         let locked : Sampling := { s.smp with
           video := true, trigState := .syncLocked, periodRunning := false, divCount := 0 }
         let then' (m : Sampling) : State := { s with smp := m, pres := { s.pres with video := true } }
         (1 < s.set.trigger.divider → exec .frameStart s = .next (then' { locked with divCount := 1 }))
         ∧ (s.set.trigger.divider = 1 → s.smp.delayRunning = true →
           exec .frameStart s = .next (then' { locked with overrun := true }))
         ∧ (s.set.trigger.divider = 1 → s.smp.delayRunning = false → 0 < s.set.trigger.delay →
           exec .frameStart s = .next (then' { locked with delayRunning := true }))
         ∧ (s.set.trigger.divider = 1 → s.smp.delayRunning = false → s.set.trigger.delay = 0 → s.smp.round ≠ [] →
           exec .frameStart s = .next (then' { locked with overrun := true }))))

/-- Rounding is to the nearest integer, halves toward positive infinity (00, Arithmetic), the mean of a history is the
rounded mean of its values, absent while it is empty, and a history that is full drops its oldest value (01 R14).
The temperature of a code under a table: the value on the segment of its 256 codes (01 R12). A conversion of a TEMP
channel, by the state of its record and the code: the record afterwards, with every other
record, the rest of the round and every other unit unchanged, but that an accepted sample of T_LB is first handed to
Focus Compensation, and a change of validity to the start-up test, which sets start-up complete when no TEMP channel
is in NEW any more, and LSEN by it; an entry to FAULT raises SENSOR_FAULT to both ports. The last entry of a round
counts it (01 R8 to R12, R14, R15; 09 R163, R164). -/
def Obligations.TempConversion : Prop :=
  (∀ n d : Int, 0 < d → 2 * d * roundDiv n d ≤ 2 * n + d ∧ 2 * n + d < 2 * d * (roundDiv n d + 1))
  ∧ (∀ l : List Int, meanOf [] = none ∧ (l ≠ [] → meanOf l = some (roundDiv l.sum l.length)))
  ∧ (∀ (n : Nat) (l : List Int) (x : Int), 1 ≤ n →
     (l.length < n → pushWindow n l x = l ++ [x]) ∧ (l.length = n → pushWindow n l x = l.tail ++ [x]))
  ∧ (∀ (t : Vector Int 17) (k : Fin 16) (c : Nat), 256 * k.val ≤ c → c < 256 * (k.val + 1) →
    tableTemp t c = t.get k.castSucc
      + roundDiv ((t.get k.succ - t.get k.castSucc) * ((c : Int) - 256 * (k.val : Int))) 256)
  ∧ ∀ (s : State) (k : Fin 10) (rest : List (Fin 10)) (code : Nat),
    s.smp.round = k :: rest → k.val < 7 → code ≤ 4095 →
    let old := s.smp.records.get k
    let temp := tableTemp (s.set.tables.get (s.set.tempTable.get (Fin.ofNat 7 k.val))) code
    let mean := meanOf (pushWindow 4 old.history temp)
    let count := if rest = [] then (s.smp.roundCount + 1) % 65536 else s.smp.roundCount
    let put (r : ChannelRec) : Sampling :=
      { s.smp with round := rest, roundCount := count, records := s.smp.records.set k r }
    let handed (r : ChannelRec) (t : Int) : State :=
      let u : State := { s with smp := { s.smp with records := s.smp.records.set k r } }
      if k.val = 6 then evaluateComp t u else u
    let judged (r : ChannelRec) : Protection :=
      if s.prot.startup = false ∧ old.validity ≠ r.validity
          ∧ ∀ c : Fin 7, ((s.smp.records.set k r).get (Fin.castLE (by decide) c)).validity ≠ .new then
        { s.prot with startup := true, lsen := s.prot.lightRequest && s.prot.trip.isNone }
      else s.prot
    (32 ≤ code → code ≤ 4063 → old.validity ≠ .fault →
      let r : ChannelRec := ⟨code, .valid, 0, min 255 (old.validRun + 1), pushWindow 4 old.history temp, mean,
        max old.peak (mean.getD 0)⟩
      exec (.conversionCompletion code) s =
        .next { handed r (mean.getD 0) with smp := put r, prot := judged r })
    ∧ (32 ≤ code → code ≤ 4063 → old.validity = .fault → old.validRun = 3 →
      let r : ChannelRec := ⟨code, .valid, 0, 4, [temp], some temp, max old.peak temp⟩
      exec (.conversionCompletion code) s = .next { handed r temp with smp := put r, prot := judged r })
    ∧ (32 ≤ code → code ≤ 4063 → old.validity = .fault → old.validRun < 3 →
      exec (.conversionCompletion code) s = .next { s with
        smp := put { old with lastCode := code, invalidRun := 0, validRun := old.validRun + 1 } })
    ∧ ((code < 32 ∨ 4063 < code) → old.validity ≠ .fault → old.invalidRun = 2 →
      let r : ChannelRec := { old with lastCode := code, validity := .fault, invalidRun := 3, validRun := 0 }
      exec (.conversionCompletion code) s = .next { s with
        smp := put r, prot := judged r, port := s.port.raise .both .sensorFault })
    ∧ ((code < 32 ∨ 4063 < code) → (old.validity = .fault ∨ old.invalidRun < 2) →
      exec (.conversionCompletion code) s = .next { s with
        smp := put { old with lastCode := code, invalidRun := min 255 (old.invalidRun + 1), validRun := 0 } })

/-! ## Attitude Unit (02) -/

/-- The filters are frozen while an axis is HOMING, MOVING, JOG or SETTLING, or a fan in SPINUP (02 R20). A conversion
of an ANGLE channel. A sample that is accepted, from a record that is not in FAULT or as the fourth
valid one in a row of a record in FAULT: the record takes the angle; while the filters are frozen nothing more
happens; otherwise the window takes it, and while the window that results is short of 16 values, or for VERT while
the setting is not AUTO, nothing more happens; with 16 values VERT in AUTO goes to orientation detection, ROLL to the
roll test, and PITCH, when all three channels are ready, to the follow decision. Any other sample is counted; the
third invalid one in a row brings the record into FAULT, with SENSOR_FAULT at both ports and the window emptied, and
for VERT the orientation count at 0 (01 R9, R10, R11, R13, R15; 02 R19, R20, R21, R27). -/
def Obligations.AngleConversion : Prop :=
  (∀ s : State, frozen s = true ↔
    (∃ x : Axis, (s.axes.get x).state = .homing ∨ (s.axes.get x).state = .moving ∨ (s.axes.get x).state = .jog
      ∨ (s.axes.get x).state = .settling)
    ∨ ∃ f : Fan, (s.fan.fans.get f).state = .spinup)
  ∧ ∀ (s : State) (c : AngleCh) (rest : List (Fin 10)) (code : Nat),
    s.smp.round = c.channel :: rest → code ≤ 4095 →
    let old := s.smp.records.get c.channel
    let g := s.set.angle.get c
    let angle := clamp (-9000) 9000 (roundDiv (((code : Int) - g.zeroCode) * g.scale) 64)
    let put (r : ChannelRec) : Sampling := { s.smp with
      round := rest, roundCount := if rest = [] then (s.smp.roundCount + 1) % 65536 else s.smp.roundCount,
      records := s.smp.records.set c.channel r }
    let window := pushWindow 16 (s.att.windows.get c) angle
    let f := (meanOf window).getD 0
    let offered (r : ChannelRec) : State := { s with
      smp := { s.smp with records := s.smp.records.set c.channel r },
      att := { s.att with windows := s.att.windows.set c window } }
    let otherReady (d : AngleCh) : Prop :=
      d = c ∨ (s.att.windows.get d).length = 16 ∧ (s.smp.records.get d.channel).validity ≠ .fault
    let takes (r : ChannelRec) : Prop :=
      (frozen s = true → exec (.conversionCompletion code) s = .next { s with smp := put r })
      ∧ (frozen s = false → ((s.att.windows.get c).length < 15 ∨ c = .vert ∧ s.set.orientation ≠ .auto) →
        exec (.conversionCompletion code) s = .next { offered r with smp := put r })
      ∧ (frozen s = false → 15 ≤ (s.att.windows.get c).length →
        (c = .vert → s.set.orientation = .auto →
          exec (.conversionCompletion code) s = .next { detectOrientation f (offered r) with smp := put r })
        ∧ (c = .roll → exec (.conversionCompletion code) s = .next { rollTest f (offered r) with smp := put r })
        ∧ (c = .pitch → (∀ d, otherReady d) →
          exec (.conversionCompletion code) s = .next { followDecision f (offered r) with smp := put r })
        ∧ (c = .pitch → ¬ (∀ d, otherReady d) →
          exec (.conversionCompletion code) s = .next { offered r with smp := put r }))
    (32 ≤ code → code ≤ 4063 → old.validity ≠ .fault →
      takes { old with
        lastCode := code, validity := .valid, invalidRun := 0, validRun := min 255 (old.validRun + 1),
        filtered := some angle })
    ∧ (32 ≤ code → code ≤ 4063 → old.validity = .fault → old.validRun = 3 →
      takes { old with
        lastCode := code, validity := .valid, invalidRun := 0, validRun := 4, history := [], filtered := some angle })
    ∧ (32 ≤ code → code ≤ 4063 → old.validity = .fault → old.validRun < 3 →
      exec (.conversionCompletion code) s = .next { s with
        smp := put { old with lastCode := code, invalidRun := 0, validRun := old.validRun + 1 } })
    ∧ ((code < 32 ∨ 4063 < code) → old.validity ≠ .fault → old.invalidRun = 2 →
      exec (.conversionCompletion code) s = .next { s with
        smp := put { old with lastCode := code, validity := .fault, invalidRun := 3, validRun := 0 },
        port := s.port.raise .both .sensorFault,
        att := { s.att with
          windows := s.att.windows.set c [], count := if c = .vert then 0 else s.att.count } })
    ∧ ((code < 32 ∨ 4063 < code) → (old.validity = .fault ∨ old.invalidRun < 2) →
      exec (.conversionCompletion code) s = .next { s with
        smp := put { old with lastCode := code, invalidRun := min 255 (old.invalidRun + 1), validRun := 0 } })

/-- The decision at a pitch update while attitude is valid: within the deadband of p_app the refused pitch clears; at
the deadband or beyond, with follow ON and no refused pitch that holds it back, the corners are composed for the
new pitch, and p_app takes it when they are accepted; when they are refused p_app stays, the pitch becomes the
refused pitch and ATTITUDE_LIMIT goes to both ports; with follow OFF nothing changes (02 R23, R24, R25).
Orientation detection and the roll test. The eighth vertical update in a row that points to the other orientation
changes it, with ORIENTATION_CHANGED at both ports, a composition or a refusal of it, the orientation count at 0 and
no refused pitch; an earlier one counts; a reading that points to the orientation in force, or to none, sets the count
to 0. MOUNT_ROLL is raised when the roll leaves the limit, once, and armed again when it is 50 centidegrees inside it
(02 R27, R28, R29). -/
def Obligations.FollowAndOrientation : Prop :=
  (∀ (f : Int) (s : State),
     let far := s.set.att.deadband ≤ mag (f - s.att.pApp)
     let free := s.att.refused = none ∨ ∃ r, s.att.refused = some r ∧ s.set.att.deadband ≤ mag (f - r)
     let c := candidateOf s.set.geo s.geo.band f s.set.pRef s.att.effective
     let clip := reportCornerClip c .both s
     (¬ far → followDecision f s = { s with att := { s.att with refused := none } })
     ∧ (far → (s.set.geo.follow = false ∨ ¬ free) → followDecision f s = s)
     ∧ (far → s.set.geo.follow = true → free → shapeOk s.set.geo.width s.set.geo.height c.corners = true →
       ComposedTo s.set.geo c { clip with att := { s.att with pApp := f } } (followDecision f s))
     ∧ (far → s.set.geo.follow = true → free → shapeOk s.set.geo.width s.set.geo.height c.corners = false →
       followDecision f s =
         { clip with att := { s.att with refused := some f }, port := clip.port.raise .both .attitudeLimit }))
  ∧ (∀ (f : Int) (s : State),
       let v := f - s.set.att.vertZero
       (-s.set.att.threshold ≤ v → v ≤ s.set.att.threshold →
         detectOrientation f s = { s with att := { s.att with count := 0 } })
       ∧ (0 ≤ s.set.att.threshold → s.set.att.threshold < v → s.att.effective = .floor →
         detectOrientation f s = { s with att := { s.att with count := 0 } })
       ∧ (0 ≤ s.set.att.threshold → s.set.att.threshold < v → s.att.effective = .ceiling → s.att.count < 7 →
         detectOrientation f s = { s with att := { s.att with count := s.att.count + 1 } })
       ∧ (0 ≤ s.set.att.threshold → s.set.att.threshold < v → s.att.effective = .ceiling → s.att.count = 7 →
         OrientedTo .floor .both { s with att := { s.att with count := 0 } } (detectOrientation f s))
       ∧ (v < -s.set.att.threshold → s.att.effective = .floor → s.att.count = 7 →
         OrientedTo .ceiling .both { s with att := { s.att with count := 0 } } (detectOrientation f s))
       ∧ (v < -s.set.att.threshold → s.att.effective = .floor → s.att.count < 7 →
         detectOrientation f s = { s with att := { s.att with count := s.att.count + 1 } })
       ∧ (v < -s.set.att.threshold → s.att.effective = .ceiling →
         detectOrientation f s = { s with att := { s.att with count := 0 } })
       ∧ (s.att.rollRaised = false → s.set.att.rollLimit < mag f →
         rollTest f s =
           { s with att := { s.att with rollRaised := true }, port := s.port.raise .both .mountRoll })
       ∧ (s.att.rollRaised = false → mag f ≤ s.set.att.rollLimit → rollTest f s = s)
       ∧ (s.att.rollRaised = true → mag f < s.set.att.rollLimit - 50 →
         rollTest f s = { s with att := { s.att with rollRaised := false } })
       ∧ (s.att.rollRaised = true → s.set.att.rollLimit - 50 ≤ mag f → rollTest f s = s))

/-- Attitude is valid when all three windows hold 16 samples and no record of theirs is in FAULT (02 R21).
CAPTURE_LEVEL with attitude valid composes with the filtered pitch as p_ref and p_app: accepted, both take it, and the
reply carries it; refused, SHAPE, and both stay; without valid attitude it is NOT_READY. ATT_SET_ORIENTATION sets the
setting and the orientation count to 0, and FLOOR or CEILING changes the effective orientation when it differs, its
events going to the issuing port. ATT_SET_PARAMS, for which a port needs the CONFIG right alone, replaces the four
settings, a new vertical zero or threshold setting the count to 0 (02 R22, R26, R28, R30; that the values in force are
not new is the model's choice, log 29). -/
def Obligations.AttitudeCommands : Prop :=
  (∀ s : State, attitudeValid s = true ↔ ∀ c : AngleCh,
     (s.att.windows.get c).length = 16 ∧ (s.smp.records.get c.channel).validity ≠ .fault)
  ∧
  (∀ (p : Port) (s : State), canUse p .geometry s →
    (∀ f : Int, attitudeValid s = true → meanOf s.att.windows.pitch = some f →
      let c := candidateOf s.set.geo s.geo.band f f s.att.effective
      let clip := reportCornerClip c (.port p) (taken p s)
      (shapeOk s.set.geo.width s.set.geo.height c.corners = true →
        ∃ t, exec (.captureLevel p (.form ())) s = .next (replied p 0x20#8 .ok (s16 f) s t)
          ∧ ComposedTo s.set.geo c
            { clip with att := { s.att with pApp := f }, set := { s.set with pRef := f } } t)
      ∧ (shapeOk s.set.geo.width s.set.geo.height c.corners = false →
        exec (.captureLevel p (.form ())) s = .next (replied p 0x20#8 .shape [] s clip)))
    ∧ (attitudeValid s = false →
      exec (.captureLevel p (.form ())) s = .next (replied p 0x20#8 .notReady [] s (taken p s)))
    ∧ exec (.attSetOrientation p (.form 2)) s =
        .next (replied p 0x21#8 .ok [] s { taken p s with
          set := { s.set with orientation := .auto }, att := { s.att with count := 0 } })
    ∧ (s.att.effective = .floor → exec (.attSetOrientation p (.form 0)) s =
        .next (replied p 0x21#8 .ok [] s { taken p s with
          set := { s.set with orientation := .floor }, att := { s.att with count := 0 } }))
    ∧ (s.att.effective = .ceiling → exec (.attSetOrientation p (.form 1)) s =
        .next (replied p 0x21#8 .ok [] s { taken p s with
          set := { s.set with orientation := .ceiling }, att := { s.att with count := 0 } }))
    ∧ (s.att.effective = .ceiling → ∃ t, exec (.attSetOrientation p (.form 0)) s = .next (replied p 0x21#8 .ok [] s t)
        ∧ OrientedTo .floor (.port p) { taken p s with
            set := { s.set with orientation := .floor }, att := { s.att with count := 0 } } t)
    ∧ (s.att.effective = .floor → ∃ t, exec (.attSetOrientation p (.form 1)) s = .next (replied p 0x21#8 .ok [] s t)
        ∧ OrientedTo .ceiling (.port p) { taken p s with
            set := { s.set with orientation := .ceiling }, att := { s.att with count := 0 } } t))
  ∧ (∀ (p : Port) (s : State) (d z t r : Int), canUse p .config s → 5 ≤ d → d ≤ 100 → -9000 ≤ z → z ≤ 9000 →
       1000 ≤ t → t ≤ 8000 → 100 ≤ r → r ≤ 3000 →
        exec (.attSetParams p (.form ⟨d, z, t, r⟩)) s =
          .next (replied p 0x22#8 .ok [] s { taken p s with
            set := { s.set with att := ⟨d, z, t, r⟩ },
            att := { s.att with
              count := if z = s.set.att.vertZero ∧ t = s.set.att.threshold then s.att.count else 0 } }))

/-! ## Geometry Unit (03) -/

/-- The causes of a freeze (02 R20). The arithmetic of a composition: the nominal corners with the offsets, the tilt
inset, which narrows the top edge when positive and the bottom edge when negative, both ignored with mode OFF, the
orientation mapping, the clamp into the panel with the first clamped component in the order TL, TR, BL, BR, x before
y, and the four edges, each at least half the panel; the clip watch latches the first clamp while it is CLEAR, and
raises CLIP (03 R34, R35, R37 to R40). Each corner command composes the trial record it asks for, the components
brought into +-15360 (OK_CLAMPED when one was): GEO_SET_CORNER, GEO_SET_CORNERS, GEO_NUDGE_CORNER, GEO_ZERO_CORNERS,
GEO_SET_MODE, and with the config right GEO_SET_PANEL and GEO_SET_ZOOM_TABLE (03 R46 to R50). GEO_SET_FOLLOW sets tilt
follow, and a change from OFF to ON clears the refused pitch; GEO_CLEAR_CLIP clears the clip watch; GEO_STATUS and
ATT_STATUS change nothing but the reply (02 R25, R31; 03 R45, R48, R51). Where 12 leaves the order, the width or the
code of reply data open, or a field without an absent flag has nothing to carry, the data are the model's choice (logs
17 and 34). -/
def Obligations.GeometryCommands : Prop :=
  (∀ (g : GeoRecord) (band : Nat) (pApp pRef : Int) (o : Orientation),
     let w := 16 * g.width
     let h := 16 * g.height
     let offset (c : Corner) : Pt := if g.corners then g.offsets.get c else ⟨0, 0⟩
     let inset : Int := if g.corners then roundDiv ((pApp - pRef) * (g.coeff[band]?.getD 0)) 256 else 0
     let top := max inset 0
     let bottom := max (-inset) 0
     let screen (c : Corner) : Pt := match c with
       | .tl => ⟨(offset c).x + top, (offset c).y⟩
       | .tr => ⟨w + (offset c).x - top, (offset c).y⟩
       | .bl => ⟨(offset c).x + bottom, h + (offset c).y⟩
       | .br => ⟨w + (offset c).x - bottom, h + (offset c).y⟩
     let opposite (c : Corner) : Corner := match c with
       | .tl => .br
       | .tr => .bl
       | .bl => .tr
       | .br => .tl
     let panel (c : Corner) : Pt := match o with
       | .floor => screen c
       | .ceiling => ⟨w - (screen (opposite c)).x, h - (screen (opposite c)).y⟩
     let out (c : Corner) (k : Comp) : Prop := match k with
       | .x => (panel c).x < 0 ∨ w < (panel c).x
       | .y => (panel c).y < 0 ∨ h < (panel c).y
     let q := candidateOf g band pApp pRef o
     q.inset = inset
     ∧ (∀ c, q.corners.get c = ⟨clamp 0 w (panel c).x, clamp 0 h (panel c).y⟩)
     ∧ (q.clamp = none ↔ ∀ c k, ¬ out c k)
     ∧ (∀ c k, q.clamp = some (c, k) ↔
         out c k ∧ (k = .y → ¬ out c .x) ∧ ∀ c' k', cornerCode c' < cornerCode c → ¬ out c' k'))
  ∧ (∀ w h : Int, nominal w h = ⟨⟨0, 0⟩, ⟨16 * w, 0⟩, ⟨0, 16 * h⟩, ⟨16 * w, 16 * h⟩⟩)
  ∧ (∀ s : State,
       (frozenByAxes s = true ↔ ∃ x : Axis, (s.axes.get x).state = .homing ∨ (s.axes.get x).state = .moving
         ∨ (s.axes.get x).state = .jog ∨ (s.axes.get x).state = .settling)
       ∧ (frozenByFans s = true ↔ ∃ f : Fan, (s.fan.fans.get f).state = .spinup))
  ∧ (∀ (w h : Int) (c : PerCorner Pt), shapeOk w h c = true ↔
       8 * w ≤ c.tr.x - c.tl.x ∧ 8 * w ≤ c.br.x - c.bl.x ∧ 8 * h ≤ c.bl.y - c.tl.y ∧ 8 * h ≤ c.br.y - c.tr.y)
  ∧ (∀ (g : GeoRecord) (s : State), candidate g s = candidateOf g s.geo.band s.att.pApp s.set.pRef s.att.effective)
  ∧ (∀ (c : Candidate) (d : Dest) (s : State),
       ((c.clamp = none ∨ s.geo.clip ≠ .clear) → reportCornerClip c d s = s)
       ∧ ∀ k, c.clamp = some k → s.geo.clip = .clear →
         reportCornerClip c d s =
           { s with geo := { s.geo with clip := .corner k.1 k.2 }, port := s.port.raise d .clip })
  ∧ (∀ (p : Port) (s : State),
     let held (d : Pt) : Pt := ⟨clamp (-15360) 15360 d.x, clamp (-15360) 15360 d.y⟩
     let moved (d : Pt) : Status := if held d = d then .ok else .okClamped
     let g := s.set.geo
     (canUse p .geometry s →
       (∀ (c : Corner) (d : Pt),
         AnswersComposed (.geoSetCorner p (.form ⟨cornerCode c, d⟩)) p 0x30#8 (moved d)
           { g with offsets := g.offsets.set c (held d) } s)
       ∧ (∀ d : PerCorner Pt,
         AnswersComposed (.geoSetCorners p (.form d)) p 0x31#8 (if d.map held = d then .ok else .okClamped)
           { g with offsets := d.map held } s)
       ∧ (∀ (c : Corner) (d : Pt), -30720 ≤ d.x → d.x ≤ 30720 → -30720 ≤ d.y → d.y ≤ 30720 →
         let sum : Pt := ⟨(g.offsets.get c).x + d.x, (g.offsets.get c).y + d.y⟩
         AnswersComposed (.geoNudgeCorner p (.form ⟨cornerCode c, d⟩)) p 0x32#8 (moved sum)
           { g with offsets := g.offsets.set c (held sum) } s)
       ∧ AnswersComposed (.geoZeroCorners p (.form ())) p 0x33#8 .ok
           { g with offsets := ⟨⟨0, 0⟩, ⟨0, 0⟩, ⟨0, 0⟩, ⟨0, 0⟩⟩ } s
       ∧ AnswersComposed (.geoSetMode p (.form 0)) p 0x34#8 .ok { g with corners := false } s
       ∧ AnswersComposed (.geoSetMode p (.form 1)) p 0x34#8 .ok { g with corners := true } s)
     ∧ (canUse p .config s →
       (∀ w h : Int, 1280 ≤ w → w ≤ 4096 → 720 ≤ h → h ≤ 2400 →
         AnswersComposed (.geoSetPanel p (.form ⟨w, h⟩)) p 0x36#8 .ok { g with width := w, height := h } s)
       ∧ (∀ k : Vector Nat 8, (∀ n ∈ k.toList, n ≤ 1023) →
         AnswersComposed (.geoSetZoomTable p (.form k.toList)) p 0x37#8 .ok
           { g with coeff := k.map Int.ofNat } s)))
  ∧ (∀ (p : Port) (s : State),
       (canUse p .geometry s →
         exec (.geoSetFollow p (.form 0)) s =
           .next (replied p 0x35#8 .ok [] s { taken p s with set := { s.set with geo := { s.set.geo with follow := false } } })
         ∧ exec (.geoSetFollow p (.form 1)) s =
           .next (replied p 0x35#8 .ok [] s { taken p s with
             set := { s.set with geo := { s.set.geo with follow := true } },
             att := { s.att with refused := if s.set.geo.follow then s.att.refused else none } })
         ∧ exec (.geoClearClip p (.form ())) s =
           .next (replied p 0x38#8 .ok [] s { taken p s with geo := { s.geo with clip := .clear } }))
       ∧ (canUse p .none s →
         let g := s.set.geo
         let a := s.att
         let corner (d : Pt) : List Byte := s24 d.x ++ s24 d.y
         let pair (d : Pt) : List Byte := s16 d.x ++ s16 d.y
         let clip : List Byte := match s.geo.clip with
           | .clear => u8 0 ++ u8 0 ++ u8 0 ++ u8 0 ++ u8 0 ++ u8 0
           | .corner c k => u8 1 ++ u8 0 ++ u8 (cornerCode c) ++ u8 0 ++ u8 0 ++ u8 k.code
           | .vertex i j k => u8 1 ++ u8 1 ++ u8 0 ++ u8 i ++ u8 j ++ u8 k.code
         let ready (c : AngleCh) : Bool :=
           decide ((a.windows.get c).length = 16) && !decide ((s.smp.records.get c.channel).validity = .fault)
         exec (.geoStatus p (.form ())) s = .next (replied p 0x39#8 .ok
           (s16 g.width ++ s16 g.height ++ flag g.corners
             ++ (pair g.offsets.tl ++ pair g.offsets.tr ++ pair g.offsets.bl ++ pair g.offsets.br) ++ flag g.follow
             ++ g.coeff.toList.flatMap s16 ++ flag g.fineWarp ++ s16 g.fineLimit
             ++ corner s.geo.corners.tl ++ corner s.geo.corners.tr ++ corner s.geo.corners.bl ++ corner s.geo.corners.br
             ++ flag s.geo.clamped ++ u8 s.geo.band ++ s16 (g.coeff[s.geo.band]?.getD 0) ++ s16 s.geo.inset
             ++ flag s.geo.held ++ clip) s (taken p s))
         ∧ exec (.attStatus p (.form ())) s = .next (replied p 0x23#8 .ok
           (opt16 (meanOf a.windows.pitch) ++ opt16 (meanOf a.windows.roll) ++ opt16 (meanOf a.windows.vert)
             ++ u8 a.windows.pitch.length ++ u8 a.windows.roll.length ++ u8 a.windows.vert.length
             ++ flag (ready .pitch) ++ flag (ready .roll) ++ flag (ready .vert)
             ++ flag (ready .pitch && ready .roll && ready .vert)
             ++ flag (frozenByAxes s || frozenByFans s) ++ flag (frozenByAxes s) ++ flag (frozenByFans s)
             ++ s16 s.set.pRef ++ s16 a.pApp ++ opt16 a.refused
             ++ u8 s.set.orientation.code ++ u8 a.effective.code ++ u8 a.count ++ flag a.rollRaised
             ++ s16 s.set.att.deadband ++ s16 s.set.att.vertZero ++ s16 s.set.att.threshold ++ s16 s.set.att.rollLimit)
           s (taken p s))))

/-! ## Mesh Engine (04) -/

/-- The spacing of columns and rows: the two fractions, for corners with positive edges, as an accepted composition's
and the nominal ones have; exact endpoints, bounds, order, and uniform spacing for equal edges (04 R54). -/
def Obligations.MeshSpacing : Prop :=
  (∀ (w h : Int) (c : PerCorner Pt), 0 < w → 0 < h → (shapeOk w h c = true ∨ c = nominal w h) →
    0 < c.tr.x - c.tl.x ∧ 0 < c.br.x - c.bl.x ∧ 0 < c.bl.y - c.tl.y ∧ 0 < c.br.y - c.tr.y)
  ∧ ∀ c : PerCorner Pt,
    let lt := c.tr.x - c.tl.x
    let lb := c.br.x - c.bl.x
    let ll := c.bl.y - c.tl.y
    let lr := c.br.y - c.tr.y
    0 < lt → 0 < lb → 0 < ll → 0 < lr →
    (∀ i : Nat, i ≤ 16 →
      colFraction c i = roundDiv (4096 * i * ll) (i * ll + (16 - i) * lr)
      ∧ 0 ≤ colFraction c i ∧ colFraction c i ≤ 4096 ∧ (ll = lr → colFraction c i = 256 * i))
    ∧ (∀ j : Nat, j ≤ 8 →
      rowFraction c j = roundDiv (4096 * j * lt) (j * lt + (8 - j) * lb)
      ∧ 0 ≤ rowFraction c j ∧ rowFraction c j ≤ 4096 ∧ (lt = lb → rowFraction c j = 512 * j))
    ∧ colFraction c 0 = 0 ∧ rowFraction c 0 = 0 ∧ colFraction c 16 = 4096 ∧ rowFraction c 8 = 4096
    ∧ (∀ i : Nat, i < 16 → colFraction c i ≤ colFraction c (i + 1))
    ∧ (∀ j : Nat, j < 8 → rowFraction c j ≤ rowFraction c (j + 1))

/-- The base vertices: the blend, its weights, its bounds by the four corners, the panel and the corners themselves,
and the uniform grid of the nominal corners (04 R55). -/
def Obligations.BaseVertices : Prop :=
  (∀ u v : Int, 0 ≤ u → u ≤ 4096 → 0 ≤ v → v ≤ 4096 →
    0 ≤ (4096 - u) * (4096 - v) ∧ 0 ≤ u * (4096 - v) ∧ 0 ≤ (4096 - u) * v ∧ 0 ≤ u * v
      ∧ (4096 - u) * (4096 - v) + u * (4096 - v) + (4096 - u) * v + u * v = 16777216)
  ∧ (∀ (w h : Int) (c : PerCorner Pt) (i j : Nat), cornersLawful w h c → 0 < w → 0 < h → i ≤ 16 → j ≤ 8 →
    let u := colFraction c i
    let v := rowFraction c j
    let b := baseVertex c i j
    b.x = roundDiv ((4096 - u) * (4096 - v) * c.tl.x + u * (4096 - v) * c.tr.x + (4096 - u) * v * c.bl.x
      + u * v * c.br.x) 16777216
    ∧ b.y = roundDiv ((4096 - u) * (4096 - v) * c.tl.y + u * (4096 - v) * c.tr.y + (4096 - u) * v * c.bl.y
      + u * v * c.br.y) 16777216
    ∧ min (min c.tl.x c.tr.x) (min c.bl.x c.br.x) ≤ b.x ∧ b.x ≤ max (max c.tl.x c.tr.x) (max c.bl.x c.br.x)
    ∧ min (min c.tl.y c.tr.y) (min c.bl.y c.br.y) ≤ b.y ∧ b.y ≤ max (max c.tl.y c.tr.y) (max c.bl.y c.br.y)
    ∧ inPanel w h b
    ∧ baseVertex c 0 0 = c.tl ∧ baseVertex c 16 0 = c.tr ∧ baseVertex c 0 8 = c.bl ∧ baseVertex c 16 8 = c.br)
  ∧ (∀ (w h : Int) (i j : Nat), 0 < w → 0 < h → i ≤ 16 → j ≤ 8 →
    baseVertex (nominal w h) i j = ⟨i * w, j * 2 * h⟩)
  ∧ baseVertex (nominal 3840 2160) 8 4 = ⟨30720, 17280⟩

/-- A computed vertex: with fine warp the entry of the orientation is added and the sum clamped into the panel;
without it the base vertex, and nothing is clamped. The clamp count is the number of vertices with a clamped
coordinate, and the first clamp is the first in the order of the vertices, rows from 0 and columns from 0 in a row, x
before y in a vertex (04 R53, R57). -/
def Obligations.FineWarpVertices : Prop :=
  ∀ m : Snapshot,
    let offset (i j : Nat) : Pt := match m.orient with
      | .floor => meshAt m.layer i j
      | .ceiling => ⟨-(meshAt m.layer (16 - i) (8 - j)).x, -(meshAt m.layer (16 - i) (8 - j)).y⟩
    let sum (i j : Nat) : Pt :=
      ⟨(baseVertex m.corners i j).x + (offset i j).x, (baseVertex m.corners i j).y + (offset i j).y⟩
    let clamped (i j : Nat) (k : Comp) : Bool := m.fineWarp && match k with
      | .x => decide ((sum i j).x < 0 ∨ 16 * m.width < (sum i j).x)
      | .y => decide ((sum i j).y < 0 ∨ 16 * m.height < (sum i j).y)
    let earlier (i j i' j' : Nat) : Prop := j' < j ∨ j' = j ∧ i' < i
    (∀ i j : Nat, i ≤ 16 → j ≤ 8 →
      (m.fineWarp = true → meshAt (meshOf m) i j =
        ⟨clamp 0 (16 * m.width) (sum i j).x, clamp 0 (16 * m.height) (sum i j).y⟩)
      ∧ (m.fineWarp = false → meshAt (meshOf m) i j = baseVertex m.corners i j)
      ∧ (0 < m.width → 0 < m.height → cornersLawful m.width m.height m.corners →
        inPanel m.width m.height (meshAt (meshOf m) i j)))
    ∧ (m.fineWarp = false → firstVertexClamp m = none ∧ clampCountOf m = 0)
    ∧ clampCountOf m = ((List.range 9).flatMap fun j => (List.range 17).filter fun i =>
        clamped i j .x || clamped i j .y).length
    ∧ (firstVertexClamp m = none ↔ ∀ i j k, i ≤ 16 → j ≤ 8 → clamped i j k = false)
    ∧ (∀ i j k, firstVertexClamp m = some (i, j, k) ↔
        i ≤ 16 ∧ j ≤ 8 ∧ clamped i j k = true ∧ (k = .y → clamped i j .x = false)
          ∧ ∀ i' j' k', i' ≤ 16 → earlier i j i' j' → clamped i' j' k' = false)

/-- What selector X, Y and BOTH select: which component an edit puts, adds to, holds within +- the limit or zeroes,
which ones a limit is tested on, and when an expected value differs (04 R59 to R62).
FW_SET, FW_NUDGE and FW_ZERO on a vertex of the mesh, with no expected value that differs: the selected components
take the values, the sums held within the fine limit (OK_CLAMPED when one was), or 0; the reply carries the entry as
stored; with fine warp ENABLED a rebuild is asked for. An FW_NUDGE delta outside +-4096 is RANGE, then an expected
value that differs is STALE, and then an FW_SET beyond the limit is LIMIT; each changes nothing, and its reply carries
the entry. An edit whose selector byte names no selector is RANGE, and its reply too carries the entry, also from Port
B without the right (04 R58 to R62; 10 R173; 12 R190). The model's choices are that an edit whose flag byte is no flag
is answered in the same way (log 18), and that the entry is written before the rebuild is asked for (log 19). -/
def Obligations.VertexEdits : Prop :=
  (∀ (d : Pt) (a b lim : Int),
     let held (v : Int) : Int := if v < -lim then -lim else if lim < v then lim else v
     (stale d none = false ∧ (stale d (some (.x a)) = true ↔ d.x ≠ a) ∧ (stale d (some (.y b)) = true ↔ d.y ≠ b)
       ∧ (stale d (some (.both a b)) = true ↔ d.x ≠ a ∨ d.y ≠ b))
     ∧ putComps (.x a) d = ⟨a, d.y⟩ ∧ putComps (.y b) d = ⟨d.x, b⟩ ∧ putComps (.both a b) d = ⟨a, b⟩
     ∧ addComps (.x a) d = .x (d.x + a) ∧ addComps (.y b) d = .y (d.y + b)
     ∧ addComps (.both a b) d = .both (d.x + a) (d.y + b)
     ∧ saturateComps lim (.x a) = .x (held a) ∧ saturateComps lim (.y b) = .y (held b)
     ∧ saturateComps lim (.both a b) = .both (held a) (held b)
     ∧ zeroComps .x = .x 0 ∧ zeroComps .y = .y 0 ∧ zeroComps .both = .both 0 0
     ∧ (allComps (within (-lim) lim) (.x a) = true ↔ -lim ≤ a ∧ a ≤ lim)
     ∧ (allComps (within (-lim) lim) (.y b) = true ↔ -lim ≤ b ∧ b ≤ lim)
     ∧ (allComps (within (-lim) lim) (.both a b) = true ↔ (-lim ≤ a ∧ a ≤ lim) ∧ -lim ≤ b ∧ b ≤ lim))
  ∧ (∀ (p : Port) (s : State) (i j : Nat), canUse p .none s → i ≤ 16 → j ≤ 8 →
    let no (id : Byte) : Result := .next (replied p id .range (ptBytes (meshAt s.set.layer i j)) s (taken p s))
    exec (.fwSet p (.noForm i j)) s = no 0x40#8 ∧ exec (.fwNudge p (.noForm i j)) s = no 0x41#8
      ∧ exec (.fwZero p (.noForm i j)) s = no 0x42#8)
  ∧ (∀ (p : Port) (i j k : Byte) (l : List Byte), 2 < k.toNat →
    commandOf p 0x40#8 (i :: j :: k :: l) = .fwSet p (.noForm i.toNat j.toNat)
    ∧ commandOf p 0x41#8 (i :: j :: k :: l) = .fwNudge p (.noForm i.toNat j.toNat)
    ∧ commandOf p 0x42#8 (i :: j :: k :: l) = .fwZero p (.noForm i.toNat j.toNat))
  ∧ ∀ (p : Port) (s : State) (i j : Nat), canUse p .geometry s → i ≤ 16 → j ≤ 8 →
    let d := meshAt s.set.layer i j
    let lim := s.set.geo.fineLimit
    let put (v : Pt) : Settings := { s.set with layer := setAt s.set.layer (17 * j + i) v }
    (∀ (v : Comps) (e : Option Comps), stale d e = false → allComps (within (-lim) lim) v = true →
      ∃ t, exec (.fwSet p (.form ⟨i, j, v, e⟩)) s = .next (replied p 0x40#8 .ok (ptBytes (putComps v d)) s t)
        ∧ WarpedTo (put (putComps v d)) (taken p s) t)
    ∧ (∀ (v : Comps) (e : Option Comps), stale d e = false → allComps (within (-lim) lim) v = false →
      exec (.fwSet p (.form ⟨i, j, v, e⟩)) s = .next (replied p 0x40#8 .limit (ptBytes d) s (taken p s)))
    ∧ (∀ (v : Comps) (e : Option Comps), stale d e = false → allComps (within (-4096) 4096) v = true →
      let sum := addComps v d
      let n := putComps (saturateComps lim sum) d
      ∃ t, exec (.fwNudge p (.form ⟨i, j, v, e⟩)) s =
          .next (replied p 0x41#8 (if saturateComps lim sum = sum then .ok else .okClamped) (ptBytes n) s t)
        ∧ WarpedTo (put n) (taken p s) t)
    ∧ (∀ (k : Selector) (e : Option Comps), stale d e = false →
      ∃ t, exec (.fwZero p (.form ⟨i, j, k, e⟩)) s =
          .next (replied p 0x42#8 .ok (ptBytes (putComps (zeroComps k) d)) s t)
        ∧ WarpedTo (put (putComps (zeroComps k) d)) (taken p s) t)
    ∧ (∀ (v : Comps) (e : Option Comps), stale d e = true →
      exec (.fwSet p (.form ⟨i, j, v, e⟩)) s = .next (replied p 0x40#8 .stale (ptBytes d) s (taken p s))
      ∧ (allComps (within (-4096) 4096) v = true →
        exec (.fwNudge p (.form ⟨i, j, v, e⟩)) s = .next (replied p 0x41#8 .stale (ptBytes d) s (taken p s)))
      ∧ ∀ k : Selector,
        exec (.fwZero p (.form ⟨i, j, k, e⟩)) s = .next (replied p 0x42#8 .stale (ptBytes d) s (taken p s)))
    ∧ (∀ (v : Comps) (e : Option Comps), allComps (within (-4096) 4096) v = false →
      exec (.fwNudge p (.form ⟨i, j, v, e⟩)) s = .next (replied p 0x41#8 .range (ptBytes d) s (taken p s)))

/-- FW_ZERO_ALL sets every entry to (0, 0); FW_SET_LIMIT sets the fine limit, and when it brings an entry in,
saturates it and asks for a rebuild under fine warp, answering OK_CLAMPED with the number of entries; FW_ENABLE
sets fine warp and always asks for a rebuild; FW_READ and MESH_STATUS only read (04 R62 to R65, R73). Where 12
leaves the order or the width of reply data open, they are the model's choice (log 17). -/
def Obligations.LayerCommands : Prop :=
  ∀ (p : Port) (s : State),
    (canUse p .geometry s →
      (∃ t, exec (.fwZeroAll p (.form ())) s = .next (replied p 0x43#8 .ok [] s t)
        ∧ WarpedTo { s.set with layer := Vector.replicate 153 ⟨0, 0⟩ } (taken p s) t)
      ∧ (∀ n : Nat, n ≤ 2048 →
        let g : Settings := { s.set with
          geo := { s.set.geo with fineLimit := n },
          layer := s.set.layer.map fun d => ⟨clamp (-(n : Int)) n d.x, clamp (-(n : Int)) n d.y⟩ }
        let k := (s.set.layer.toList.filter fun d => !(within (-(n : Int)) n d.x && within (-(n : Int)) n d.y)).length
        (k = 0 → exec (.fwSetLimit p (.form n)) s =
          .next (replied p 0x44#8 .ok (u8 0) s { taken p s with set := g }))
        ∧ (0 < k → ∃ t, exec (.fwSetLimit p (.form n)) s = .next (replied p 0x44#8 .okClamped (u8 k) s t)
          ∧ WarpedTo g (taken p s) t))
      ∧ (∀ b : Bool, ∃ t e q, exec (.fwEnable p (.form (if b then 1 else 0))) s = .next (replied p 0x45#8 .ok [] s t)
        ∧ t = { taken p s with
            set := { s.set with geo := { s.set.geo with fineWarp := b } }, eng := e, pres := q }
        ∧ RebuildAsked s t))
    ∧ (canUse p .none s →
      (∀ j : Nat, j ≤ 8 → exec (.fwRead p (.form j)) s =
        .next (replied p 0x46#8 .ok
          (((List.range 17).flatMap fun i => s16 (meshAt s.set.layer i j).x ++ s16 (meshAt s.set.layer i j).y)
            ++ s16 s.set.geo.fineLimit ++ flag s.set.geo.fineWarp) s (taken p s)))
      ∧ (let bank : Option BankId := match s.eng.state with
           | .idle => none
           | .computing i _ => some i
         exec (.meshStatus p (.form ())) s = .next (replied p 0x47#8 .ok
          (u8 (if bank = none then 0 else 1) ++ opt8 (bank.map BankId.code) ++ flag s.eng.pendingReq ++ flag s.eng.allDirty
            ++ u8 s.eng.restarts ++ u8 s.eng.clampCount ++ flag s.set.geo.fineWarp ++ s16 s.set.geo.fineLimit
            ++ u8 s.pres.banks.a.state.code ++ u8 s.pres.banks.b.state.code ++ u16 s.pres.generation) s (taken p s))))

/-- A computation completes (04 R69 to R71; 05 R77, R80). The mesh is that of the snapshot, its first clamp goes to
the clip watch and its clamps are counted. Behind a waiting request and fewer than 3 restarts the computation starts
again in the same bank from the inputs as they stand; otherwise the bank is READY, its dirty rows those that differ
from the live mesh, or all, and the swap waits; with video absent it is live at once, a request that still waits then
starting in the bank that this frees, or deferred while the other bank is READING. The live mesh is that of the bank
LIVE or READING; a row is dirty when one of its vertices differs from the live mesh, and every row is while there is
none (04 R70). A snapshot takes the corners, the layer, the flag, the panel size and the orientation (04 R68), and the
first clamp latches a CLEAR clip watch with CLIP, and no other (03 R45). In IDLE nothing happens: that an arrival
which cannot arise changes nothing is the model's reading (log 2). -/
def Obligations.ComputationCompletion : Prop :=
  (∀ m n : Mesh, dirtyRows m none = Vector.replicate 9 true
     ∧ ∀ j : Fin 9, (dirtyRows m (some n)).get j = true ↔ ∃ i, i ≤ 16 ∧ meshAt m i j.val ≠ meshAt n i j.val)
  ∧ (∀ v : PerBank,
     ((∀ i, (v.get i).state ≠ .live ∧ (v.get i).state ≠ .reading) → liveMesh v = none)
     ∧ ∀ i : BankId, ((v.get i).state = .live ∨ (v.get i).state = .reading) →
       (v.get i.other).state ≠ .live → (v.get i.other).state ≠ .reading → liveMesh v = some (v.get i).mesh)
  ∧ (∀ (s : State) (w : ClipWatch) (d : Dest),
     snapshotOf s = ⟨s.geo.corners, s.set.layer, s.set.geo.fineWarp, s.set.geo.width, s.set.geo.height, s.att.effective⟩
     ∧ (s.geo.clip ≠ .clear → reportClip w d s = s)
     ∧ (s.geo.clip = .clear →
       reportClip w d s = { s with geo := { s.geo with clip := w }, port := s.port.raise d .clip }))
  ∧ ∀ s : State,
    (s.eng.state = .idle → exec .computationCompletion s = .next s)
    ∧ (∀ (i : BankId) (m : Snapshot), s.eng.state = .computing i m →
      let mesh := meshOf m
      let rows := dirtyRows mesh (liveMesh s.pres.banks)
      let b : Bank := { s.pres.banks.get i with mesh := mesh, width := m.width, height := m.height, dirty := rows }
      let ready : Bank := { b with state := .ready, dirty := if s.eng.allDirty then Vector.replicate 9 true else rows }
      let clip : State := match firstVertexClamp m with
        | none => s
        | some (x, y, k) => reportClip (.vertex x y k) .both s
      let done : Engine := { s.eng with
        state := .idle, restarts := 0, allDirty := false, clampCount := clampCountOf m }
      (s.eng.pendingReq = true → s.eng.restarts < 3 →
        exec .computationCompletion s = .next { clip with
          pres := { s.pres with banks := s.pres.banks.set i b },
          eng := { s.eng with
            state := .computing i (snapshotOf s), pendingReq := false, restarts := s.eng.restarts + 1,
            clampCount := clampCountOf m } })
      ∧ ((s.eng.pendingReq = false ∨ 3 ≤ s.eng.restarts) → s.pres.video = true →
        exec .computationCompletion s = .next { clip with
          pres := { s.pres with banks := s.pres.banks.set i ready, swap := .waiting }, eng := done })
      ∧ (s.pres.video = false →
        let built : Presentation := { s.pres with banks := s.pres.banks.set i ready, swap := .waiting }
        (((s.pres.banks.get i.other).state = .empty ∨ (s.pres.banks.get i.other).state = .live) →
          (s.eng.pendingReq = false →
            exec .computationCompletion s = .next { clip with pres := swapped i built, eng := done })
          ∧ (s.eng.pendingReq = true → 3 ≤ s.eng.restarts →
            exec .computationCompletion s = .next { clip with
              pres := { swapped i built with banks := (swapped i built).banks.setState i.other .writing },
              eng := { done with state := .computing i.other (snapshotOf s), pendingReq := false } }))
        ∧ ((s.pres.banks.get i.other).state = .reading → (s.eng.pendingReq = false ∨ 3 ≤ s.eng.restarts) →
          exec .computationCompletion s = .next { clip with pres := { built with swap := .deferred }, eng := done })))

/-! ## Presentation Unit (05) -/

/-- The build bank is a READY one, or else an EMPTY one, A before B (04 R67). A rebuild request that finds a READY bank
takes it back: it passes to WRITING and its swap is withdrawn (04 R67;
05 R76), here the request of FW_ENABLE. A swap reports as saturated the rows in which the packing would saturate a
vertex (05 R90). A chance to swap at PRES_VIDEO_WATCH_EXPIRY: nothing without a READY bank; with the other bank LIVE
or EMPTY, a swap, after which a waiting rebuild request starts in the freed bank; with the other bank READING,
DEFERRED (05 R78, R79, R80; 04 R72). FRAME_START gives the same chance, its effect on the Sampling Unit being the same
whatever the banks hold. MCSN_RELEASE ends the transaction; a READING bank returns to LIVE, and while video is absent
a bank that is READY takes its place, a waiting rebuild request then starting in the freed one (05 R80, R81, R84). -/
def Obligations.SwapAndRelease : Prop :=
  (∀ v : PerBank, buildBank v = if v.a.state = .ready then some .a else if v.b.state = .ready then some .b
     else if v.a.state = .empty then some .a else if v.b.state = .empty then some .b else none)
  ∧
  (∀ (p : Port) (s : State) (b : Bool) (i : BankId), canUse p .geometry s → s.eng.state = .idle →
     s.eng.pendingReq = false → (s.pres.banks.get i).state = .ready → (s.pres.banks.get i.other).state ≠ .ready →
     let on : State := { taken p s with set := { s.set with geo := { s.set.geo with fineWarp := b } } }
     exec (.fwEnable p (.form (if b then 1 else 0))) s = .next (replied p 0x45#8 .ok [] s { on with
       pres := { s.pres with banks := s.pres.banks.setState i .writing, swap := .none },
       eng := { s.eng with state := .computing i (snapshotOf on) } }))
  ∧ (∀ (b : Bank) (j : Fin 9), (saturatedRows b).get j = true ↔ ∃ i, i ≤ 16 ∧
       let x := roundDiv ((meshAt b.mesh i j.val).x - i * b.width) 4
       let y := roundDiv ((meshAt b.mesh i j.val).y - j.val * 2 * b.height) 4
       x < -2048 ∨ 2047 < x ∨ y < -2048 ∨ 2047 < y)
  ∧ (∀ s : State, s.pres.video = true →
     let off : Presentation := { s.pres with video := false }
     ((∀ i, (s.pres.banks.get i).state ≠ .ready) → exec .presVideoWatchExpiry s = .next { s with pres := off })
     ∧ (∀ i : BankId, (s.pres.banks.get i).state = .ready →
       ((s.pres.banks.get i.other).state = .reading →
         exec .presVideoWatchExpiry s = .next { s with pres := { off with swap := .deferred } })
       ∧ (((s.pres.banks.get i.other).state = .live ∨ (s.pres.banks.get i.other).state = .empty) →
         (s.eng.pendingReq = false → exec .presVideoWatchExpiry s = .next { s with pres := swapped i off })
         ∧ (s.eng.pendingReq = true → s.eng.state = .idle →
           exec .presVideoWatchExpiry s = .next { s with
             pres := { swapped i off with banks := (swapped i off).banks.setState i.other .writing },
             eng := { s.eng with
               state := .computing i.other (snapshotOf s), pendingReq := false, restarts := 0 } })
         ∧ (s.deaf = false → s.smp.trigState = .freeRun → s.eng.pendingReq = false →
           exec .frameStart s =
             .next { s with pres := swapped i s.pres, smp := { s.smp with video := true } }))))
  ∧ (∀ s : State, s.deaf = false → ∃ m : Sampling,
       let on : Presentation := { s.pres with video := true }
       (∀ v : PerBank, (∀ i, (v.get i).state ≠ .ready) →
         exec .frameStart { s with pres := { s.pres with banks := v } } =
           .next { s with smp := m, pres := { on with banks := v } })
       ∧ (∀ i : BankId, (s.pres.banks.get i).state = .ready →
         ((s.pres.banks.get i.other).state = .reading →
           exec .frameStart s = .next { s with smp := m, pres := { on with swap := .deferred } })
         ∧ (((s.pres.banks.get i.other).state = .live ∨ (s.pres.banks.get i.other).state = .empty) →
           (s.eng.pendingReq = false → exec .frameStart s = .next { s with smp := m, pres := swapped i on })
           ∧ (s.eng.pendingReq = true → s.eng.state = .idle →
             exec .frameStart s = .next { s with
               smp := m, pres := { swapped i on with banks := (swapped i on).banks.setState i.other .writing },
               eng := { s.eng with
                 state := .computing i.other (snapshotOf s), pendingReq := false, restarts := 0 } }))))
  ∧ (∀ s : State,
       let out : Presentation := { s.pres with trans := .none, miso := [] }
       ((∀ i, (s.pres.banks.get i).state ≠ .reading) → exec .mcsnRelease s = .next { s with pres := out })
       ∧ (∀ i : BankId, (s.pres.banks.get i).state = .reading → (s.pres.banks.get i.other).state ≠ .reading →
         let back : Presentation := { out with banks := s.pres.banks.setState i .live }
         ((s.pres.video = true ∨ (s.pres.banks.get i.other).state ≠ .ready) →
           exec .mcsnRelease s = .next { s with pres := back })
         ∧ (s.pres.video = false → (s.pres.banks.get i.other).state = .ready → s.eng.pendingReq = false →
           exec .mcsnRelease s = .next { s with pres := swapped i.other back })
         ∧ (s.pres.video = false → (s.pres.banks.get i.other).state = .ready → s.eng.pendingReq = true →
           s.eng.state = .idle →
           exec .mcsnRelease s = .next { s with
             pres := { swapped i.other back with banks := (swapped i.other back).banks.setState i .writing },
             eng := { s.eng with state := .computing i (snapshotOf s), pendingReq := false, restarts := 0 } })))

/-- What the bytes of a transaction spell: 0x01 MP_STATUS, 0x02 MP_READ_ROWS with start row and count, 0x03
MP_SET_FORMAT with the format code, any other byte an unknown command (05 R84, 12 R192). A vertex in WIDE is its x
and then its y, each three bytes, and a row is its index and its 17 vertices from i = 0 to 16, in either format: 103
and 52 bytes (05 R86, R88; 12 R192, with its worked vertex). The commands of the Mesh Port
as the first of a transaction: MP_STATUS replies its 12 bytes, in the order of R192, and releases MATTN; MP_READ_ROWS
makes the live bank READING and replies its rows, cut at row 8, or RANGE, or NO_MESH; an unknown byte is answered
UNKNOWN; each takes the transaction, whose later bytes are ignored, and the part drives 0xFF for the bytes of the
command, then the reply, then 0xFF (05 R81, R83 to R86; 12 R192). In an ignored transaction nothing is taken, and 0xFF
is driven (05 R91). That a transaction begun while the part is held in reset is ignored too, and that the port answers
in the load, a read with NO_MESH, are the model's reading of R91 and R92, and that a format selected in the load
leaves its mark alone is its choice (log 12). MP_SET_FORMAT selects WIDE or NARROW and asks for a rebuild that marks
all rows dirty: in COMPUTING the request waits with its mark; behind a waiting request the rows of the READY bank are
marked at once; otherwise a computation begins with the mark. Another code is RANGE and changes nothing else (05 R87;
04 R66, R67, R70). Where 12 leaves the order or the width of reply data open, they are the model's choice (log 17). -/
def Obligations.MeshPortCommands : Prop :=
  (meshCommandOf [] = none
   ∧ (∀ l : List Byte, meshCommandOf (0x01#8 :: l) = some .mpStatus)
   ∧ (∀ (a n : Byte) (l : List Byte),
     meshCommandOf (0x02#8 :: a :: n :: l) = some (.mpReadRows (.form ⟨a.toNat, n.toNat⟩)))
   ∧ (∀ l : List Byte, l.length < 2 → meshCommandOf (0x02#8 :: l) = some (.mpReadRows .misfit))
   ∧ (∀ (f : Byte) (l : List Byte), meshCommandOf (0x03#8 :: f :: l) = some (.mpSetFormat (.form f.toNat)))
   ∧ meshCommandOf [0x03#8] = some (.mpSetFormat .misfit)
   ∧ (∀ (b : Byte) (l : List Byte), b ≠ 0x01#8 → b ≠ 0x02#8 → b ≠ 0x03#8 →
     meshCommandOf (b :: l) = some (.mpUnknownCommand b)))
  ∧ (∀ (f : Format) (b : Bank) (i j : Nat),
     let coordinate (v : Int) : List Byte := [BitVec.extractLsb' 16 8 (BitVec.ofInt 24 v),
       BitVec.extractLsb' 8 8 (BitVec.ofInt 24 v), BitVec.extractLsb' 0 8 (BitVec.ofInt 24 v)]
     vertexBytes .wide b i j = coordinate (meshAt b.mesh i j).x ++ coordinate (meshAt b.mesh i j).y
     ∧ rowBytes f b j = BitVec.ofNat 8 j :: (List.range 17).flatMap (fun i => vertexBytes f b i j)
     ∧ (rowBytes f b j).length = (match f with | .wide => 103 | .narrow => 52)
     ∧ (meshAt b.mesh i j = ⟨30720, 16529⟩ →
       vertexBytes .wide b i j = [0x00#8, 0x78#8, 0x00#8, 0x00#8, 0x40#8, 0x91#8]))
  ∧ (∀ s : State, s.held = false →
     ((s.pres.trans = .none ∨ s.pres.trans = .selected) →
       (let rows (r : RowSet) : List Byte :=
          [(if r.get 8 then 1#8 else 0#8),
            BitVec.ofBoolListLE [r.get 0, r.get 1, r.get 2, r.get 3, r.get 4, r.get 5, r.get 6, r.get 7]]
        let live (k : BankId) : Prop :=
          (s.pres.banks.get k).state = .live ∨ (s.pres.banks.get k).state = .reading ∧ (s.pres.banks.get k.other).state ≠ .live
        let bank : Byte := if live .a then 0x00#8 else if live .b then 0x01#8 else 0xFF#8
        let reply : List Byte := [0x00#8, bank] ++ u16 s.pres.generation ++ rows s.pres.reported
          ++ [(match s.pres.presented with | .wide => 0#8 | .narrow => 1#8)
                + (match s.pres.selected with | .wide => 0#8 | .narrow => 2#8)]
          ++ rows s.pres.saturated
          ++ [(match s.eng.state with | .idle => 0#8 | .computing _ _ => 1#8),
              (match s.pres.swap with | .none => 0#8 | .waiting => 1#8 | .deferred => 2#8),
              (if s.pres.video then 1#8 else 0#8)]
        reply.length = 12
        ∧ exec .mpStatus s =
          .next { s with pres := { s.pres with mattn := false, trans := .taken, miso := 0xFF#8 :: reply } })
       ∧ (∀ b : Byte, b ≠ 0x01#8 → b ≠ 0x02#8 → b ≠ 0x03#8 →
         exec (.mpUnknownCommand b) s =
           .next { s with pres := { s.pres with trans := .taken, miso := [0xFF#8, 0x0E#8] } })
       ∧ ((∀ i, (s.pres.banks.get i).state ≠ .live ∧ (s.pres.banks.get i).state ≠ .reading) → ∀ a : ReadArgs,
         exec (.mpReadRows (.form a)) s =
           .next { s with pres := { s.pres with trans := .taken, miso := [0xFF#8, 0xFF#8, 0xFF#8, 0x10#8] } })
       ∧ ((∀ i, (s.pres.banks.get i).state ≠ .live ∧ (s.pres.banks.get i).state ≠ .reading) →
         exec (.mpReadRows .misfit) s = .next { s with pres := { s.pres with trans := .taken, miso := [] } })
       ∧ (∀ i : BankId, (s.pres.banks.get i).state = .live → (s.pres.banks.get i.other).state ≠ .live →
         let read : Presentation := { s.pres with banks := s.pres.banks.setState i .reading, trans := .taken }
         (∀ a : ReadArgs, a.start ≤ 8 → 1 ≤ a.count → a.count ≤ 9 →
           let n := min a.count (9 - a.start)
           exec (.mpReadRows (.form a)) s = .next { s with pres := { read with
             miso := [0xFF#8, 0xFF#8, 0xFF#8, 0x00#8] ++ (u8 i.code ++ u16 s.pres.generation ++ u8 s.pres.presented.code ++ u8 a.start ++ u8 n)
               ++ (List.range n).flatMap fun k => rowBytes s.pres.presented (s.pres.banks.get i) (a.start + k) } })
         ∧ (∀ a : ReadArgs, (8 < a.start ∨ a.count = 0 ∨ 9 < a.count) →
           exec (.mpReadRows (.form a)) s =
             .next { s with pres := { read with miso := [0xFF#8, 0xFF#8, 0xFF#8, 0x04#8] } })
         ∧ exec (.mpReadRows .misfit) s = .next { s with pres := { read with miso := [] } }))
     ∧ ((s.pres.trans = .taken ∨ s.pres.trans = .ignored) →
       exec .mpStatus s = .next s ∧ (∀ v, exec (.mpReadRows v) s = .next s)
         ∧ (∀ v, exec (.mpSetFormat v) s = .next s) ∧ ∀ b, exec (.mpUnknownCommand b) s = .next s))
  ∧ (∀ s : State, s.held = true →
     let off : State := { s with pres := { s.pres with
       trans := if s.pres.trans = .none ∨ s.pres.trans = .selected then .ignored else s.pres.trans } }
     exec .mpStatus s = .next off ∧ (∀ v, exec (.mpReadRows v) s = .next off)
       ∧ (∀ v, exec (.mpSetFormat v) s = .next off) ∧ ∀ b, exec (.mpUnknownCommand b) s = .next off)
  ∧ (∀ (u : Presentation) (k : Nat), (u.miso.length ≤ k → misoByte u k = 0xFF#8)
     ∧ ∀ b, u.miso[k]? = some b → misoByte u k = b)
  ∧ (∀ s : State, s.held = false → (s.pres.trans = .none ∨ s.pres.trans = .selected) →
       (∀ b : Bool,
         let u : Presentation := { s.pres with
           selected := if b then .narrow else .wide, trans := .taken, miso := [0xFF#8, 0xFF#8, 0x00#8] }
         let c : Instr := .mpSetFormat (.form (if b then 1 else 0))
         (s.store.state = .loading →
           exec c s = .next { s with pres := u, eng := { s.eng with allDirty := true } })
         ∧ (s.store.state ≠ .loading →
         (∀ i m, s.eng.state = .computing i m →
           exec c s = .next { s with pres := u, eng := { s.eng with pendingReq := true, allDirty := true } })
         ∧ (∀ i : BankId, s.eng.state = .idle → s.eng.pendingReq = true → s.pres.banks.find .ready = some i →
           exec c s = .next { s with
             pres := { u with banks := s.pres.banks.set i { s.pres.banks.get i with dirty := Vector.replicate 9 true } },
             eng := { s.eng with allDirty := false } })
         ∧ (∀ i : BankId, s.eng.state = .idle → s.eng.pendingReq = false → buildBank s.pres.banks = some i →
           exec c s = .next { s with
             pres := { u with
               banks := s.pres.banks.setState i .writing,
               swap := if (s.pres.banks.get i).state = .ready then .none else s.pres.swap },
             eng := { s.eng with state := .computing i (snapshotOf s), allDirty := true } })))
       ∧ (∀ n : Nat, 2 ≤ n →
         exec (.mpSetFormat (.form n)) s =
           .next { s with pres := { s.pres with trans := .taken, miso := [0xFF#8, 0xFF#8, 0x04#8] } })
       ∧ exec (.mpSetFormat .misfit) s = .next { s with pres := { s.pres with trans := .taken, miso := [] } })

/-- NARROW: the offset from the uniform grid point in quarter pixels, saturated to 12 bits and packed in three bytes,
with the ends of the saturation, zeros for the nominal mesh, and the worked vertex (8, 4) of (0, -188) (05 R89; the
packing and the worked vertex are 12 R192). -/
def Obligations.NarrowFormat : Prop :=
  (∀ (b : Bank) (i j : Nat),
    let value (d : Int) : Int := clamp (-2048) 2047 (roundDiv d 4)
    let x := value ((meshAt b.mesh i j).x - i * b.width)
    let y := value ((meshAt b.mesh i j).y - j * 2 * b.height)
    vertexBytes .narrow b i j =
      [BitVec.extractLsb' 4 8 (BitVec.ofInt 12 x),
        BitVec.extractLsb' 0 4 (BitVec.ofInt 12 x) ++ BitVec.extractLsb' 8 4 (BitVec.ofInt 12 y),
        BitVec.extractLsb' 0 8 (BitVec.ofInt 12 y)]
    ∧ -2048 ≤ x ∧ x ≤ 2047 ∧ -2048 ≤ y ∧ y ≤ 2047)
  ∧ (∀ d : Int, (8190 ≤ d → narrow d = 2047) ∧ (d ≤ -8194 → narrow d = -2048)
    ∧ (-8194 ≤ d → d < 8190 → narrow d = (d + 2) / 4))
  ∧ (∀ (b : Bank) (i j : Nat), meshAt b.mesh i j = ⟨i * b.width, j * 2 * b.height⟩ →
    vertexBytes .narrow b i j = [0x00#8, 0x00#8, 0x00#8])
  ∧ (∀ b : Bank, meshAt b.mesh 8 4 = ⟨30720, 16529⟩ → b.width = 3840 → b.height = 2160 →
    vertexBytes .narrow b 8 4 = [0x00#8, 0x0F#8, 0x44#8])

/-! ## Axis Drive Unit (06) -/

/-- STEP_ISSUED moves the position by one in the direction of the leg or the jog, within the soft limits, or counts a
step of a homing phase (06 R93, R95, R96, R100); at a step of a jog run the square of the speed has gone toward that
of the speed aimed at by twice the acceleration at most, and never lies above that from which the start speed is
reached at the soft limit (06 R96, R105, R106; the least and the greatest that it can be are kept, log 8); an axis
that is not in motion keeps its record: that an arrival which cannot arise changes nothing is the model's reading (log
2). A jog that reverses decelerates in its old direction, and turns at the first step in the new one, from a step on
which it can rest (06 R106; the moment of the turn is log 9). LEG_END at the end point of a leg: with the target
there, SETTLING; otherwise LEG2 toward the target. STOP_DECELERATION_END and JOG_STOP_END at a step where the
deceleration can rest: SETTLING (06 R97, R98, R107, R108; the whole steps where it can rest are the model's reading,
log 8). -/
def Obligations.StepsAndLegEnds : Prop :=
  (∀ (s : State) (x : Axis) (d : StepDir),
     let r := s.axes.get x
     let g := s.set.axes.get x
     let p := r.position + (match d with | .positive => 1 | .negative => -1)
     let speed := g.startSpeed + roundDiv ((g.maxSpeed - g.startSpeed) * ((r.jogLevel : Int) - 1)) 3
     let paced (aim : Int) (q : AxisRec) : AxisRec :=
       let whole := mag ((match q.dir with | .positive => g.travel | .negative => 0) - q.legStart)
       let most := g.startSpeed * g.startSpeed + 2 * g.accel * (whole - mag (q.position - q.legStart))
       let next (v w : Int) : Int :=
         min (if w ≤ v * v then min (w + 2 * g.accel) (v * v) else max (w - 2 * g.accel) (v * v)) most
       { q with
         jogSlow := next q.jogLow q.jogSlow, jogFast := next q.jogPeak q.jogFast, jogLow := aim, jogPeak := aim }
     (r.state = .moving → (r.leg = .leg1 ∨ r.leg = .leg2) → d = r.dir → r.position ≠ r.legEnd → 0 ≤ p →
       p ≤ g.travel → exec (.stepIssued x d) s = .next (s.setAxis x { r with position := p }))
     ∧ (r.state = .jog → r.leg = .run → d = r.dir → d = r.jogDir → 0 ≤ p → p ≤ g.travel →
       exec (.stepIssued x d) s = .next (s.setAxis x (paced speed { r with position := p })))
     ∧ ((r.state = .moving ∨ r.state = .jog) → r.leg = .stopping → d = r.dir → mag (r.position - r.legStart) < r.stopHi →
       0 ≤ p → p ≤ g.travel → exec (.stepIssued x d) s = .next (s.setAxis x { r with position := p }))
     ∧ (r.state = .jog → r.leg = .run → r.dir ≠ r.jogDir →
       let n := mag (r.position - r.legStart)
       (d = r.dir → n < r.stopHi → 0 ≤ p → p ≤ g.travel →
         exec (.stepIssued x d) s = .next (s.setAxis x (paced g.startSpeed { r with position := p })))
       ∧ (d = r.dir → r.stopHi ≤ n → exec (.stepIssued x d) s = .next s)
       ∧ (d = r.jogDir → r.stopLo ≤ n → n ≤ r.stopHi → 0 ≤ p → p ≤ g.travel →
         exec (.stepIssued x d) s = .next (s.setAxis x (paced speed { r with
           position := p, dir := d, legStart := r.position, jogPeak := speed, jogLow := speed,
           jogSlow := g.startSpeed * g.startSpeed, jogFast := g.startSpeed * g.startSpeed })))
       ∧ (d = r.jogDir → n < r.stopLo → exec (.stepIssued x d) s = .next s))
     ∧ (r.state = .homing → d = r.dir →
       (r.homingCount : Int) + 1 < g.travel + g.travel / 10 →
       exec (.stepIssued x d) s = .next (s.setAxis x { r with homingCount := r.homingCount + 1 }))
     ∧ (r.state ≠ .moving → r.state ≠ .jog → r.state ≠ .homing → exec (.stepIssued x d) s = .next s))
  ∧ (∀ (s : State) (x : Axis),
       let r := s.axes.get x
       let settled : AxisRec := { r with
         state := .settling, leg := .none, target := none, jogOwner := none, jogTimer := none }
       (r.state = .moving → r.position = r.legEnd →
         ((r.leg = .leg1 ∧ r.target = some r.legEnd) ∨ r.leg = .leg2) →
         exec (.legEnd x) s = .next (s.setAxis x settled))
       ∧ (∀ t, r.state = .moving → r.position = r.legEnd → r.leg = .leg1 → r.target = some t → t ≠ r.legEnd →
         exec (.legEnd x) s = .next (s.setAxis x { r with
           leg := .leg2, legStart := r.legEnd, legEnd := t, dir := if r.legEnd < t then .positive else .negative }))
       ∧ (r.state = .moving → r.leg = .stopping → r.stopLo ≤ mag (r.position - r.legStart) →
         mag (r.position - r.legStart) ≤ r.stopHi →
         exec (.stopDecelerationEnd x) s = .next (s.setAxis x settled))
       ∧ (r.state = .jog → r.leg = .stopping → r.stopLo ≤ mag (r.position - r.legStart) →
         mag (r.position - r.legStart) ≤ r.stopHi → exec (.jogStopEnd x) s = .next (s.setAxis x settled)))

/-- SETTLE_TIME_EXPIRY brings the axis to IDLE, ZOOM then settles its band, and the queue settles, whatever it holds:
the running requests whose axes are all at rest end, and the dispatch test that follows each end starts the WAITING
requests whose axes are free, an older WAITING request holding back a younger one that names its axis (07 R117, R119).
With no request held IDLE is all, but that ZOOM settles its band, floor(position x 8 / (travel + 1)): a new band
composes, and a refusal is held; when the axis was the last of a running request, the request then ends: it leaves the
queue, its outcome joins the list of its port, and its event is raised, a COMP request being accounted, and a RECALL
offering its geometry (03 R36, R43, R44; 06 R98, R103; 07 R119 to R121, R130). The home switch: its release ends
RELEASE, the seek then starting with the homing count at 0; its activation ends SEEK, with the position 0 and the axis
in SETTLING; an edge outside homing changes the filtered level alone. The homing limit, at a step or as HOME_TIMEOUT,
puts the axis into FAULT with reason HOME_TIMEOUT, its part of a request has failed, and the queue settles: a running
HOME request of Port A ends FAULT, with MOTION_FAULT (06 R99, R100, R103; that requests which come to rest together
end oldest first is the model's choice, log 27, and that a failed one is marked stopped its reading, log 24; that
HOME_TIMEOUT acts one step below the limit too, and leaves the count at it, is the model's reading, log 7, and that
the homing count stays after the seek its choice, log 31). -/
def Obligations.SettleAndHoming : Prop :=
  (∀ (s : State) (x : Axis),
     let r := s.axes.get x
     r.state = .settling →
     (x ≠ .zoom → ∃ t, exec (.settleTimeExpiry x) s = .next t
       ∧ QueueSettled (s.setAxis x { r with state := .idle }) t)
     ∧ (x = .zoom →
       let rest : State := s.setAxis x { r with state := .idle }
       let band := (r.position * 8 / ((s.set.axes.get x).travel + 1)).toNat
       ∃ v t, exec (.settleTimeExpiry x) s = .next t ∧ QueueSettled v t
         ∧ (band = s.geo.band → v = rest)
         ∧ (band ≠ s.geo.band →
           ComposedOrHeld (candidateOf s.set.geo band s.att.pApp s.set.pRef s.att.effective) .both
             { rest with geo := { s.geo with band := band } } v))
     ∧ (x ≠ .zoom → s.mq.requests = [] →
       exec (.settleTimeExpiry x) s = .next (s.setAxis x { r with state := .idle }))
     ∧ (x = .zoom → s.mq.requests = [] →
       let rest : State := s.setAxis x { r with state := .idle }
       let band := (r.position * 8 / ((s.set.axes.get x).travel + 1)).toNat
       let base : State := { rest with geo := { s.geo with band := band } }
       (band = s.geo.band → exec (.settleTimeExpiry x) s = .next rest)
       ∧ (band ≠ s.geo.band → ∃ t, exec (.settleTimeExpiry x) s = .next t
         ∧ ComposedOrHeld (candidateOf s.set.geo band s.att.pApp s.set.pRef s.att.effective) .both base t))
     ∧ (∀ (q : Request) (u : State), s.mq.requests = [q] → q.dispatched = true → q.axes.get x = true →
       r.running = some q.serial → (∀ y, y ≠ x → q.axes.get y = true → (s.axes.get y).state.busy = false) →
       exec (.settleTimeExpiry x) { s with mq := { s.mq with requests := [] } } = .next u →
       let o : Machine.Outcome := if q.failed then .fault else if q.stopped then .aborted else .done
       let v : State := { u with mq := s.mq }
       ((q.kind ≠ .recall ∨ o ≠ .done) → exec (.settleTimeExpiry x) s = .next (ended q o v))
       ∧ (q.kind = .recall → o = .done → ∃ t, exec (.settleTimeExpiry x) s = .next t ∧ RecallEnded q v t))
     ∧ (∀ q : Request, x ≠ .zoom → s.mq.requests = [q] → q.dispatched = true → q.source = .portA →
       (q.kind = .move ∨ q.kind = .step ∨ q.kind = .home) → q.failed = false → q.stopped = false →
       q.axes = (PerAxis.const false).set x true → r.running = some q.serial →
       (∀ y, y ≠ x → (s.axes.get y).running ≠ some q.serial) →
       exec (.settleTimeExpiry x) s = .next { s with
         axes := s.axes.set x { r with state := .idle, running := none },
         mq := { s.mq with
           requests := [],
           outcomes := { s.mq.outcomes with a := pushWindow 4 s.mq.outcomes.a ⟨q.tag, q.kind, .done⟩ } },
         port := s.port.raise (.port .a) .motionDone }))
  ∧ (∀ (s : State) (x : Axis),
       let r := s.axes.get x
       let f := s.inputs.home.get x
       let level (b : Bool) : Inputs := { s.inputs with home := s.inputs.home.set x { f with level := b } }
       let limit := (s.set.axes.get x).travel + (s.set.axes.get x).travel / 10
       let fault : AxisRec := { r with
         state := .fault, leg := .none, target := none, jogOwner := none, jogTimer := none, reason := .homeTimeout,
         homingCount := limit.toNat }
       (s.held = false → f.raw = false → f.level = true → r.state = .homing → r.leg = .release →
         exec (.homeSwitchEdge x) s = .next { s with
           inputs := level false, axes := s.axes.set x { r with leg := .seek, homingCount := 0, dir := .negative } })
       ∧ (s.held = false → f.raw = true → f.level = false → r.state = .homing → r.leg = .seek →
         exec (.homeSwitchEdge x) s = .next { s with
           inputs := level true,
           axes := s.axes.set x { r with
             state := .settling, position := 0, leg := .none, target := none, jogOwner := none, jogTimer := none } })
       ∧ (s.held = false → f.raw ≠ f.level → r.state ≠ .homing →
         exec (.homeSwitchEdge x) s = .next { s with inputs := level f.raw })
       ∧ (r.state = .homing → limit ≤ (r.homingCount : Int) + 1 →
         exec (.stepIssued x r.dir) s = exec (.homeTimeout x) s
         ∧ ∃ t, exec (.homeTimeout x) s = .next t
           ∧ QueueSettled (failedPart x { s with axes := s.axes.set x fault }) t)
       ∧ (r.state = .homing → limit ≤ (r.homingCount : Int) + 1 → s.mq.requests = [] → r.running = none →
         exec (.homeTimeout x) s = .next { s with axes := s.axes.set x fault })
       ∧ (∀ q : Request, r.state = .homing → limit ≤ (r.homingCount : Int) + 1 → s.mq.requests = [q] →
         q.dispatched = true → q.source = .portA → q.kind = .home → q.axes = (PerAxis.const false).set x true →
         r.running = some q.serial → (∀ y, y ≠ x → (s.axes.get y).running ≠ some q.serial) →
         exec (.homeTimeout x) s = .next { s with
           axes := s.axes.set x { fault with running := none },
           mq := { s.mq with
             requests := [],
             outcomes := { s.mq.outcomes with a := pushWindow 4 s.mq.outcomes.a ⟨q.tag, .home, .fault⟩ } },
           port := s.port.raise (.port .a) .motionFault }))

/-- INDEX_EDGE: an activation while MOVING whose recorded position is off the index position by more than the
tolerance puts the axis into LOST with the position it found; its running request has failed, the request's other axes
are stopped, and it ends FAULT when none of them is left in motion, the queue then settling whatever else it holds (07
R117, R119); any other edge changes the filtered level alone (06 R101, R103; that the failed request is marked stopped
as well is the model's reading, log 24). MDFLT_ACTIVATION puts every axis into FAULT with reason DRIVER and raises
MOTION_FAULT to both ports, and every running request ends FAULT, the WAITING requests then being tested; the model's
choices are that they end oldest first (log 27), that an axis keeps its index error (log 32) and a homing one its
homing count (log 31); during the load it changes the filtered level alone, as MDFLT_DEASSERTION always does (06 R102;
11 R187). RAW_LEVEL_CHANGE at a filtered input: a change away from the filtered level starts the filter, with the axis
position recorded at a home or index input; a change back cancels it; in reset the filtered level is the raw level (06
R94, R101; 08 R141; 09 R159). -/
def Obligations.AxisInputs : Prop :=
  (∀ (s : State) (x : Axis),
     let r := s.axes.get x
     let g := s.set.axes.get x
     let f := s.inputs.index.get x
     let level : Inputs := { s.inputs with index := s.inputs.index.set x { f with level := f.raw } }
     let lost : AxisRec := { r with
       state := .lost, leg := .none, target := none, jogOwner := none, jogTimer := none, indexError := some f.edgePos }
     s.held = false → f.raw ≠ f.level →
     (f.raw = true → r.state = .moving → g.indexTol < mag (f.edgePos - g.indexPos) →
       (∃ t, exec (.indexEdge x) s = .next t
         ∧ QueueSettled (failedPart x { s with inputs := level, axes := s.axes.set x lost }) t)
       ∧ (s.mq.requests = [] → exec (.indexEdge x) s = .next { s with inputs := level, axes := s.axes.set x lost })
       ∧ (∀ q : Request, s.mq.requests = [q] → q.dispatched = true → q.axes.get x = true →
         r.running = some q.serial →
         let axes := (s.axes.set x lost).map fun y a =>
           if q.axes.get y = true ∧ y ≠ x then stopAxis (s.set.axes.get y) a else a
         ((∀ y, y ≠ x → q.axes.get y = true → (s.axes.get y).state ≠ .moving ∧ (s.axes.get y).state ≠ .settling
             ∧ (s.axes.get y).state ≠ .jog) →
           exec (.indexEdge x) s = .next (ended q .fault { s with inputs := level, axes := axes }))
         ∧ ((∃ y, y ≠ x ∧ q.axes.get y = true
             ∧ ((s.axes.get y).state = .moving ∨ (s.axes.get y).state = .settling)) →
           exec (.indexEdge x) s = .next { s with
             inputs := level, axes := axes,
             mq := { s.mq with requests := [{ q with failed := true, stopped := true }] } })))
     ∧ ((f.raw = false ∨ r.state ≠ .moving ∨ mag (f.edgePos - g.indexPos) ≤ g.indexTol) →
       exec (.indexEdge x) s = .next { s with inputs := level }))
  ∧ (∀ s : State, s.held = false →
       let level (b : Bool) : Inputs := { s.inputs with mdflt := { s.inputs.mdflt with level := b } }
       let faulted : State := { s with
         inputs := level true,
         axes := s.axes.map fun _ r => { r with
           state := .fault, leg := .none, target := none, jogOwner := none, jogTimer := none, reason := .driver },
         port := s.port.raise .both .motionFault }
       (s.inputs.mdflt.raw = true → s.inputs.mdflt.level = false → s.store.state = .loading →
         exec .mdfltActivation s = .next { s with inputs := level true })
       ∧ (s.inputs.mdflt.raw = true → s.inputs.mdflt.level = false → s.store.state ≠ .loading →
         ∃ t, exec .mdfltActivation s = .next t
           ∧ QueueSettled { faulted with mq := { s.mq with requests := s.mq.requests.map fun q =>
               if q.dispatched then { q with failed := true } else q } } t)
       ∧ (s.inputs.mdflt.raw = true → s.inputs.mdflt.level = false → s.store.state ≠ .loading → s.mq.requests = [] →
         exec .mdfltActivation s = .next faulted)
       ∧ (s.inputs.mdflt.raw = true → s.inputs.mdflt.level = false → s.store.state ≠ .loading →
         (∀ q ∈ s.mq.requests, q.dispatched = true) → (s.mq.requests.map Request.serial).Nodup →
         exec .mdfltActivation s = .next (s.mq.requests.foldl (fun t q => ended q .fault t) faulted))
       ∧ (s.inputs.mdflt.raw = false → s.inputs.mdflt.level = true →
         exec .mdfltDeassertion s = .next { s with inputs := level false }))
  ∧ (∀ (s : State) (b : Bool),
       let u (f : Filtered) (p : Int) : Filtered :=
         if s.held then { f with raw := b, level := b }
         else if b = f.raw then f
         else { f with raw := b, edgePos := if b = f.level then f.edgePos else p }
       (∀ x : Axis,
         exec (.rawLevelChange (.home x) b) s = .next { s with inputs := { s.inputs with
           home := s.inputs.home.set x (u (s.inputs.home.get x) (s.axes.get x).position) } }
         ∧ exec (.rawLevelChange (.index x) b) s = .next { s with inputs := { s.inputs with
           index := s.inputs.index.set x (u (s.inputs.index.get x) (s.axes.get x).position) } })
       ∧ exec (.rawLevelChange .mdflt b) s = .next { s with inputs := { s.inputs with mdflt := u s.inputs.mdflt 0 } }
       ∧ exec (.rawLevelChange .tco b) s = .next { s with inputs := { s.inputs with tco := u s.inputs.tco 0 } }
       ∧ exec (.rawLevelChange .drvflt b) s = .next { s with inputs := { s.inputs with drvflt := u s.inputs.drvflt 0 } }
       ∧ ∀ f : Fan, exec (.rawLevelChange (.tach f) b) s = .next { s with inputs := { s.inputs with
           tach := s.inputs.tach.set f (u (s.inputs.tach.get f) 0) } })

/-- The distance in which a speed is reached from the start speed, or lost to it, in whole steps rounded up (06 R96).
The mapping of jog directions (06 R105), and what is no direction of an axis (R104). JOG on an IDLE axis that no
request holds or waits for starts a jog toward the mapped direction, in HOLD at the soft limit; from the owner it
refreshes the jog: in the same direction the level changes, in the opposite one the run decelerates, and away from the
limit HOLD becomes RUN; from the other port, in STOPPING, or on an axis that is busy, held or waited for, it is BUSY
(06 R104, R105, R106; that the jog direction and level are those of the refresh while the run still decelerates the
old way, and that a refresh back to the old direction then resumes it, are the model's choices, log 9). The ends of a
jog: JOG_TIMEOUT_EXPIRY, and JOG_END from the owner, bring an axis in HOLD to SETTLING and one in RUN to its
deceleration; JOG_END from the other port is BUSY, and on an axis that does not jog it is OK and changes nothing;
JOG_SOFT_LIMIT_REACHED at the soft limit brings RUN to HOLD (06 R106, R107). An expiry that came with a refresh and is
taken after it leaves the jog going (06 R107): the arrival says which run of the timeout has expired, the model's
choice (log 36), and that of an earlier run changes nothing. The whole steps on which a deceleration can rest are those
of the speed that the profile gives, from the least at the last step to the greatest one step on: the model's reading
(log 8). -/
def Obligations.Jogging : Prop :=
  (∀ (g : AxisSettings) (v : Int), 0 < g.accel →
     let n := rampSteps g (v * v)
     v * v - g.startSpeed * g.startSpeed ≤ 2 * g.accel * n ∧ 2 * g.accel * (n - 1) < v * v - g.startSpeed * g.startSpeed)
  ∧
  (∀ (x : Axis) (o : Orientation) (n : Nat),
     let along (up down : Nat) : Option StepDir :=
       if n = up then some .positive else if n = down then some .negative else none
     jogStep x o n = match x, o with
       | .shiftH, .floor => along 1 0
       | .shiftH, .ceiling => along 0 1
       | .shiftV, .floor => along 2 3
       | .shiftV, .ceiling => along 3 2
       | .zoom, _ | .focus, _ => along 4 5)
  ∧ (∀ (p : Port) (s : State) (x : Axis) (a : JogArgs) (d : StepDir), canUse p .motion s →
     axisOf a.axis = some x → 1 ≤ a.level → a.level ≤ 4 →
     let r := s.axes.get x
     let g := s.set.axes.get x
     let limit := match d with | .positive => g.travel | .negative => 0
     let speed := g.startSpeed + roundDiv ((g.maxSpeed - g.startSpeed) * ((a.level : Int) - 1)) 3
     (r.state = .idle → r.running = none → (∀ q ∈ s.mq.requests, q.dispatched = false → q.axes.get x = false) →
       jogStep x s.att.effective a.dir = some d →
       exec (.jog p (.form a)) s = .next (replied p 0x50#8 .ok [] s ((taken p s).setAxis x { r with
         state := .jog, leg := if r.position = limit then .hold else .run, jogOwner := some p, jogDir := d,
         jogLevel := a.level, jogTimer := some s.set.jogTimeout, jogRun := r.jogRun + 1, jogMap := s.att.effective,
         dir := d, legStart := r.position, jogPeak := speed, jogLow := speed,
         jogSlow := g.startSpeed * g.startSpeed, jogFast := g.startSpeed * g.startSpeed })))
     ∧ (r.state = .jog → r.jogOwner = some p → jogStep x r.jogMap a.dir = some d →
       let kept : AxisRec := { r with
         jogTimer := some s.set.jogTimeout, jogRun := r.jogRun + 1, jogLevel := a.level }
       let refreshes (q : AxisRec) : Prop :=
         exec (.jog p (.form a)) s = .next (replied p 0x50#8 .ok [] s ((taken p s).setAxis x q))
       let n := mag (r.position - r.legStart)
       let whole := mag ((match r.dir with | .positive => g.travel | .negative => 0) - r.legStart)
       let toward := r.jogPeak * r.jogPeak
       let fastest := if r.jogFast ≤ toward then min (r.jogFast + 2 * g.accel) toward
         else max (r.jogFast - 2 * g.accel) toward
       (r.leg = .run → r.dir = r.jogDir → d = r.dir →
         refreshes { kept with jogPeak := max r.jogPeak speed, jogLow := min r.jogLow speed })
       ∧ (r.leg = .run → r.dir = r.jogDir → d ≠ r.dir →
         refreshes { kept with
           jogDir := d, jogLow := g.startSpeed, stopLo := min (n + rampSteps g r.jogSlow) whole,
           stopHi := min (n + 1 + rampSteps g fastest) whole })
       ∧ (r.leg = .run → r.dir ≠ r.jogDir → d = r.jogDir → refreshes kept)
       ∧ (r.leg = .run → r.dir ≠ r.jogDir → d = r.dir →
         refreshes { kept with
           jogDir := d, jogPeak := max r.jogPeak speed, jogLow := min r.jogLow speed })
       ∧ (r.leg = .hold → d = r.jogDir → refreshes kept)
       ∧ (r.leg = .hold → d ≠ r.jogDir →
         refreshes { kept with
           leg := .run, jogDir := d, dir := d, legStart := r.position, jogPeak := speed, jogLow := speed,
           jogSlow := g.startSpeed * g.startSpeed, jogFast := g.startSpeed * g.startSpeed })
       ∧ (r.leg = .stopping →
         exec (.jog p (.form a)) s = .next (replied p 0x50#8 .busy [] s (taken p s))))
     ∧ (r.state = .idle → jogStep x s.att.effective a.dir = some d →
       (r.running ≠ none ∨ ∃ q ∈ s.mq.requests, q.dispatched = false ∧ q.axes.get x = true) →
       exec (.jog p (.form a)) s = .next (replied p 0x50#8 .busy [] s (taken p s)))
     ∧ (r.state = .jog → r.jogOwner ≠ some p → jogStep x r.jogMap a.dir = some d →
       exec (.jog p (.form a)) s = .next (replied p 0x50#8 .busy [] s (taken p s)))
     ∧ (r.state ≠ .jog → r.state ≠ .idle → jogStep x s.att.effective a.dir = some d →
       exec (.jog p (.form a)) s = .next (replied p 0x50#8 .busy [] s (taken p s))))
  ∧ (∀ (s : State) (x : Axis),
       let r := s.axes.get x
       let g := s.set.axes.get x
       let settled : AxisRec := { r with
         state := .settling, leg := .none, target := none, jogOwner := none, jogTimer := none }
       let n := mag (r.position - r.legStart)
       let whole := mag ((match r.dir with | .positive => g.travel | .negative => 0) - r.legStart)
       let toward := r.jogPeak * r.jogPeak
       let fastest := if r.jogFast ≤ toward then min (r.jogFast + 2 * g.accel) toward
         else max (r.jogFast - 2 * g.accel) toward
       let slowing : AxisRec := if r.dir = r.jogDir then
           { r with
             leg := .stopping, jogOwner := none, jogTimer := none,
             stopLo := min (n + rampSteps g r.jogSlow) whole, stopHi := min (n + 1 + rampSteps g fastest) whole }
         else { r with leg := .stopping, jogOwner := none, jogTimer := none }
       (∀ (p : Port) (n : Nat), canUse p .motion s → axisOf n = some x → r.state ≠ .jog →
         exec (.jogEnd p (.form n)) s = .next (replied p 0x51#8 .ok [] s (taken p s)))
       ∧ (r.state = .jog →
       (r.leg = .hold → r.jogTimer ≠ none →
         exec (.jogTimeoutExpiry ⟨x, r.jogRun⟩) s = .next (s.setAxis x settled))
       ∧ (r.leg = .run → r.jogTimer ≠ none →
         exec (.jogTimeoutExpiry ⟨x, r.jogRun⟩) s = .next (s.setAxis x slowing))
       ∧ (∀ n, n ≠ r.jogRun → exec (.jogTimeoutExpiry ⟨x, n⟩) s = .next s)
       ∧ (∀ (p : Port) (a : JogArgs) (t : State), canUse p .motion s → axisOf a.axis = some x → 1 ≤ a.level →
         a.level ≤ 4 → jogStep x r.jogMap a.dir ≠ none → r.jogOwner = some p → (r.leg = .run ∨ r.leg = .hold) →
         exec (.jog p (.form a)) s = .next t →
         (t.axes.get x).state = .jog ∧ exec (.jogTimeoutExpiry ⟨x, r.jogRun⟩) t = .next t)
       ∧ (r.leg = .run → r.dir = r.jogDir → r.position = (match r.dir with | .positive => g.travel | .negative => 0) →
         exec (.jogSoftLimitReached x) s = .next (s.setAxis x { r with leg := .hold }))
       ∧ ∀ (p : Port) (n : Nat), canUse p .motion s → axisOf n = some x →
         (r.leg = .hold → r.jogOwner = some p →
           exec (.jogEnd p (.form n)) s = .next (replied p 0x51#8 .ok [] s ((taken p s).setAxis x settled)))
         ∧ (r.leg = .run → r.jogOwner = some p →
           exec (.jogEnd p (.form n)) s = .next (replied p 0x51#8 .ok [] s ((taken p s).setAxis x slowing)))
         ∧ ((r.leg = .hold ∨ r.leg = .run) → r.jogOwner ≠ some p →
           exec (.jogEnd p (.form n)) s = .next (replied p 0x51#8 .busy [] s (taken p s)))
         ∧ (r.leg = .stopping →
           exec (.jogEnd p (.form n)) s = .next (replied p 0x51#8 .ok [] s (taken p s)))))

/-- STOP of a set of axes is answered OK, whatever it finds. It stops the named axes, and with them every axis of a
running request that holds a named one, by the state of each: HOMING becomes UNHOMED, a jog in HOLD enters SETTLING, a
jog in RUN and a leg decelerate, a deceleration goes on, and an axis at rest keeps its record; every other axis keeps
its own. Each such request is marked stopped, and goes on while one of its axes still moves or settles; one whose axes
are all at rest ends ABORTED at once, or FAULT when it had failed; a WAITING request is not touched but by the
dispatch test that follows an end (06 R103, R107, R108; 07 R117, R119; that requests which come to rest together end
oldest first is the model's choice, log 27). The whole steps on which a deceleration can rest are the model's reading
(log 8), and that a stopped homing keeps its count is log 31. -/
def Obligations.Stop : Prop :=
  ∀ (p : Port) (s : State) (m : Nat), canUse p .motion s → 1 ≤ m → m ≤ 15 →
    let named (x : Axis) : Prop := (axesOfMask m).get x = true
    let hit (q : Request) : Prop := q.dispatched = true ∧ ∃ x, named x ∧ q.axes.get x = true
    let stopped (x : Axis) (r a : AxisRec) : Prop :=
      let g := s.set.axes.get x
      let n := mag (r.position - r.legStart)
      let top := rampSteps g (g.maxSpeed * g.maxSpeed)
      let toward := r.jogPeak * r.jogPeak
      let fastest := if r.jogFast ≤ toward then min (r.jogFast + 2 * g.accel) toward
        else max (r.jogFast - 2 * g.accel) toward
      let rest (slow fast stop : Int) (k : AxisRec) : AxisRec := { k with
        leg := .stopping, stopLo := min (n + slow) (mag (stop - r.legStart)),
        stopHi := min (n + 1 + fast) (mag (stop - r.legStart)) }
      (r.state = .homing → a = { r with state := .unhomed, leg := .none })
      ∧ (r.state = .jog → r.leg = .hold → a =
          { r with state := .settling, leg := .none, target := none, jogOwner := none, jogTimer := none })
      ∧ (r.state = .jog → r.leg = .run → r.dir = r.jogDir → a =
          rest (rampSteps g r.jogSlow) (rampSteps g fastest) (match r.dir with | .positive => g.travel | .negative => 0)
            { r with jogOwner := none, jogTimer := none })
      ∧ (r.state = .jog → r.leg = .run → r.dir ≠ r.jogDir → a =
          { r with leg := .stopping, jogOwner := none, jogTimer := none })
      ∧ (r.state = .moving → (r.leg = .leg1 ∨ r.leg = .leg2) → a = rest (min n top) (min (n + 1) top) r.legEnd r)
      ∧ ((r.state = .moving ∨ r.state = .jog) → r.leg = .stopping → a = r)
      ∧ (r.state = .idle ∨ r.state = .settling ∨ r.state = .unhomed ∨ r.state = .lost ∨ r.state = .fault → a = r)
    let stops (l : PerAxis AxisRec) : Prop := ∀ x : Axis,
      ((named x ∨ ∃ q ∈ s.mq.requests, hit q ∧ q.axes.get x = true) →
        l.get x = stopAxis (s.set.axes.get x) (s.axes.get x) ∧ stopped x (s.axes.get x) (l.get x))
      ∧ (¬ (named x ∨ ∃ q ∈ s.mq.requests, hit q ∧ q.axes.get x = true) → l.get x = s.axes.get x)
    (∃ l k t, exec (.stop p (.form m)) s = .next (replied p 0x52#8 .ok [] s t)
      ∧ QueueSettled { taken p s with axes := l, mq := { s.mq with requests := k } } t
      ∧ stops l ∧ k.length = s.mq.requests.length
      ∧ ∀ (n : Nat) (q : Request), s.mq.requests[n]? = some q →
        (hit q → k[n]? = some { q with stopped := true }) ∧ (¬ hit q → k[n]? = some q))
    ∧ ((∀ q ∈ s.mq.requests, ∃ x, q.axes.get x = true ∧
        ((s.axes.get x).state = .moving ∨ (s.axes.get x).state = .settling
          ∨ q.dispatched = false ∧ (s.axes.get x).running ≠ none)) →
      ∃ l k, exec (.stop p (.form m)) s =
          .next (replied p 0x52#8 .ok [] s { taken p s with axes := l, mq := { s.mq with requests := k } })
        ∧ stops l ∧ k.length = s.mq.requests.length
        ∧ ∀ (n : Nat) (q : Request), s.mq.requests[n]? = some q →
          (hit q → k[n]? = some { q with stopped := true }) ∧ (¬ hit q → k[n]? = some q))
    ∧ (∀ q : Request, s.mq.requests = [q] → hit q →
      (∀ x, q.axes.get x = true → (s.axes.get x).state ≠ .moving ∧ (s.axes.get x).state ≠ .settling
        ∧ (s.axes.get x).state ≠ .jog) →
      ∃ l, stops l ∧ exec (.stop p (.form m)) s =
        .next (replied p 0x52#8 .ok [] s
          (ended q (if q.failed then .fault else .aborted) { taken p s with axes := l })))

/-- The ranges of the ten settings of an axis and their joint checks. AXIS_SET_PARAMS with settings in range on an
axis that is not HOMING, MOVING, JOG or SETTLING and that no request holds replaces them; a new travel makes the axis
UNHOMED, and its homing count is held within the range of the new travel (06 R93; that it stays where the range allows
is the model's choice, log 31), after which the WAITING requests are tested (07 R117); on a busy axis it is BUSY.
AXIS_SET_JOG sets the jog timeout; AXIS_STATUS and AXIS_READ_PARAMS only read (06 R109, R110). Where 12 leaves the
order, the width or the code of reply data open, or a field without an absent flag has nothing to carry, the data are
the model's choice (logs 17 and 34). -/
def Obligations.AxisCommands : Prop :=
  ∀ (p : Port) (s : State),
    (∀ k : AxisState, k.busy = true ↔ k = .homing ∨ k = .moving ∨ k = .jog ∨ k = .settling)
    ∧ (∀ g : AxisSettings, g.ok = true ↔
      (1000 ≤ g.travel ∧ g.travel ≤ 65000) ∧ (50 ≤ g.startSpeed ∧ g.startSpeed ≤ 5000)
      ∧ (g.startSpeed ≤ g.maxSpeed ∧ g.maxSpeed ≤ 20000) ∧ (500 ≤ g.accel ∧ g.accel ≤ 100000)
      ∧ (50 ≤ g.homingSpeed ∧ g.homingSpeed ≤ g.startSpeed) ∧ (0 ≤ g.backlash ∧ g.backlash ≤ 255)
      ∧ (0 ≤ g.indexPos ∧ g.indexPos ≤ g.travel) ∧ (4 ≤ g.indexTol ∧ g.indexTol ≤ 255)
      ∧ (0 ≤ g.settle ∧ g.settle ≤ 1000))
    ∧ (∀ (x : Axis) (a : AxisArgs) (d : StepDir), canUse p .config s → axisOf a.axis = some x →
      a.approach = (match d with | .positive => 0 | .negative => 1) → 1000 ≤ a.travel → a.travel ≤ 65000 →
      50 ≤ a.startSpeed → a.startSpeed ≤ 5000 → a.startSpeed ≤ a.maxSpeed → a.maxSpeed ≤ 20000 → 500 ≤ a.accel →
      a.accel ≤ 100000 → 50 ≤ a.homingSpeed → a.homingSpeed ≤ a.startSpeed → a.backlash ≤ 255 → a.indexPos ≤ a.travel →
      4 ≤ a.indexTol → a.indexTol ≤ 255 → a.settle ≤ 1000 →
      let r := s.axes.get x
      let g : AxisSettings := {
        travel := a.travel, startSpeed := a.startSpeed, maxSpeed := a.maxSpeed, accel := a.accel,
        homingSpeed := a.homingSpeed, backlash := a.backlash, approach := d, indexPos := a.indexPos,
        indexTol := a.indexTol, settle := a.settle }
      let set : Settings := { s.set with axes := s.set.axes.set x g }
      (r.state.busy = false → r.running = none → g.travel = (s.set.axes.get x).travel →
        exec (.axisSetParams p (.form a)) s = .next (replied p 0x53#8 .ok [] s { taken p s with set := set }))
      ∧ (r.state.busy = false → r.running = none → g.travel ≠ (s.set.axes.get x).travel →
        let unhomed : State := { taken p s with
          set := set,
          axes := s.axes.set x { r with
            state := .unhomed, leg := .none, target := none, jogOwner := none, jogTimer := none, reason := .none,
            indexError := none, homingCount := min r.homingCount (g.travel + g.travel / 10).toNat } }
        (s.mq.requests = [] → exec (.axisSetParams p (.form a)) s = .next (replied p 0x53#8 .ok [] s unhomed))
        ∧ ∃ t, exec (.axisSetParams p (.form a)) s = .next (replied p 0x53#8 .ok [] s t) ∧ QueueSettled unhomed t)
      ∧ ((r.state.busy = true ∨ r.running ≠ none) →
        exec (.axisSetParams p (.form a)) s = .next (replied p 0x53#8 .busy [] s (taken p s))))
    ∧ (canUse p .config s → ∀ t : Nat, 100 ≤ t → t ≤ 1000 →
      exec (.axisSetJog p (.form t)) s =
        .next (replied p 0x54#8 .ok [] s { taken p s with set := { s.set with jogTimeout := t } }))
    ∧ (canUse p .none s →
      (let running (r : AxisRec) : List Byte :=
           match r.running.bind fun k => s.mq.requests.find? fun q => decide (q.serial = k) with
           | none => u8 0 ++ u8 0 ++ flag true
           | some q => u8 q.source.code ++ u8 (q.tag.getD 0) ++ flag false
       let jog (r : AxisRec) : List Byte := match r.jogOwner with
         | none => u8 0 ++ u8 0 ++ u8 0 ++ flag true
         | some o => u8 (portCode o) ++ u8 (stepDirCode r.jogDir) ++ u8 r.jogLevel ++ flag false
       let axis (x : Axis) : List Byte :=
         let r := s.axes.get x
         u8 r.state.code ++ u8 r.leg.code ++ s16 r.position ++ opt16 r.target ++ u24 r.homingCount ++ running r ++ jog r
           ++ u8 r.reason.code ++ s16 (r.indexError.getD 0)
           ++ flag (s.inputs.home.get x).level ++ flag (s.inputs.index.get x).level
           ++ flag (decide (r.state ≠ .unhomed ∧ r.state ≠ .lost ∧ r.state ≠ .fault))
       exec (.axisStatus p (.form ())) s = .next (replied p 0x55#8 .ok
         (axis .shiftH ++ axis .shiftV ++ axis .zoom ++ axis .focus ++ flag s.inputs.mdflt.level ++ s16 s.set.jogTimeout)
         s (taken p s)))
      ∧ ∀ (n : Nat) (x : Axis), axisOf n = some x →
        let g := s.set.axes.get x
        exec (.axisReadParams p (.form n)) s = .next (replied p 0x56#8 .ok
          (s16 g.travel ++ s16 g.startSpeed ++ s16 g.maxSpeed ++ s24 g.accel ++ s16 g.homingSpeed ++ s8 g.backlash
            ++ u8 (stepDirCode g.approach) ++ s16 g.indexPos ++ s8 g.indexTol ++ s16 g.settle) s (taken p s)))

/-! ## Motion Queue, Lens Memory Table and Focus Compensation (07) -/

/-- The k-th value goes to the k-th named axis, in axis order. A MOVE holds the carried target of FOCUS as it is and
those of the other axes clamped to the travel, and is OK_CLAMPED when one of these clamps, or that of FOCUS with
comp_applied added, changes its value (07 R115). What a new request holds (07, section 7.1). An accepted MQ_MOVE,
MQ_STEP, MQ_HOME or MQ_RECALL joins the queue, which has room, behind the requests held, of which a waiting COMP
request gives way to one that names FOCUS; the dispatch test is applied, and the reply states its tag and whether it
was dispatched. Behind requests of which each that waits is held back, it waits when an axis it names is held by a
request, is busy or is named by one of them, and is dispatched at once when none is, whatever other axes run; but for
MQ_HOME no named axis may be UNHOMED, LOST or FAULT (07 R113 to R118, R129). The refusals of an enqueue, in their
order: an empty set, an unknown axis, a value out of range or a slot above 9 is RANGE; then FULL with 8 requests held,
none of them a waiting COMP that gives way; then NOT_HOMED. Nothing changes (07 R114). That MQ_MOVE and MQ_STEP with
another number of values than axes are RANGE is the model's choice (log 23), and so are the order and the width of
reply data where 12 leaves them open (log 17). -/
def Obligations.EnqueueAndRefusals : Prop :=
  (let bit (x : Axis) : Nat := match x with | .shiftH => 0 | .shiftV => 1 | .zoom => 2 | .focus => 3
   (∀ m : Nat, axisCount m = ((List.range 4).filter fun k => m.testBit k).length
     ∧ ∀ (x : Axis) (l : List Int), (axesOfMask m).get x = m.testBit (bit x)
       ∧ (assignValues (axesOfMask m) l).get x =
         (if m.testBit (bit x) then l[((List.range (bit x)).filter fun k => m.testBit k).length]? else none))
   ∧ (∀ (s : State) (x : Axis) (t : Int),
     let travel := (s.set.axes.get x).travel
     (x = .focus → heldTarget s x t = t
       ∧ (moveClamps s x t = true ↔ t + s.fc.applied < 0 ∨ travel < t + s.fc.applied))
     ∧ (x ≠ .focus → heldTarget s x t = (if t < 0 then 0 else if travel < t then travel else t)
       ∧ (moveClamps s x t = true ↔ t < 0 ∨ travel < t)))
   ∧ (∀ (p : Port) (k : Kind) (m : PerAxis Bool) (v : PerAxis (Option Int)) (slot tag : Nat),
     let r := newRequest p k m v slot tag
     r.source = (match p with | .a => .portA | .b => .portB) ∧ r.kind = k ∧ r.axes = m ∧ r.targets = v ∧ r.slot = slot
       ∧ r.payload = none ∧ r.tag = some tag ∧ r.dispatched = false ∧ r.stopped = false ∧ r.failed = false))
  ∧
  (∀ (p : Port) (s : State), canUse p .motion s →
     let kept (r : Request) : List Request :=
       if r.axes.focus then s.mq.requests.filter fun q => !(decide (q.kind = .comp) && !q.dispatched)
       else s.mq.requests
     let before (r : Request) : State := { s with mq := { s.mq with requests := kept r } }
     let queue (r : Request) : State := { taken p s with mq := { s.mq with
       requests := kept r ++ [{ r with serial := s.mq.nextSerial }], nextSerial := s.mq.nextSerial + 1 } }
     let answers (i : Instr) (id : Byte) (k : Status) (tag : Nat) (r : Request) : Prop :=
       let n := (kept r).length
       n < 8 →
       (∃ t, DispatchTested (queue r) t ∧ exec i s = .next (replied p id k (u8 tag
         ++ u8 (if t.mq.requests.any fun q => decide (q.serial = s.mq.nextSerial) && !q.dispatched then 0 else 1)) s t))
       ∧ (heldBefore (before r) n →
         (heldBack (before r) n r → exec i s = .next (replied p id k (u8 tag ++ u8 0) s (queue r)))
         ∧ (¬ heldBack (before r) n r →
           ((∀ q ∈ kept r, q.dispatched = true)
             ∨ (∀ q ∈ kept r, q.serial ≠ s.mq.nextSerial)
               ∧ ∀ x, (s.axes.get x).running ≠ some s.mq.nextSerial) →
           exec i s = .next (replied p id k (u8 tag ++ u8 1) s
             (dispatch { r with serial := s.mq.nextSerial } (queue r)))))
     let homed (m : PerAxis Bool) : Prop := ∀ x, m.get x = true →
       (s.axes.get x).state ≠ .unhomed ∧ (s.axes.get x).state ≠ .lost ∧ (s.axes.get x).state ≠ .fault
     (∀ a : MoveArgs, 1 ≤ a.axes → a.axes ≤ 15 → a.vals.length = axisCount a.axes →
       (∀ v ∈ a.vals, 0 ≤ v ∧ v ≤ 65535) → homed (axesOfMask a.axes) →
       let v := assignValues (axesOfMask a.axes) a.vals
       let clamps := allAxes.any fun x => match v.get x with
         | none => false
         | some t => moveClamps s x t
       answers (.mqMove p (.form a)) 0x60#8 (if clamps then .okClamped else .ok) a.tag
         (newRequest p .move (axesOfMask a.axes) (v.map fun x o => o.map (heldTarget s x)) 0 a.tag))
     ∧ (∀ a : MoveArgs, 1 ≤ a.axes → a.axes ≤ 15 → a.vals.length = axisCount a.axes →
       (∀ v ∈ a.vals, -65000 ≤ v ∧ v ≤ 65000) → homed (axesOfMask a.axes) →
       answers (.mqStep p (.form a)) 0x61#8 .ok a.tag
         (newRequest p .step (axesOfMask a.axes) (assignValues (axesOfMask a.axes) a.vals) 0 a.tag))
     ∧ (∀ m tag : Nat, 1 ≤ m → m ≤ 15 →
       answers (.mqHome p (.form ⟨m, tag⟩)) 0x62#8 .ok tag
         (newRequest p .home (axesOfMask m) (PerAxis.const none) 0 tag))
     ∧ (∀ slot tag : Nat, slot ≤ 9 → homed (PerAxis.const true) →
       answers (.mqRecall p (.form ⟨slot, tag⟩)) 0x63#8 .ok tag
         (newRequest p .recall (PerAxis.const true) (PerAxis.const none) slot tag)))
  ∧ (∀ (p : Port) (s : State) (m tag : Nat), canUse p .motion s →
       let no (i : Instr) (id : Byte) (k : Status) : Prop := exec i s = .next (replied p id k [] s (taken p s))
       let full : Prop := 8 ≤ s.mq.requests.length ∧ ∀ q ∈ s.mq.requests, q.dispatched = true ∨ q.kind ≠ .comp
       let lost (x : Axis) : Prop :=
         (s.axes.get x).state = .unhomed ∨ (s.axes.get x).state = .lost ∨ (s.axes.get x).state = .fault
       ((m = 0 ∨ 16 ≤ m) → no (.mqHome p (.form ⟨m, tag⟩)) 0x62#8 .range)
       ∧ (∀ v : List Int, (m = 0 ∨ 16 ≤ m ∨ v.length ≠ axisCount m ∨ ∃ t ∈ v, t < 0 ∨ 65535 < t) →
         no (.mqMove p (.form ⟨m, tag, v⟩)) 0x60#8 .range)
       ∧ (∀ v : List Int, (m = 0 ∨ 16 ≤ m ∨ v.length ≠ axisCount m ∨ ∃ t ∈ v, t < -65000 ∨ 65000 < t) →
         no (.mqStep p (.form ⟨m, tag, v⟩)) 0x61#8 .range)
       ∧ (∀ slot : Nat, 9 < slot → no (.mqRecall p (.form ⟨slot, tag⟩)) 0x63#8 .range)
       ∧ (1 ≤ m → m ≤ 15 → full → no (.mqHome p (.form ⟨m, tag⟩)) 0x62#8 .full)
       ∧ (∀ slot : Nat, slot ≤ 9 → full → no (.mqRecall p (.form ⟨slot, tag⟩)) 0x63#8 .full)
       ∧ (∀ x slot, slot ≤ 9 → s.mq.requests.length < 8 → lost x →
         no (.mqRecall p (.form ⟨slot, tag⟩)) 0x63#8 .notHomed)
       ∧ (1 ≤ m → m ≤ 15 → ∀ v : List Int, v.length = axisCount m →
         ((∀ t ∈ v, 0 ≤ t ∧ t ≤ 65535) →
           (full → no (.mqMove p (.form ⟨m, tag, v⟩)) 0x60#8 .full)
           ∧ (s.mq.requests.length < 8 → (∃ x, (axesOfMask m).get x = true ∧ lost x) →
             no (.mqMove p (.form ⟨m, tag, v⟩)) 0x60#8 .notHomed))
         ∧ ((∀ t ∈ v, -65000 ≤ t ∧ t ≤ 65000) →
           (full → no (.mqStep p (.form ⟨m, tag, v⟩)) 0x61#8 .full)
           ∧ (s.mq.requests.length < 8 → (∃ x, (axesOfMask m).get x = true ∧ lost x) →
             no (.mqStep p (.form ⟨m, tag, v⟩)) 0x61#8 .notHomed))))

/-- The target that each kind of request hands an axis (07 R118), the legs of a move to it (06 R95, R97) and the start
of homing (06 R99). The dispatch of a request, whatever other requests are held before and behind it: they stay as they
are. A MOVE, a STEP, a COMP or a RECALL of a FILLED slot, all its
axes IDLE and one of them not at its target, runs: each named axis is bound to it and handed its target, and a RECALL
takes the slot's corner offsets as its payload; with every axis at its target it ends at once as its axes' rest would
end it. A RECALL of an EMPTY slot ends EMPTY_SLOT, and with an axis that is not IDLE each ends FAULT at once. A HOME
starts homing its axes, from whatever source it comes, the home switch of each picking the phase, and with MDFLT active
it ends FAULT (06 R95, R99; 07 R118 to R120, R130). -/
def Obligations.Dispatch : Prop :=
  (∀ (s : State) (r : Request) (o : Option SlotRec) (x : Axis),
    let travel := (s.set.axes.get x).travel
    let position := (s.axes.get x).position
    let value := (r.targets.get x).getD 0
    (r.kind = .move → dispatchTarget s r o x = clamp 0 travel (if x = .focus then value + s.fc.applied else value))
    ∧ (r.kind = .step → dispatchTarget s r o x = clamp 0 travel (position + value))
    ∧ (r.kind = .comp → dispatchTarget s r o x = clamp 0 travel (position + r.compTarget - s.fc.applied))
    ∧ (∀ q, r.kind = .recall → o = some q → dispatchTarget s r o x = clamp 0 travel (match x with
        | .shiftH => q.shiftH
        | .shiftV => q.shiftV
        | .zoom => q.zoom
        | .focus => q.focusUser + s.fc.applied)))
  ∧ (∀ (g : AxisSettings) (t : Int) (a : AxisRec),
    let final : StepDir := if a.position < t then .positive else .negative
    let first : Int := if final = g.approach ∨ g.backlash = 0 then t
      else match g.approach with
        | .positive => clamp 0 g.travel (t - g.backlash)
        | .negative => clamp 0 g.travel (t + g.backlash)
    (t = a.position → handTarget g t a = a)
    ∧ (t ≠ a.position → handTarget g t a = { a with
        state := .moving, target := some t, leg := .leg1, legStart := a.position, legEnd := first,
        dir := if a.position < first then .positive else .negative })
    ∧ ∀ b : Bool, startHoming b a = { a with
        state := .homing, reason := .none, indexError := none, homingCount := 0, target := none,
        leg := if b then .release else .seek, dir := if b then .positive else .negative })
  ∧ (∀ (s : State) (r : Request) (l l' : List Request), s.mq.requests = l ++ r :: l' →
    (∀ q ∈ l ++ l', q.serial ≠ r.serial) → r.dispatched = false →
    let taken' : State := { s with
      axes := s.axes.map fun x a => if r.axes.get x then { a with running := none } else a }
    let idle : Prop := ∀ x, r.axes.get x = true → (s.axes.get x).state = .idle
    let started : Request := { r with dispatched := true, focusStart := s.axes.focus.position }
    let runs (o : Option SlotRec) : Prop :=
      dispatch r s = { s with
        axes := s.axes.map fun x a =>
          if r.axes.get x then
            handTarget (s.set.axes.get x) (dispatchTarget s r o x) { a with running := some r.serial }
          else a,
        mq := { s.mq with requests := l ++ { started with
          targets := r.axes.map fun x b => if b then some (dispatchTarget s r o x) else none,
          payload := o.bind SlotRec.offsets } :: l' } }
    let there (o : Option SlotRec) : Prop := ∀ x, r.axes.get x = true → dispatchTarget s r o x = (s.axes.get x).position
    let alone : Prop := ∀ x, r.axes.get x = false → (s.axes.get x).running ≠ some r.serial
    ((r.kind = .move ∨ r.kind = .step ∨ r.kind = .comp) → idle →
      (¬ there none → runs none)
      ∧ (there none → alone → r.failed = false → r.stopped = false → dispatch r s = ended started .done taken'))
    ∧ (r.kind = .recall → idle →
      (s.set.slots[r.slot]?.join = none → alone → dispatch r s = ended r .emptySlot taken')
      ∧ ∀ q, s.set.slots[r.slot]?.join = some q →
        (¬ there (some q) → runs (some q))
        ∧ (there (some q) → alone → r.failed = false → r.stopped = false →
          RecallEnded { started with payload := q.offsets } taken' (dispatch r s)))
    ∧ (r.kind ≠ .home → ¬ idle → alone → dispatch r s = ended started .fault taken')
    ∧ (r.kind = .home → s.inputs.mdflt.level = true → alone →
      (∀ x, r.axes.get x = true → (s.axes.get x).state.busy = false) → dispatch r s = ended started .fault taken'))
  ∧ ∀ (s : State) (r : Request) (l l' : List Request), s.mq.requests = l ++ r :: l' →
    (∀ q ∈ l ++ l', q.serial ≠ r.serial) → r.dispatched = false →
    let run : Request := { r with dispatched := true, focusStart := s.axes.focus.position }
    (r.source = .portA → (r.kind = .move ∨ r.kind = .step) → (∀ x, r.axes.get x = true → (s.axes.get x).state = .idle) →
      (∃ x, r.axes.get x = true ∧ dispatchTarget s r none x ≠ (s.axes.get x).position) →
      dispatch r s = { s with
        axes := s.axes.map fun x a =>
          if r.axes.get x then
            handTarget (s.set.axes.get x) (dispatchTarget s r none x) { a with running := some r.serial }
          else a,
        mq := { s.mq with requests := l ++ { run with
          targets := r.axes.map fun x b => if b then some (dispatchTarget s r none x) else none,
          payload := none } :: l' } })
    ∧ (r.source = .portA → (r.kind = .move ∨ r.kind = .step) →
      (∃ x, r.axes.get x = true ∧ (s.axes.get x).state ≠ .idle) →
      (∀ x, r.axes.get x = false → (s.axes.get x).running ≠ some r.serial) →
      dispatch r s = { s with
        axes := s.axes.map fun x a => if r.axes.get x then { a with running := none } else a,
        mq := { s.mq with
          requests := l ++ l',
          outcomes := { s.mq.outcomes with a := pushWindow 4 s.mq.outcomes.a ⟨r.tag, r.kind, .fault⟩ } },
        port := s.port.raise (.port .a) .motionFault })
    ∧ (r.kind = .home → s.inputs.mdflt.level = false → (∃ x, r.axes.get x = true) →
      dispatch r s = { s with
        axes := s.axes.map fun x a =>
          if r.axes.get x then startHoming (s.inputs.home.get x).level { a with running := some r.serial } else a,
        mq := { s.mq with requests := l ++ run :: l' } })

/-- FLUSH removes the WAITING requests of the issuing port, those of START for Port A, and answers their number; the
requests that stay are then tested, oldest first: one whose axis is held, busy, or named by an older WAITING request
goes on waiting, and the only one that waits, when its axes are free, is dispatched. MQ_STATUS reads; MQ_OUTCOMES
returns the issuing port's list and empties it (07 R117, R121 to R123). MEM_SAVE with every axis IDLE fills the slot
with the positions, FOCUS without the applied compensation, the label and the corner offsets as the flags say; an axis
UNHOMED, LOST or FAULT is NOT_HOMED, and then a busy one BUSY. MEM_DELETE empties the slot, MEM_READ reads it,
MEM_SET_POWERON names a slot or NONE (07 R124 to R127). FC_SET replaces the settings of Focus Compensation; with
enable OFF it removes a waiting COMP request, and the requests that stay are tested as after FLUSH. FC_STATUS reads
(07 R117, R131). Where 12 leaves the order or the width of reply data open, or a field without an absent flag has
nothing to carry, the data are the model's choice (logs 17 and 34). -/
def Obligations.QueueMemoryFocus : Prop :=
  let tested (s : State) (l : List Request) (answers : State → Prop) : Prop :=
    let u : State := { s with mq := { s.mq with requests := l } }
    (∃ t, DispatchTested u t ∧ answers t) ∧ (heldBefore u l.length → answers u)
    ∧ ∀ q : Request, (l.filter fun r => !r.dispatched) = [q] →
        (∀ x, q.axes.get x = true → (s.axes.get x).running = none ∧ (s.axes.get x).state.busy = false) →
        answers (dispatch q u)
  (∀ (p : Port) (s : State),
     (canUse p .motion s →
       let gone (q : Request) : Bool := !q.dispatched && match p with
         | .a => decide (q.source = .portA ∨ q.source = .start)
         | .b => decide (q.source = .portB)
       tested (taken p s) (s.mq.requests.filter fun q => !gone q) fun t =>
         exec (.flush p (.form ())) s =
           .next (replied p 0x64#8 .ok (u8 (s.mq.requests.filter gone).length) s t))
     ∧ (canUse p .none s →
       let target (r : Request) (o : Option Int) : List Byte :=
         if r.kind = .step ∧ r.dispatched = false then s24 (o.getD 0) ++ flag o.isNone else opt16 o
       let record (r : Request) : List Byte :=
         u8 r.source.code ++ u8 r.kind.code ++ u8 (axesMask r.axes) ++ (target r r.targets.shiftH
             ++ target r r.targets.shiftV ++ target r r.targets.zoom ++ target r r.targets.focus)
           ++ u8 r.slot ++ flag r.payload.isSome ++ s16 r.compTarget ++ opt8 r.tag ++ flag r.dispatched ++ flag r.stopped
       exec (.mqStatus p (.form ())) s = .next (replied p 0x65#8 .ok
         (u8 s.mq.requests.length ++ s.mq.requests.flatMap record ++ s16 s.fc.applied) s (taken p s))
       ∧ exec (.mqOutcomes p (.form ())) s =
         .next (replied p 0x66#8 .ok
           (u8 (s.mq.outcomes.get p).length
             ++ (s.mq.outcomes.get p).flatMap fun e => opt8 e.tag ++ u8 e.kind.code ++ u8 e.outcome.code) s
           { taken p s with mq := { s.mq with outcomes := s.mq.outcomes.set p [] } })))
  ∧ (∀ (p : Port) (s : State) (i : Fin 10),
       (canUse p .motion s →
         let slot (l : Option (List Byte)) (o : Option (PerCorner Pt)) : SlotRec :=
           ⟨l, s.axes.shiftH.position, s.axes.shiftV.position, s.axes.zoom.position,
             s.axes.focus.position - s.fc.applied, o⟩
         let put (o : Option SlotRec) : State := { taken p s with set := { s.set with slots := s.set.slots.set i o } }
         (∀ b : Bool, (∀ x, (s.axes.get x).state = .idle) →
           let o := if b then some s.set.geo.offsets else none
           exec (.memSave p (.form ⟨i.val, if b then 1 else 0, []⟩)) s =
             .next (replied p 0x70#8 .ok [] s (put (some (slot none o))))
           ∧ ∀ l : List Byte, 1 ≤ l.length → l.length ≤ 12 → (∀ c ∈ l, 32 ≤ c.toNat ∧ c.toNat ≤ 126) →
             exec (.memSave p (.form ⟨i.val, if b then 3 else 2, l⟩)) s =
               .next (replied p 0x70#8 .ok [] s (put (some (slot (some l) o)))))
         ∧ ((∃ x, (s.axes.get x).state = .unhomed ∨ (s.axes.get x).state = .lost ∨ (s.axes.get x).state = .fault) →
           exec (.memSave p (.form ⟨i.val, 0, []⟩)) s = .next (replied p 0x70#8 .notHomed [] s (taken p s)))
         ∧ ((∃ x, (s.axes.get x).state.busy = true) → (∀ x, (s.axes.get x).state = .idle ∨ (s.axes.get x).state.busy = true) →
           exec (.memSave p (.form ⟨i.val, 0, []⟩)) s = .next (replied p 0x70#8 .busy [] s (taken p s)))
         ∧ exec (.memDelete p (.form i.val)) s = .next (replied p 0x71#8 .ok [] s (put none)))
       ∧ (canUse p .none s →
         let pair (d : Pt) : List Byte := s16 d.x ++ s16 d.y
         let slot : List Byte := match s.set.slots.get i with
           | none => u8 0
           | some r =>
             let o := r.offsets.getD ⟨⟨0, 0⟩, ⟨0, 0⟩, ⟨0, 0⟩, ⟨0, 0⟩⟩
             u8 1 ++ u8 (r.label.getD []).length ++ r.label.getD [] ++ flag r.label.isNone
               ++ s16 r.shiftH ++ s16 r.shiftV ++ s16 r.zoom ++ s24 r.focusUser
               ++ (pair o.tl ++ pair o.tr ++ pair o.bl ++ pair o.br) ++ flag r.offsets.isNone
         exec (.memRead p (.form i.val)) s = .next (replied p 0x72#8 .ok
           (slot ++ u8 (match s.set.powerOn with | none => 0xFF | some k => k.val)) s (taken p s)))
       ∧ (canUse p .config s →
         exec (.memSetPoweron p (.form i.val)) s =
           .next (replied p 0x73#8 .ok [] s { taken p s with set := { s.set with powerOn := some i } })
         ∧ exec (.memSetPoweron p (.form 0xFF)) s =
           .next (replied p 0x73#8 .ok [] s { taken p s with set := { s.set with powerOn := none } })))
  ∧ (∀ (p : Port) (s : State),
       (∀ k t l d : Int, canUse p .config s → -255 ≤ k → k ≤ 255 → -400 ≤ t → t ≤ 1500 → 0 ≤ l → l ≤ 2000 → 1 ≤ d → d ≤ 255 →
         exec (.fcSet p (.form ⟨1, k, t, l, d⟩)) s =
           .next (replied p 0x78#8 .ok [] s { taken p s with set := { s.set with fc := ⟨true, k, t, l, d⟩ } })
         ∧ tested { taken p s with set := { s.set with fc := ⟨false, k, t, l, d⟩ } }
             (s.mq.requests.filter fun q => !(decide (q.kind = .comp) && !q.dispatched)) fun v =>
             exec (.fcSet p (.form ⟨0, k, t, l, d⟩)) s = .next (replied p 0x78#8 .ok [] s v))
       ∧ (canUse p .none s →
         let g := s.set.fc
         exec (.fcStatus p (.form ())) s = .next (replied p 0x79#8 .ok
           (flag g.enable ++ s16 g.k ++ s16 g.tRef ++ s16 g.limit ++ s8 g.deadband ++ s16 s.fc.applied
             ++ opt16 s.fc.lastTarget ++ u8 (match s.mq.requests.find? fun q => decide (q.kind = .comp) with
               | none => 0
               | some q => if q.dispatched then 2 else 1)) s (taken p s))))

/-- A valid conversion of T_LB evaluates its filtered value (01 R15; 07 R128; the whole of it is the statement on TEMP
conversions). An evaluation at a T_LB update: comp_target = clamp(-limit, limit, round(k (t - t_ref) / 16)) is kept;
with enable OFF, with FOCUS not homed, or with the difference from the applied compensation below the deadband,
nothing more happens; otherwise a waiting COMP request takes the new target, and with none held and room a COMP
request, of FOCUS alone and without a tag, joins, and the WAITING requests are tested: it waits while FOCUS is busy,
and is dispatched at once while FOCUS is free and not at its target (07 R117, R118, R128, R129). -/
def Obligations.FocusEvaluation : Prop :=
  (∀ v : Int,
     let r := compRequest v
     r.source = .comp ∧ r.kind = .comp ∧ (∀ x, r.axes.get x = decide (x = .focus)) ∧ r.payload = none ∧ r.compTarget = v
       ∧ r.tag = none ∧ r.dispatched = false ∧ r.stopped = false ∧ r.failed = false)
  ∧
  (∀ (s : State) (rest : List (Fin 10)) (code : Nat), s.smp.round = 6 :: rest → 32 ≤ code → code ≤ 4063 →
    (s.smp.records.get 6).validity ≠ .fault → ∃ l m q,
      exec (.conversionCompletion code) s =
        .next { evaluateComp
            ((meanOf (pushWindow 4 (s.smp.records.get 6).history
              (tableTemp (s.set.tables.get (s.set.tempTable.get 6)) code))).getD 0)
            { s with smp := { s.smp with records := l } } with smp := m, prot := q })
  ∧ ∀ (t : Int) (s : State),
    let g := s.set.fc
    let target := clamp (-g.limit) g.limit (roundDiv (g.k * (t - g.tRef)) 16)
    let kept : State := { s with fc := { s.fc with lastTarget := some target } }
    let homed := s.axes.focus.state = .idle ∨ s.axes.focus.state = .moving ∨ s.axes.focus.state = .jog
      ∨ s.axes.focus.state = .settling
    ((g.enable = false ∨ ¬ homed ∨ mag (target - s.fc.applied) < g.deadband) → evaluateComp t s = kept)
    ∧ (g.enable = true → homed → g.deadband ≤ mag (target - s.fc.applied) →
      ((∃ q ∈ s.mq.requests, q.kind = .comp ∧ q.dispatched = false) →
        evaluateComp t s = { kept with mq := { s.mq with requests := s.mq.requests.map fun q =>
          if q.kind = .comp ∧ q.dispatched = false then { q with compTarget := target } else q } })
      ∧ ((∃ q ∈ s.mq.requests, q.kind = .comp) → (∀ q ∈ s.mq.requests, q.kind = .comp → q.dispatched = true) →
        evaluateComp t s = kept)
      ∧ ((∀ q ∈ s.mq.requests, q.kind ≠ .comp) → 8 ≤ s.mq.requests.length → evaluateComp t s = kept)
      ∧ ((∀ q ∈ s.mq.requests, q.kind ≠ .comp) → s.mq.requests.length < 8 →
        DispatchTested { kept with mq := { s.mq with
          requests := s.mq.requests ++ [{ compRequest target with serial := s.mq.nextSerial }],
          nextSerial := s.mq.nextSerial + 1 } } (evaluateComp t s))
      ∧ ((∀ q ∈ s.mq.requests, q.kind ≠ .comp ∧ q.dispatched = true) → s.mq.requests.length < 8 →
        (s.axes.focus.running ≠ none ∨ s.axes.focus.state ≠ .idle) →
        evaluateComp t s = { kept with mq := { s.mq with
          requests := s.mq.requests ++ [{ compRequest target with serial := s.mq.nextSerial }],
          nextSerial := s.mq.nextSerial + 1 } })
      ∧ ((∀ q ∈ s.mq.requests, q.kind ≠ .comp ∧ q.dispatched = true ∧ q.serial ≠ s.mq.nextSerial) →
        s.mq.requests.length < 8 → s.axes.focus.running = none → s.axes.focus.state = .idle →
        let goal := clamp 0 s.set.axes.focus.travel (s.axes.focus.position + target - s.fc.applied)
        goal ≠ s.axes.focus.position →
        evaluateComp t s = { kept with
          axes := s.axes.set .focus
            (handTarget s.set.axes.focus goal { s.axes.focus with running := some s.mq.nextSerial }),
          mq := { s.mq with
            requests := s.mq.requests ++ [{ compRequest target with
              serial := s.mq.nextSerial, dispatched := true, focusStart := s.axes.focus.position,
              targets := (PerAxis.const none).set .focus (some goal) }],
            nextSerial := s.mq.nextSerial + 1 } }))

/-! ## Fan Controller (08) -/

/-- The lookup of a curve: what a curve is, its two ends, its segments, its bounds, and the examples of FAN_LS's
default curve (08 R134). -/
def Obligations.CurveLookup : Prop :=
  (∀ c : List CurvePoint, curveOk c = true ↔
    2 ≤ c.length ∧ c.length ≤ 6 ∧ (∀ p ∈ c, -400 ≤ p.t ∧ p.t ≤ 1500 ∧ 0 ≤ p.d ∧ p.d ≤ 1000)
      ∧ ∀ pre a b post, c = pre ++ a :: b :: post → a.t < b.t)
  ∧ (∀ (c : List CurvePoint) (t : Int), curveOk c = true →
    (∀ p, c.head? = some p → t ≤ p.t → lookup c t = p.d)
    ∧ (∀ p, c.getLast? = some p → p.t ≤ t → lookup c t = p.d)
    ∧ (∀ pre a b post, c = pre ++ a :: b :: post → a.t < t → t ≤ b.t →
      lookup c t = a.d + roundDiv ((b.d - a.d) * (t - a.t)) (b.t - a.t)
      ∧ (t = b.t → lookup c t = b.d)
      ∧ min a.d b.d ≤ lookup c t ∧ lookup c t ≤ max a.d b.d)
    ∧ 0 ≤ lookup c t ∧ lookup c t ≤ 1000)
  ∧ lookup (defaultSettings.fans.get .ls).curve 732 = 919 ∧ lookup (defaultSettings.fans.get .ls).curve 500 = 300
  ∧ lookup (defaultSettings.fans.get .ls).curve 800 = 1000

/-- FAN_CONTROL_PERIOD works on all three fans at once: demand, override, target and shortfall, and then the state and
the duty by them: OFF spins up for a target above 0; RUNNING goes OFF at target 0, to 1000 under override, and
otherwise by at most the slew toward the target, from the cap downward in quiet mode; the other states keep their
duty. The afterrun and trip levels are the ones read. The demand is the greatest of what the bound channels give, the
lookup of the filtered value with the orientation's offset in VALID and 1000 in FAULT, raised to the spin floor when
it lies below it and above 0; where no bound channel gives anything it is the spin floor. The override holds its three
causes apart (08 R133, R135 to R140). A period also counts toward the window that an entry into RUNNING restarted, by
which the model tells a window that ended across the restart (log 28). With the period stopped nothing happens: that
an arrival which cannot arise changes nothing is the model's reading (log 2). -/
def Obligations.FanPeriod : Prop :=
  ∀ s : State,
    (∀ g : FanSettings,
      let gives (c : Fin 7) (d : Int) : Prop := g.bound.get c = true ∧
        ((tempRec s c).validity = .fault ∧ d = 1000
          ∨ (tempRec s c).validity = .valid ∧ ∃ t, (tempRec s c).filtered = some t ∧ d = lookup g.curve (t +
            match s.att.effective with
            | .floor => (s.set.offsets.get c).floor
            | .ceiling => (s.set.offsets.get c).ceiling))
      ((∀ c d, ¬ gives c d) → demandOf s g = g.spinFloor)
      ∧ (∀ c d, gives c d → (∀ c' d', gives c' d' → d' ≤ d) →
        demandOf s g = if 0 < d ∧ d < g.spinFloor then g.spinFloor else d)
      ∧ ((overrideOf s g).trip = true ↔ s.prot.trip ≠ none)
      ∧ ((overrideOf s g).failedFan = true ↔ ∃ f, (s.fan.fans.get f).state = .failed)
      ∧ ((overrideOf s g).faultChannel = true ↔ ∃ c, g.bound.get c = true ∧ (tempRec s c).validity = .fault))
    ∧ (s.fan.running = false → exec .fanControlPeriod s = .next s)
    ∧ (s.fan.running = true → ∃ l : PerFan FanRec,
      exec .fanControlPeriod s = .next { s with fan := { s.fan with
        fans := l, afterrunSeen := s.prot.afterrun.isSome, tripSeen := s.prot.trip.isSome } }
      ∧ ∀ f : Fan,
        let g := s.set.fans.get f
        let r := s.fan.fans.get f
        let q := l.get f
        let demand := demandOf s g
        let ovr := overrideOf s g
        let forced : Bool := ovr.trip || ovr.failedFan || ovr.faultChannel
        let plain (d : Int) : Int := if s.set.quiet then min d g.quietCap else d
        let target := if forced then 1000
          else if s.prot.afterrun.isSome then max (plain demand) (plain 600) else plain demand
        let start := if s.set.quiet then min r.duty g.quietCap else r.duty
        let duty := if forced then 1000
          else if start < target then min target (start + s.set.slew) else max target (start - s.set.slew)
        let shown : FanRec := { r with
          demand := demand, override := ovr, target := target,
          shortfall := if forced then 0 else demand - plain demand, windowWait := r.windowWait - 1 }
        (r.state = .off → 0 < target → q = { shown with state := .spinup, duty := 1000 })
        ∧ (r.state = .off → target ≤ 0 → q = shown)
        ∧ (r.state = .running → target = 0 → q = { shown with state := .off, duty := 0 })
        ∧ (r.state = .running → target ≠ 0 → q = { shown with duty := duty })
        ∧ (r.state = .spinup ∨ r.state = .stalled ∨ r.state = .failed → q = shown))

/-- The timers of a fan: the spin-up ends in RUNNING at the target, held at the cap in quiet mode without override,
its tach window restarted, or in OFF at target 0; the stop of a STALLED fan ends in SPINUP with its restart count one
up, or in OFF (08 R140, R141, R142). In another state, and at a window's end while the controller does not run,
nothing happens: that an arrival which cannot arise changes nothing is the model's reading (log 2). The tach
supervision: a filtered rise is counted, up to the count's width, a fall is not; a window's end takes 60 times its
count as the speed and starts the next; a RUNNING fan at or above its stall speed drops its low count and restart
count, below it counts a low window, and at the third is STALLED, or with 3 restarts FAILED with FAN_FAULT at both
ports. The end of a window that ended across the restart is discarded: neither measured nor judged, the restarted
window going on (08 R141 to R143). The count's width is the model's reading (log 21), and so is what tells such an
end: fewer than 4 control periods since the restart (log 28). -/
def Obligations.FanTimersAndTach : Prop :=
  (∀ (s : State) (f : Fan),
     let r := s.fan.fans.get f
     let capped := if s.set.quiet = true ∧ r.override.any = false then min r.target (s.set.fans.get f).quietCap else r.target
     (r.state = .spinup → 0 < r.target → exec (.spinupTimerExpiry f) s =
       .next (s.setFan f { r with state := .running, duty := capped, lowWindows := 0, edges := 0, windowWait := 4 }))
     ∧ (r.state = .spinup → r.target ≤ 0 → exec (.spinupTimerExpiry f) s =
       .next (s.setFan f { r with state := .off, duty := 0 }))
     ∧ (r.state ≠ .spinup → exec (.spinupTimerExpiry f) s = .next s)
     ∧ (r.state = .stalled → 0 < r.target → exec (.stopTimerExpiry f) s =
       .next (s.setFan f { r with state := .spinup, duty := 1000, restarts := r.restarts + 1 }))
     ∧ (r.state = .stalled → r.target ≤ 0 → exec (.stopTimerExpiry f) s =
       .next (s.setFan f { r with state := .off, duty := 0 }))
     ∧ (r.state ≠ .stalled → exec (.stopTimerExpiry f) s = .next s))
  ∧ (∀ (s : State) (f : Fan),
       let r := s.fan.fans.get f
       let i := s.inputs.tach.get f
       let level : Inputs := { s.inputs with tach := s.inputs.tach.set f { i with level := i.raw } }
       let seen : FanRec := { r with speed := 60 * r.edges, edges := 0 }
       let stall := (s.set.fans.get f).stallSpeed
       (s.held = false → i.raw = false → i.level = true → exec (.tachEdge f) s = .next { s with inputs := level })
       ∧ (s.deaf = false → i.raw = true → i.level = false → exec (.tachEdge f) s =
         .next { s with
           inputs := level, fan := { s.fan with fans := s.fan.fans.set f { r with edges := min 4095 (r.edges + 1) } } })
       ∧ (s.fan.running = false → exec (.tachWindowEnd f) s = .next s)
       ∧ (s.fan.running = true → 0 < r.windowWait → exec (.tachWindowEnd f) s = .next (s.setFan f { r with windowWait := 0 }))
       ∧ (s.fan.running = true → r.windowWait = 0 →
         (r.state ≠ .running → exec (.tachWindowEnd f) s = .next (s.setFan f seen))
         ∧ (r.state = .running → stall ≤ 60 * (r.edges : Int) →
           exec (.tachWindowEnd f) s = .next (s.setFan f { seen with lowWindows := 0, restarts := 0 }))
         ∧ (r.state = .running → 60 * (r.edges : Int) < stall → r.lowWindows < 2 →
           exec (.tachWindowEnd f) s = .next (s.setFan f { seen with lowWindows := r.lowWindows + 1 }))
         ∧ (r.state = .running → 60 * (r.edges : Int) < stall → r.lowWindows = 2 → r.restarts < 3 →
           exec (.tachWindowEnd f) s = .next (s.setFan f { seen with state := .stalled, duty := 0, lowWindows := 0 }))
         ∧ (r.state = .running → 60 * (r.edges : Int) < stall → r.lowWindows = 2 → r.restarts = 3 →
           exec (.tachWindowEnd f) s = .next { s.setFan f { seen with state := .failed, duty := 0, lowWindows := 3 } with
             port := s.port.raise .both .fanFault })))

/-- FAN_SET_QUIET sets the mode, and to ON drops each RUNNING fan without override to its cap; FAN_CLEAR brings the
named FAILED fans to OFF with their counts at 0 and answers their number (08 R143, R144). The settings of the
fans: the curve, the bound set, the parameters, of which a lower cap drops a RUNNING fan in quiet mode, the
orientation offsets and the slew, each with values in range replacing what it carries (08 R145, R146). FAN_STATUS
and FAN_READ_SETTINGS only read; the time left on a running phase timer is free, within its load of 1 s in SPINUP
and 2 s in STALLED (08 R133, R148; the free value is log 4). Where 12 leaves the order or the width of reply data
open, they are the model's choice (log 17). -/
def Obligations.FanCommands : Prop :=
  (∀ (p : Port) (s : State), canUse p .cooling s →
     exec (.fanSetQuiet p (.form 0)) s =
       .next (replied p 0x80#8 .ok [] s { taken p s with set := { s.set with quiet := false } })
     ∧ exec (.fanSetQuiet p (.form 1)) s =
       .next (replied p 0x80#8 .ok [] s { taken p s with
         set := { s.set with quiet := true },
         fan := { s.fan with fans := s.fan.fans.map fun f r =>
           if r.state = .running ∧ r.override.any = false then
             { r with duty := min r.duty (s.set.fans.get f).quietCap }
           else r } })
     ∧ ∀ m : Nat, m ≤ 7 →
       let named (f : Fan) : Bool := namesFan m f && decide ((s.fan.fans.get f).state = .failed)
       exec (.fanClear p (.form m)) s =
         .next (replied p 0x81#8 .ok (u8 (allFans.filter named).length) s { taken p s with
           fan := { s.fan with
             fans := s.fan.fans.map fun f r =>
               if named f then { r with state := .off, restarts := 0, lowWindows := 0 } else r } }))
  ∧ (∀ (p : Port) (s : State), canUse p .config s →
       (∀ (n : Nat) (f : Fan), fanOf n = some f →
         let g := s.set.fans.get f
         let r := s.fan.fans.get f
         let put (h : FanSettings) : State := { taken p s with set := { s.set with fans := s.set.fans.set f h } }
         (∀ l : List CurvePoint, curveOk l = true →
           exec (.fanSetCurve p (.form ⟨n, l⟩)) s = .next (replied p 0x82#8 .ok [] s (put { g with curve := l })))
         ∧ (∀ l : List Nat, l ≠ [] → l.Nodup → (∀ c ∈ l, c ≤ 6) →
           exec (.fanSetBinding p (.form ⟨n, l⟩)) s =
             .next (replied p 0x83#8 .ok [] s (put { g with bound := Vector.ofFn fun c : Fin 7 => l.contains c.val })))
         ∧ (∀ a b c : Int, 150 ≤ a → a ≤ 600 → (b = 0 ∨ a ≤ b ∧ b ≤ 1000) → 60 ≤ c → c ≤ 3000 →
           exec (.fanSetParams p (.form ⟨n, a, b, c⟩)) s =
             .next (replied p 0x84#8 .ok [] s
               ((put { g with spinFloor := a, quietCap := b, stallSpeed := c }).setFan f
                 (if r.state = .running ∧ s.set.quiet = true ∧ r.override.any = false then { r with duty := min r.duty b }
                  else r)))))
       ∧ (∀ (c : Fin 7) (a b : Int), -200 ≤ a → a ≤ 200 → -200 ≤ b → b ≤ 200 →
         exec (.fanSetOffsets p (.form ⟨c.val, a, b⟩)) s =
           .next (replied p 0x85#8 .ok [] s { taken p s with
             set := { s.set with offsets := s.set.offsets.set c ⟨a, b⟩ } }))
       ∧ (∀ v : Int, 1 ≤ v → v ≤ 1000 →
         exec (.fanSetSlew p (.form v)) s =
           .next (replied p 0x86#8 .ok [] s { taken p s with set := { s.set with slew := v } })))
  ∧ (∀ (p : Port) (s : State), canUse p .none s →
       let fan (r : FanRec) (left : Option Nat) : List Byte :=
         let o := r.override
         u8 r.state.code ++ s16 r.duty ++ s16 r.demand ++ s16 r.target ++ s16 r.shortfall
           ++ (flag (o.trip || o.failedFan || o.faultChannel) ++ flag o.trip ++ flag o.failedFan ++ flag o.faultChannel)
           ++ u24 r.speed ++ u8 r.lowWindows ++ u8 r.restarts ++ u16 (left.getD 0) ++ flag left.isNone
       (∃ (a b c : Option Nat) (n : Nat),
         exec (.fanStatus p (.form ())) s = .next (replied p 0x87#8 .ok
           (flag s.set.quiet ++ s16 s.set.slew ++ flag s.fan.afterrunSeen ++ flag s.fan.tripSeen
             ++ fan s.fan.fans.ls a ++ fan s.fan.fans.oe b ++ fan s.fan.fans.ex c) s { taken p s with freeCount := n })
         ∧ ∀ r o, (r, o) ∈ [(s.fan.fans.ls, a), (s.fan.fans.oe, b), (s.fan.fans.ex, c)] →
           (r.state = .spinup → ∃ t, o = some t ∧ t ≤ 1000) ∧ (r.state = .stalled → ∃ t, o = some t ∧ t ≤ 2000)
             ∧ (r.state = .off ∨ r.state = .running ∨ r.state = .failed → o = none))
       ∧ ∀ (n : Nat) (f : Fan), fanOf n = some f →
         let g := s.set.fans.get f
         exec (.fanReadSettings p (.form n)) s = .next (replied p 0x88#8 .ok
           (u8 g.curve.length ++ (g.curve.flatMap fun q => s16 q.t ++ s16 q.d) ++ u8 (maskOf g.bound)
             ++ s16 g.spinFloor ++ s16 g.quietCap ++ s16 g.stallSpeed
             ++ s.set.offsets.toList.flatMap fun o => s16 o.floor ++ s16 o.ceiling) s (taken p s)))

/-! ## Protection Unit (09) -/

/-- The channel term: the channel derates, the greatest with the lower channel on a tie, none and 0 without a VALID
channel, 1000 at the trip threshold with the trip latched, and the example of T_LS (09 R151). -/
def Obligations.ChannelTerm : Prop :=
  ∀ s : State,
    let derate (c : Fin 7) : Option Int :=
      if (tempRec s c).validity = .valid then
        (tempRec s c).filtered.map fun t =>
          let g := s.set.thresholds.get c
          if t ≤ g.ts then 0 else min 1000 (roundDiv (1000 * (t - g.ts)) (g.tt - g.ts))
      else none
    let kept (d : Int) (c : Option (Fin 7)) : Prop := s.prot.running = true →
      ∃ t, exec .protectionPeriodExpiry s = .next t ∧ t.prot.channelTerm = d ∧ t.prot.termChannel = c
    ((∀ c, derate c = none) → kept 0 none)
    ∧ (∀ c d, derate c = some d → (∀ c' d', derate c' = some d' → d' ≤ d ∧ (d' = d → c ≤ c')) → kept d (some c))
    ∧ (∀ c, (s.set.thresholds.get c).ok = true → (tempRec s c).validity = .valid →
      (tempRec s c).filtered = some (s.set.thresholds.get c).tt →
      derate c = some 1000
      ∧ (s.prot.running = true → ∃ t, exec .protectionPeriodExpiry s = .next t ∧ t.prot.trip ≠ none))
    ∧ channelDerate ⟨650, 800⟩ 712 = 413

/-- PROTECTION_PERIOD_EXPIRY: the trip test first; then the derate terms, the raw allowance and the counts; then,
with the trip CLEAR, the allowance: the raw one at once downward, upward by at most a tenth of the rise rate,
THERMAL_WARN when it leaves 1000. A condition that holds latches the trip: allowance 0, LSEN released, the
afterrun timer started, THERMAL_TRIP. The condition found is the lowest VALID channel at its trip threshold, and then
two FAILED fans; the shortfall derate is the greatest of the three shortfalls by the gain (09 R150, R152, R153, R154,
R157, R158, R160). A period also counts toward the run of the afterrun timer, by which the model tells an expiry that
belongs to an earlier run (log 35). With the period stopped nothing happens: that an arrival which cannot arise changes
nothing is the model's reading (log 2). -/
def Obligations.ProtectionPeriod : Prop :=
  ∀ s : State,
    let term := channelTermOf s
    let derate := roundDiv (max (max s.fan.fans.ls.shortfall s.fan.fans.oe.shortfall) s.fan.fans.ex.shortfall * s.set.prot.gain) 16
    let failed : Nat := [Fan.ls, .oe, .ex].countP fun f => decide ((s.fan.fans.get f).state = .failed)
    let faulty : Nat := (List.finRange 7).countP fun c => decide ((tempRec s c).validity = .fault)
    let hot (c : Fin 7) : Prop := (tempRec s c).validity = .valid ∧
      ∃ t, (tempRec s c).filtered = some t ∧ (s.set.thresholds.get c).tt ≤ t
    let open1 := 1000 - max ((term.map Prod.fst).getD 0) derate
    let open2 := if 0 < faulty then min open1 700 else open1
    let raw := clamp s.set.prot.floor 1000 (if 0 < failed then s.set.prot.floor else open2)
    let terms (q : Protection) : Protection := { q with
      raw := raw, channelTerm := (term.map Prod.fst).getD 0, termChannel := term.map Prod.snd, shortfallDerate := derate,
      failedSeen := failed, faultSeen := faulty, afterrunWait := q.afterrunWait - 1 }
    let next := if raw ≤ s.prot.allowance then raw else min raw (s.prot.allowance + roundDiv s.set.prot.rise 10)
    let warned (a : Int) : PortUnit :=
      if s.prot.allowance = 1000 ∧ a < 1000 then s.port.raise .both .thermalWarn else s.port
    (∀ c, hot c → (∀ c', c' < c → ¬ hot c') → tripCondition s = some (.channel c))
    ∧ ((∀ c, ¬ hot c) → tripCondition s = if 2 ≤ failed then some .fans else none)
    ∧ (s.prot.running = false → exec .protectionPeriodExpiry s = .next s)
    ∧ (s.prot.running = true → s.prot.trip ≠ none →
      exec .protectionPeriodExpiry s = .next { s with prot := terms s.prot })
    ∧ (s.prot.running = true → s.prot.trip = none → tripCondition s = none →
      exec .protectionPeriodExpiry s = .next { s with
        prot := { terms s.prot with allowance := next }, port := warned next })
    ∧ (∀ c, s.prot.running = true → s.prot.trip = none → tripCondition s = some c →
      exec .protectionPeriodExpiry s = .next { s with
        prot := { terms s.prot with
          allowance := 0, trip := some c, lsen := false,
          afterrun := if s.set.prot.afterrun = 0 then none else some s.set.prot.afterrun,
          afterrunWait := (10 * s.set.prot.afterrun - 1).toNat },
        port := (warned 0).raise .both .thermalTrip })

/-- TCO and DRVFLT: a filtered activation latches the trip when it is CLEAR, and nothing more when it is LATCHED or
while the store loads; a deassertion changes the filtered level alone. AFTERRUN_TIMER_EXPIRY stops the timer; one that
comes with a start of the timer and is taken after it changes nothing, so that the timer runs on with its full time,
whatever starts it: LIGHT OFF here, or a latch of the trip (09 R159, R160, R165; 11 R187). What tells such an expiry is
the model's reading: fewer than 10 t - 1 protection periods since the start, t the afterrun time (log 35). -/
def Obligations.FaultInputs : Prop :=
  ∀ s : State, s.held = false →
    let latched (c : TripCause) (i : Inputs) : State := { s with
      inputs := i,
      prot := { s.prot with
        allowance := 0, trip := some c, lsen := false,
        afterrun := if s.set.prot.afterrun = 0 then none else some s.set.prot.afterrun,
        afterrunWait := (10 * s.set.prot.afterrun - 1).toNat },
      port := (if s.prot.allowance = 1000 then s.port.raise .both .thermalWarn else s.port).raise .both .thermalTrip }
    let tco (b : Bool) : Inputs := { s.inputs with tco := { s.inputs.tco with level := b } }
    let drvflt (b : Bool) : Inputs := { s.inputs with drvflt := { s.inputs.drvflt with level := b } }
    (s.inputs.tco.raw = true → s.inputs.tco.level = false →
      (s.store.state ≠ .loading → s.prot.trip = none → exec .tcoActivation s = .next (latched .tco (tco true)))
      ∧ ((s.store.state = .loading ∨ s.prot.trip ≠ none) →
        exec .tcoActivation s = .next { s with inputs := tco true }))
    ∧ (s.inputs.drvflt.raw = true → s.inputs.drvflt.level = false →
      (s.store.state ≠ .loading → s.prot.trip = none →
        exec .drvfltActivation s = .next (latched .drvflt (drvflt true)))
      ∧ ((s.store.state = .loading ∨ s.prot.trip ≠ none) →
        exec .drvfltActivation s = .next { s with inputs := drvflt true }))
    ∧ (s.inputs.tco.raw = false → s.inputs.tco.level = true →
      exec .tcoDeassertion s = .next { s with inputs := tco false })
    ∧ (s.inputs.drvflt.raw = false → s.inputs.drvflt.level = true →
      exec .drvfltDeassertion s = .next { s with inputs := drvflt false })
    ∧ (s.prot.afterrunWait = 0 → exec .afterrunTimerExpiry s = .next { s with prot := { s.prot with afterrun := none } })
    ∧ (0 < s.prot.afterrunWait → exec .afterrunTimerExpiry s = .next s)
    ∧ (s.deaf = false → s.prot.lightRequest = true → 1 ≤ s.set.prot.afterrun → ∀ t u v : State,
      exec (.light .a (.form 0)) s = .next t →
      exec .afterrunTimerExpiry t = .next u → exec .afterrunTimerExpiry s = .next v →
      u.prot.afterrun = some s.set.prot.afterrun
      ∧ ∃ w, exec (.light .a (.form 0)) v = .next w ∧ w.prot.afterrun = some s.set.prot.afterrun)

/-- LIGHT from Port A sets the light request and answers LSEN after it: OFF to ON stops the afterrun timer, ON to OFF
starts it. CLEAR_TRIP with no hot condition clears the latch, the allowance becoming the floor; with one it is HOT
with its code, and the latch stays; with the trip CLEAR it is OK. The hot conditions in their order: the lowest VALID
channel at or above its trip threshold less 50, TCO, DRVFLT, two FAILED fans, with their codes (09 R161, R162, R164,
R165; the periods that a start counts are log 35). PROT_SET_PARAMS replaces the four settings, an allowance below the
new floor rising to it while the trip is CLEAR; PROT_SET_THRESHOLDS replaces the two of a channel; the reads only
read, the time left on a running afterrun timer being free, within its load (09 R155, R156, R167; the free value is
log 4); that of a stopped timer is sent as 0, the model's choice (log 34). Where 12 leaves the order, the width or the
code of reply data open, they are the model's choice (log 17). -/
def Obligations.LightAndProtection : Prop :=
  (∀ s : State, s.deaf = false →
     let on (b : Bool) : Bool := b && s.prot.startup && s.prot.trip.isNone
     let warm (c : Fin 7) : Prop := (tempRec s c).validity = .valid ∧
       ∃ t, (tempRec s c).filtered = some t ∧ (s.set.thresholds.get c).tt - 50 ≤ t
     (∀ c, warm c → (∀ c', c' < c → ¬ warm c') → hotCondition s = some (.channel c))
     ∧ ((∀ c, ¬ warm c) → hotCondition s =
         if s.inputs.tco.level then some .tco
         else if s.inputs.drvflt.level then some .drvflt
         else if 2 ≤ [Fan.ls, .oe, .ex].countP (fun f => decide ((s.fan.fans.get f).state = .failed)) then some .fans
         else none)
     ∧ (∀ b : Bool, b ≠ s.prot.lightRequest →
       exec (.light .a (.form (if b then 1 else 0))) s = .next (replied .a 0x94#8 .ok (flag (on b)) s { s with
         prot := { s.prot with
           lightRequest := b, lsen := on b,
           afterrun := if b = true ∨ s.set.prot.afterrun = 0 then none else some s.set.prot.afterrun,
           afterrunWait := if b = true then 0 else (10 * s.set.prot.afterrun - 1).toNat } }))
     ∧ (∀ b : Bool, b = s.prot.lightRequest →
       exec (.light .a (.form (if b then 1 else 0))) s = .next (replied .a 0x94#8 .ok (flag s.prot.lsen) s s))
     ∧ (s.prot.trip = none → exec (.clearTrip .a (.form ())) s = .next (replied .a 0x95#8 .ok [] s s))
     ∧ (s.prot.trip ≠ none → hotCondition s = none →
       exec (.clearTrip .a (.form ())) s = .next (replied .a 0x95#8 .ok [] s { s with
         prot := { s.prot with
           trip := none, allowance := s.set.prot.floor, lsen := s.prot.lightRequest && s.prot.startup } }))
     ∧ (∀ c, s.prot.trip ≠ none → hotCondition s = some c →
       exec (.clearTrip .a (.form ())) s = .next (replied .a 0x95#8 .hot
         [match c with
           | .channel k => BitVec.ofNat 8 k.val
           | .tco => 0x10#8
           | .drvflt => 0x11#8
           | .fans => 0x12#8] s s)))
  ∧ (∀ (p : Port) (s : State),
       (canUse p .config s →
         (∀ f r g a : Int, 200 ≤ f → f ≤ 800 → 10 ≤ r → r ≤ 1000 → 0 ≤ g → g ≤ 255 → 0 ≤ a → a ≤ 300 →
           exec (.protSetParams p (.form ⟨f, r, g, a⟩)) s =
             .next (replied p 0x90#8 .ok [] s { taken p s with
               set := { s.set with prot := ⟨f, r, g, a⟩ },
               prot := { s.prot with
                 allowance := if s.prot.trip = none ∧ s.prot.allowance < f then f else s.prot.allowance } }))
         ∧ (∀ (c : Fin 7) (a b : Int), -400 ≤ a → b ≤ 1500 → a + 50 ≤ b →
           exec (.protSetThresholds p (.form ⟨c.val, a, b⟩)) s =
             .next (replied p 0x91#8 .ok [] s { taken p s with
               set := { s.set with thresholds := s.set.thresholds.set c ⟨a, b⟩ } })))
       ∧ (canUse p .none s →
         let q := s.prot
         let status (left : Nat) : List Byte :=
           s16 q.allowance ++ s16 q.raw ++ s16 q.channelTerm ++ u8 ((q.termChannel.map Fin.val).getD 0xFF)
             ++ s16 q.shortfallDerate ++ flag q.trip.isSome ++ opt8 (q.trip.map TripCause.code)
             ++ flag q.lightRequest ++ flag q.startup ++ flag q.lsen ++ flag q.afterrun.isSome ++ u16 left
             ++ flag s.inputs.tco.level ++ flag s.inputs.drvflt.level ++ u8 q.failedSeen ++ u8 q.faultSeen
         exec (.protReadSettings p (.form ())) s = .next (replied p 0x93#8 .ok
           ((s.set.thresholds.toList.flatMap fun g => s16 g.ts ++ s16 g.tt)
             ++ s16 s.set.prot.floor ++ s16 s.set.prot.rise ++ s8 s.set.prot.gain ++ s16 s.set.prot.afterrun)
           s (taken p s))
         ∧ (s.prot.afterrun = none →
           exec (.protStatus p (.form ())) s = .next (replied p 0x92#8 .ok (status 0) s (taken p s)))
         ∧ (∀ t : Int, s.prot.afterrun = some t → ∃ n left : Nat, left ≤ t.toNat ∧
           exec (.protStatus p (.form ())) s =
             .next (replied p 0x92#8 .ok (status left) s { taken p s with freeCount := n }))))

/-- Only LIGHT and the resets change the light request; only CLEAR_TRIP and the resets end a latched trip; and the
two commands act from Port A alone (09 R161, R162; 10 R174). -/
def Obligations.LightAndTripOwners : Prop :=
  ∀ (i : Instr) (s t : State), exec i s = .next t →
    let reset : Prop := i = .powerOnReset ∨ i = .powerLoss ∨ i = .rstnLow ∨ i = .rstnRise ∨ i = .reset .a (.form ())
    (t.prot.lightRequest ≠ s.prot.lightRequest → reset ∨ ∃ v, i = .light .a v)
    ∧ (s.prot.trip ≠ none → t.prot.trip ≠ s.prot.trip → reset ∨ ∃ v, i = .clearTrip .a v)

/-! ## Port Unit (10) -/

/-- Port A holds every right, and Port B those of its rights set, none of which opens what is reserved to the System
Port (10 R174). A control-port command of Port B whose parameters match a form and whose right Port B does not hold is
answered DENIED, and changes nothing but the frame count, the receiver and the transmit queue (10 R173, R174; the
rights that each command needs are 10, section 10.8; a vertex edit with no known selector or flag is refused before
its right is looked at, log 18). That the reply of a vertex edit is empty here too is the model's choice (log 18). -/
def Obligations.Denied : Prop :=
  (∀ r : Rights, (∀ n, mayUse r .a n = true) ∧ mayUse r .b .none = true ∧ mayUse r .b .motion = r.motion
    ∧ mayUse r .b .geometry = r.geometry ∧ mayUse r .b .cooling = r.cooling ∧ mayUse r .b .config = r.config
    ∧ mayUse r .b .store = r.store ∧ mayUse r .b .systemPort = false)
  ∧ ∀ (i : Instr) (c : Control) (s : State), controlOf i = some c → c.port = .b → c.fits = true →
    s.deaf = false → s.port.tx.length < 4 → mayUse s.set.rights .b c.need = false →
    exec i s = .next (replied .b c.id .denied [] s (taken .b s))

/-- The part is deaf while it is held in reset and while its store loads (10 R168, R170; 11 R187), and a frame of Port
B that passes its check advances the frame count (10 R170). What no unit sees: parameters that match no form are RANGE
with nothing changed; a deaf part takes no control-port command; a frame of Port B that finds 4 frames waiting is
discarded with its frame count advanced (10 R172, R173; 11 R187). That the reply of a vertex edit of a wrong number of
bytes is empty is the model's choice (log 18). -/
def Obligations.Untaken : Prop :=
  (∀ s : State, (s.deaf = true ↔ s.rstLow = true ∨ s.powerOff = true ∨ s.store.state = .loading)
    ∧ taken .a s = s ∧ taken .b s = countFrame s
    ∧ countFrame s =
      { s with port := { s.port with frameCount := (s.port.frameCount + 1) % 256, rx := .hunt } })
  ∧ ∀ (i : Instr) (c : Control) (s : State), controlOf i = some c →
    (s.deaf = true → exec i s = .next s)
    ∧ (s.deaf = false → c.fits = false → (c.port = .b → s.port.tx.length < 4) →
      exec i s = .next (replied c.port c.id .range [] s (taken c.port s)))
    ∧ (s.deaf = false → c.port = .b → 4 ≤ s.port.tx.length → exec i s = .next (countFrame s))

/-- Values out of range are RANGE, with nothing changed: the ranges of the setting, edit and read commands of every
unit, and a jog direction of the wrong kind for its axis (01 R2, R3, R16, R17; 02 R26, R30; 03 R46 to R50; 04 R58, R63
to R65; 06 R104, R107 to R110; 07 R125 to R127, R131; 08 R143 to R146, R148; 09 R155, R156, R162; 10 R173, R174, R176;
11 R186). The reply of a vertex edit carries the entry; an edit that names a vertex outside the mesh has none to
carry, and its reply is empty, also when it has no known selector or flag: the model's choice (log 18), as it is that
FAN_SET_BINDING with an unknown fan is RANGE (log 37). -/
def Obligations.Ranges : Prop :=
  ∀ (p : Port) (s : State),
    let no (i : Instr) (id : Byte) : Prop := exec i s = .next (replied p id .range [] s (taken p s))
    let out (lo hi v : Int) : Prop := v < lo ∨ hi < v
    (canUse p .config s →
      (∀ l : List Nat, (l = [] ∨ 16 < l.length ∨ ∃ k ∈ l, 9 < k) → no (.smpSetRound p (.form l)) 0x10#8)
      ∧ (∀ m n d t : Nat, (1 < m ∨ out 1 16 n ∨ 10000 < d ∨ out 5 1000 t) →
        no (.smpSetTrigger p (.form ⟨m, n, d, t⟩)) 0x11#8)
      ∧ (∀ (k : Nat) (l : List Int), (3 < k ∨ ∃ v ∈ l, out (-400) 1500 v) → no (.smpSetTable p (.form ⟨k, l⟩)) 0x12#8)
      ∧ (∀ c k : Nat, (6 < c ∨ 3 < k) → no (.smpSetChannel p (.form (.temp c k))) 0x13#8)
      ∧ (∀ c z k : Nat, (out 7 9 c ∨ 4095 < z ∨ out 1 1023 k) → no (.smpSetChannel p (.form (.angle c z k))) 0x13#8)
      ∧ (∀ m : Nat, 127 < m → no (.smpClearPeak p (.form m)) 0x14#8)
      ∧ (∀ d z t r : Int, (out 5 100 d ∨ out (-9000) 9000 z ∨ out 1000 8000 t ∨ out 100 3000 r) →
        no (.attSetParams p (.form ⟨d, z, t, r⟩)) 0x22#8)
      ∧ (∀ w h : Int, (out 1280 4096 w ∨ out 720 2400 h) → no (.geoSetPanel p (.form ⟨w, h⟩)) 0x36#8)
      ∧ (∀ l : List Nat, (∃ k ∈ l, 1023 < k) → no (.geoSetZoomTable p (.form l)) 0x37#8)
      ∧ (∀ a : AxisArgs, (3 < a.axis ∨ out 1000 65000 a.travel ∨ out 50 5000 a.startSpeed
          ∨ out a.startSpeed 20000 a.maxSpeed ∨ out 500 100000 a.accel ∨ out 50 a.startSpeed a.homingSpeed
          ∨ 255 < a.backlash ∨ 1 < a.approach ∨ a.travel < a.indexPos ∨ out 4 255 a.indexTol ∨ 1000 < a.settle) →
        no (.axisSetParams p (.form a)) 0x53#8)
      ∧ (∀ t : Nat, out 100 1000 t → no (.axisSetJog p (.form t)) 0x54#8)
      ∧ (∀ n : Nat, 9 < n → n ≠ 255 → no (.memSetPoweron p (.form n)) 0x73#8)
      ∧ (∀ (e : Nat) (k t l d : Int), (1 < e ∨ out (-255) 255 k ∨ out (-400) 1500 t ∨ out 0 2000 l ∨ out 1 255 d) →
        no (.fcSet p (.form ⟨e, k, t, l, d⟩)) 0x78#8)
      ∧ (∀ (n : Nat) (l : List CurvePoint), (2 < n ∨ curveOk l = false) → no (.fanSetCurve p (.form ⟨n, l⟩)) 0x82#8)
      ∧ (∀ (n : Nat) (l : List Nat), (2 < n ∨ l = [] ∨ ¬ l.Nodup ∨ ∃ c ∈ l, 6 < c) →
        no (.fanSetBinding p (.form ⟨n, l⟩)) 0x83#8)
      ∧ (∀ (n : Nat) (a b c : Int), (2 < n ∨ out 150 600 a ∨ (b ≠ 0 ∧ out a 1000 b) ∨ out 60 3000 c) →
        no (.fanSetParams p (.form ⟨n, a, b, c⟩)) 0x84#8)
      ∧ (∀ (c : Nat) (a b : Int), (6 < c ∨ out (-200) 200 a ∨ out (-200) 200 b) →
        no (.fanSetOffsets p (.form ⟨c, a, b⟩)) 0x85#8)
      ∧ (∀ v : Int, out 1 1000 v → no (.fanSetSlew p (.form v)) 0x86#8)
      ∧ (∀ f r g a : Int, (out 200 800 f ∨ out 10 1000 r ∨ out 0 255 g ∨ out 0 300 a) →
        no (.protSetParams p (.form ⟨f, r, g, a⟩)) 0x90#8)
      ∧ (∀ (c : Nat) (a b : Int), (6 < c ∨ out (-400) 1500 a ∨ out (-400) 1500 b ∨ b - a < 50) →
        no (.protSetThresholds p (.form ⟨c, a, b⟩)) 0x91#8)
      ∧ (∀ n : Nat, 1 < n → no (.setAutohome p (.form n)) 0xB1#8))
    ∧ (canUse p .geometry s →
      (∀ n : Nat, 2 < n → no (.attSetOrientation p (.form n)) 0x21#8)
      ∧ (∀ (c : Nat) (d : Pt), 3 < c → no (.geoSetCorner p (.form ⟨c, d⟩)) 0x30#8)
      ∧ (∀ (c : Nat) (d : Pt), (3 < c ∨ out (-30720) 30720 d.x ∨ out (-30720) 30720 d.y) →
        no (.geoNudgeCorner p (.form ⟨c, d⟩)) 0x32#8)
      ∧ (∀ n : Nat, 1 < n → no (.geoSetMode p (.form n)) 0x34#8 ∧ no (.geoSetFollow p (.form n)) 0x35#8
        ∧ no (.fwEnable p (.form n)) 0x45#8)
      ∧ (∀ (i j : Nat) (v : Comps) (e : Option Comps), (16 < i ∨ 8 < j) →
        no (.fwSet p (.form ⟨i, j, v, e⟩)) 0x40#8 ∧ no (.fwNudge p (.form ⟨i, j, v, e⟩)) 0x41#8
          ∧ ∀ k, no (.fwZero p (.form ⟨i, j, k, e⟩)) 0x42#8)
      ∧ (∀ (i j : Nat) (v : Comps) (e : Option Comps), i ≤ 16 → j ≤ 8 →
        (match v with
          | .x d | .y d => out (-4096) 4096 d
          | .both d d' => out (-4096) 4096 d ∨ out (-4096) 4096 d') →
        exec (.fwNudge p (.form ⟨i, j, v, e⟩)) s =
          .next (replied p 0x41#8 .range (ptBytes (meshAt s.set.layer i j)) s (taken p s)))
      ∧ (∀ n : Nat, 2048 < n → no (.fwSetLimit p (.form n)) 0x44#8))
    ∧ (canUse p .motion s →
      (∀ a : JogArgs,
        (3 < a.axis ∨ out 1 4 a.level ∨ (match a.axis with
          | 0 => out 0 1 a.dir
          | 1 => out 2 3 a.dir
          | _ => out 4 5 a.dir)) → no (.jog p (.form a)) 0x50#8)
      ∧ (∀ n : Nat, 3 < n → no (.jogEnd p (.form n)) 0x51#8)
      ∧ (∀ m : Nat, out 1 15 m → no (.stop p (.form m)) 0x52#8)
      ∧ (∀ n : Nat, 9 < n → no (.memDelete p (.form n)) 0x71#8)
      ∧ (∀ (n f : Nat) (l : List Byte),
        (9 < n ∨ 3 < f ∨ (f = 2 ∨ f = 3) ∧ (l = [] ∨ 12 < l.length ∨ ∃ c ∈ l, out 32 126 c.toNat)) →
        no (.memSave p (.form ⟨n, f, l⟩)) 0x70#8))
    ∧ (canUse p .cooling s →
      (∀ n : Nat, 1 < n → no (.fanSetQuiet p (.form n)) 0x80#8) ∧ ∀ m : Nat, 7 < m → no (.fanClear p (.form m)) 0x81#8)
    ∧ (canUse p .none s →
      (∀ i j : Nat, (16 < i ∨ 8 < j) → no (.fwSet p (.noForm i j)) 0x40#8 ∧ no (.fwNudge p (.noForm i j)) 0x41#8
        ∧ no (.fwZero p (.noForm i j)) 0x42#8)
      ∧ (∀ n : Nat, 9 < n → no (.smpReadChannel p (.form n)) 0x15#8 ∧ no (.memRead p (.form n)) 0x72#8)
      ∧ (∀ n : Nat, 8 < n → no (.fwRead p (.form n)) 0x46#8)
      ∧ (∀ n : Nat, 3 < n → no (.axisReadParams p (.form n)) 0x56#8)
      ∧ (∀ n : Nat, 2 < n → no (.fanReadSettings p (.form n)) 0x88#8)
      ∧ (∀ n : Nat, 16384 ≤ n → no (.setEventMask p (.form n)) 0xA1#8)
      ∧ (p = .a → (∀ n : Nat, 1 < n → no (.light p (.form n)) 0x94#8)
        ∧ ∀ n : Nat, 32 ≤ n → no (.setRights p (.form n)) 0xA4#8))

/-- The CRC-8: its recurrence bit by bit, most significant first, from 0; its two worked values; the frames it closes
and the frames it admits (10 R171). -/
def Obligations.Crc8 : Prop :=
  let bit (c : BitVec 8) : BitVec 8 := if c.getLsbD 7 then (c <<< 1) ^^^ 0x07#8 else c <<< 1
  crc8 [] = 0x00#8
  ∧ (∀ (l : List Byte) (b : Byte), crc8 (l ++ [b]) = bit (bit (bit (bit (bit (bit (bit (bit (crc8 l ^^^ b)))))))))
  ∧ crc8 [0x31#8, 0x32#8, 0x33#8, 0x34#8, 0x35#8, 0x36#8, 0x37#8, 0x38#8, 0x39#8] = 0xF4#8
  ∧ crc8 [0x01#8] = 0x07#8 ∧ crc8 [0x01#8, 0x10#8] = 0x65#8
  ∧ (∀ (s : State) (f : TxFrame) (rest : List TxFrame), s.port.tx = f :: rest → ∃ t pay,
    exec .txFrameSent s = .next t
      ∧ t.port.lastSent = [0xA5#8, BitVec.ofNat 8 pay.length] ++ pay ++ [crc8 (BitVec.ofNat 8 pay.length :: pay)])
  ∧ (∀ (s : State) (b : Byte) (n : Nat) (got : List Byte), s.deaf = false → s.port.rx = .check n got →
    b ≠ crc8 (BitVec.ofNat 8 n :: got) →
    ∃ t, exec (.uartByteReceived b true) s = .next t ∧ t.port.frameCount = s.port.frameCount)

/-- The payload of a notice: 0x02, the number of kinds of Port B's event set that are not masked, their codes in the
order of raising, and the reset cause when RESET is among them (10 R178; 12 R191). TX_FRAME_SENT: the head of the
transmit queue leaves, its bytes framed with length and CRC-8, an owed notice joins; a notice takes its contents when
it begins, which for one that no earlier step has begun is this arrival: the model's choice (log 1). With an empty
queue nothing happens: that an arrival which cannot arise changes nothing is the model's reading (log 2).
INTERBYTE_GAP_EXPIRY returns the receiver to HUNT. I2C_WRITE_OVERFLOW places BAD_FRAME with no command identifier, and
UNKNOWN_COMMAND answers UNKNOWN (10 R168, R170, R172, R173, R178). -/
def Obligations.Transmitter : Prop :=
  ∀ s : State,
    let u := s.port
    let sent (rest : List TxFrame) (pay : List Byte) : State := { s with port := { u with
      tx := if u.owed then rest ++ [.notice none] else rest, owed := false,
      lastSent := [0xA5#8, BitVec.ofNat 8 pay.length] ++ pay ++ [crc8 (BitVec.ofNat 8 pay.length :: pay)] } }
    let kinds := u.events.b.kinds.filter fun k => decide (k ∉ u.masks.b)
    let notice (cause : List Byte) : List Byte :=
      [0x02#8, BitVec.ofNat 8 kinds.length] ++ kinds.map (fun k => BitVec.ofNat 8 k.code) ++ cause
    (.reset ∉ kinds → u.noticePayload = notice [])
    ∧ (∀ c, .reset ∈ kinds → u.events.b.cause = some c →
      u.noticePayload = notice [match c with | .power => 0x01#8 | .pin => 0x02#8 | .command => 0x03#8])
    ∧ (u.tx = [] → exec .txFrameSent s = .next s)
    ∧ (∀ pay b rest, u.tx = .response pay b :: rest → exec .txFrameSent s = .next (sent rest pay))
    ∧ (∀ pay rest, u.tx = .notice (some pay) :: rest → exec .txFrameSent s = .next (sent rest pay))
    ∧ (∀ rest, u.tx = .notice none :: rest → exec .txFrameSent s = .next (sent rest u.noticePayload))
    ∧ exec .interbyteGapExpiry s = .next { s with port := { u with rx := .hunt } }
    ∧ (s.deaf = false → exec .i2cWriteOverflow s =
        .next { s with port := { u with bufA := ⟨(u.bufA.seq + 1) % 256, none, .badFrame, []⟩ } })
    ∧ (∀ (p : Port) (id : Byte), canUse p .none s → knownId id = false →
      exec (.unknownCommand p id) s = .next (replied p id .unknown [] s (taken p s)))

/-- The bytes of a reply's fields: most significant byte first, two's complement, a field with an absent flag as its
value, 0 when absent, and the flag, a set as a mask with bit k for its member k, the axis or fan that a code names,
and the codes of the enumerations (chapter 12, before 12.1; the code of a truth value is the model's choice, log 17).
The reply of a command. At Port A it replaces the response buffer, the sequence number one up modulo 256, with the
command's identifier, its status and its data. At Port B a response frame joins the transmit queue: 0x01, the frame
count with this command, the identifier, the status and the data; where a notice that joined during the command has
filled the queue, the notice gives way and is owed: the model's choice (log 6). A read at the System Port returns the
sequence number, the identifier or 0x00, the status, the data length and the data, and 0xFF for every byte beyond; a
deaf part answers no read. Every command that Port A sends and the part takes, RESET apart, is answered so, whatever
it asks (10 R169, R172, R173; 12 R191). -/
def Obligations.Replies : Prop :=
  ((∀ n : Nat, u8 n = [BitVec.ofNat 8 n] ∧ u16 n = [BitVec.ofNat 8 (n / 256), BitVec.ofNat 8 n]
       ∧ u24 n = [BitVec.ofNat 8 (n / 65536), BitVec.ofNat 8 (n / 256), BitVec.ofNat 8 n]
       ∧ u32 n = [BitVec.ofNat 8 (n / 16777216), BitVec.ofNat 8 (n / 65536), BitVec.ofNat 8 (n / 256), BitVec.ofNat 8 n])
   ∧ (∀ i : Int, s8 i = [BitVec.ofInt 8 i]
       ∧ s16 i = [BitVec.extractLsb' 8 8 (BitVec.ofInt 16 i), BitVec.extractLsb' 0 8 (BitVec.ofInt 16 i)]
       ∧ s24 i = [BitVec.extractLsb' 16 8 (BitVec.ofInt 24 i), BitVec.extractLsb' 8 8 (BitVec.ofInt 24 i),
           BitVec.extractLsb' 0 8 (BitVec.ofInt 24 i)])
   ∧ flag true = [0x01#8] ∧ flag false = [0x00#8]
   ∧ (∀ n : Nat, opt8 (some n) = u8 n ++ [0x00#8]) ∧ opt8 none = [0x00#8, 0x01#8]
   ∧ (∀ i : Int, opt16 (some i) = s16 i ++ [0x00#8]) ∧ opt16 none = [0x00#8, 0x00#8, 0x01#8]
   ∧ (∀ (n : Nat) (v : Vector Bool n) (k : Nat), (maskOf v).testBit k = v[k]?.getD false)
   ∧ (∀ (v : PerAxis Bool) (x : Axis), (axesOfMask (axesMask v)).get x = v.get x ∧ axesMask v < 16)
   ∧ (∀ (l : List EventKind) (k : EventKind), (eventMaskOf l).testBit (k.code - 1) = l.contains k)
   ∧ (∀ r : Rights, Rights.ofMask r.mask = r ∧ r.mask < 32)
   ∧ (∀ n : Nat, axisOf n = [Axis.shiftH, .shiftV, .zoom, .focus][n]? ∧ fanOf n = [Fan.ls, .oe, .ex][n]?)
   ∧ (∀ m : Nat, (namesFan m .ls = m.testBit 0 ∧ namesFan m .oe = m.testBit 1 ∧ namesFan m .ex = m.testBit 2)
     ∧ ∀ k : EventKind, k ∈ eventsNamed m ↔ m.testBit (k.code - 1) = true))
  ∧ (([Validity.new, .valid, .fault].map Validity.code = [0, 1, 2])
    ∧ [TrigMode.sync, .free].map TrigMode.code = [0, 1]
    ∧ [TrigState.syncLocked, .syncFallback, .freeRun].map TrigState.code = [0, 1, 2]
    ∧ [OrientSetting.floor, .ceiling, .auto].map OrientSetting.code = [0, 1, 2]
    ∧ [Orientation.floor, .ceiling].map Orientation.code = [0, 1] ∧ [Comp.x, .y].map Comp.code = [0, 1]
    ∧ [Corner.tl, .tr, .bl, .br].map cornerCode = [0, 1, 2, 3] ∧ [StepDir.positive, .negative].map stepDirCode = [0, 1]
    ∧ [Port.a, .b].map portCode = [0, 1] ∧ [BankId.a, .b].map BankId.code = [0, 1]
    ∧ [BankState.empty, .writing, .ready, .live, .reading].map BankState.code = [0, 1, 2, 3, 4]
    ∧ [AxisState.unhomed, .homing, .idle, .moving, .jog, .settling, .lost, .fault].map AxisState.code =
        [0, 1, 2, 3, 4, 5, 6, 7]
    ∧ [Leg.none, .leg1, .leg2, .stopping, .release, .seek, .run, .hold].map Leg.code = [0, 1, 2, 3, 4, 5, 6, 7]
    ∧ [FaultReason.none, .homeTimeout, .driver].map FaultReason.code = [0, 1, 2]
    ∧ [Source.portA, .portB, .comp, .start].map Source.code = [0, 1, 2, 3]
    ∧ [Kind.move, .step, .home, .recall, .comp].map Kind.code = [0, 1, 2, 3, 4]
    ∧ [Machine.Outcome.done, .doneNoGeometry, .geomRefused, .aborted, .fault, .emptySlot].map Machine.Outcome.code =
        [0, 1, 2, 3, 4, 5]
    ∧ [FanState.off, .spinup, .running, .stalled, .failed].map FanState.code = [0, 1, 2, 3, 4]
    ∧ (∀ c : Fin 7, (TripCause.channel c).code = c.val)
    ∧ [TripCause.tco, .drvflt, .fans].map TripCause.code = [0x10, 0x11, 0x12]
    ∧ [ResetCause.power, .pin, .command].map ResetCause.code = [1, 2, 3]
    ∧ [StoreState.loading, .idle, .busy].map StoreState.code = [0, 1, 2]
    ∧ [LoadResult.loaded, .defaultsCheck, .defaultsRange].map LoadResult.code = [0, 1, 2]
    ∧ [Status.ok, .okClamped, .busy, .denied, .range, .notHomed, .notReady, .limit, .stale, .shape, .full, .hot, .emptySlot,
        .badFrame, .unknown].map Status.code = List.range 15
    ∧ [EventKind.motionDone, .motionFault, .geometryRefused, .clip, .attitudeLimit, .orientationChanged, .mountRoll,
        .thermalWarn, .thermalTrip, .fanFault, .sensorFault, .storeDone, .storeError, .reset].map EventKind.code =
        (List.range 14).map (· + 1))
  ∧ (∀ (id : Byte) (k : Status) (d : List Byte) (s t : State),
     let pay : List Byte := [0x01#8, BitVec.ofNat 8 ((s.port.frameCount + 1) % 256), id, BitVec.ofNat 8 k.code] ++ d
     replied .a id k d s t =
       { t with port := { t.port with bufA := ⟨(t.port.bufA.seq + 1) % 256, some id, k, d⟩ } }
     ∧ (t.port.tx.length < 4 → replied .b id k d s t =
       { t with port := { t.port with tx := t.port.tx ++ [.response pay false] } })
     ∧ (t.port.tx.length = 4 → (∃ f ∈ t.port.tx, f.waitingNotice = true) → replied .b id k d s t =
       { t with port := { t.port with
         tx := (t.port.tx.filter fun f => !f.waitingNotice) ++ [.response pay false], owed := true } }))
  ∧ (∀ (s : State) (n : Nat),
       let r := s.port.bufA
       let reply : List Byte := [BitVec.ofNat 8 r.seq, r.id.getD 0x00#8, BitVec.ofNat 8 r.status.code,
         BitVec.ofNat 8 r.data.length] ++ r.data
       (s.deaf = true → systemRead n s = none)
       ∧ (s.deaf = false → ∃ l, systemRead n s = some l ∧ l.length = n ∧ ∀ k, k < n →
         l[k]? = if k < reply.length then reply[k]? else some 0xFF#8))
  ∧ (∀ (i : Instr) (c : Control) (s : State), controlOf i = some c → c.port = .a → s.deaf = false →
       i ≠ .reset .a (.form ()) →
       ∃ t, exec i s = .next t ∧ t.port.bufA.seq = (s.port.bufA.seq + 1) % 256 ∧ t.port.bufA.id = some c.id)

/-- The command that an identifier and its parameter bytes spell: for every identifier of R190 its command, with the
values that the bytes carry when their number is the form's, and the mark of a misfit with any other number; an edit
whose flag is no flag has no form of its own, the vertex being kept (10 R173; 12 R190; log 18); an identifier outside
the table is that of no command (12 R190). The receiver of Port B: 0xA5 starts a frame, a length from 1 to 60 its
payload, and the payload its check byte; a matching CRC-8 hands the command over, which then acts as its own row does;
a length out of range or a check byte that does not match is answered BAD_FRAME, or by nothing while 4 frames wait, and
the receiver is in HUNT either way; a framing error abandons the frame (10 R170, R171, R172). A byte that arrives while
the part is deaf is discarded (10 R170; 11 R187). -/
def Obligations.ReceiverStates : Prop :=
  (∀ p : Port,
     let w (a b : Byte) : Nat := 256 * a.toNat + b.toNat
     let z (a b : Byte) : Int := (a ++ b : BitVec 16).toInt
     let pairs (q : List (Byte × Byte)) : List Byte := q.flatMap fun v => [v.1, v.2]
     let one (id : Byte) (n : Nat) (no : Instr) : Prop := ∀ l : List Byte, l.length ≠ n → commandOf p id l = no
     (∀ c ∈ [(0x16#8, Instr.smpStatus), (0x20#8, .captureLevel), (0x23#8, .attStatus), (0x33#8, .geoZeroCorners),
         (0x38#8, .geoClearClip), (0x39#8, .geoStatus), (0x43#8, .fwZeroAll), (0x47#8, .meshStatus),
         (0x55#8, .axisStatus), (0x64#8, .flush), (0x65#8, .mqStatus), (0x66#8, .mqOutcomes), (0x79#8, .fcStatus),
         (0x87#8, .fanStatus), (0x92#8, .protStatus), (0x93#8, .protReadSettings), (0x95#8, .clearTrip),
         (0xA0#8, .readEvents), (0xA2#8, .ident), (0xA3#8, .portStatus), (0xB0#8, .storeStatus), (0xB2#8, .saveSettings),
         (0xB3#8, .reset)],
       commandOf p c.1 [] = c.2 p (.form ()) ∧ one c.1 0 (c.2 p .misfit))
     ∧ (∀ c ∈ [(0x15#8, Instr.smpReadChannel), (0x21#8, .attSetOrientation), (0x34#8, .geoSetMode),
         (0x35#8, .geoSetFollow), (0x45#8, .fwEnable), (0x46#8, .fwRead), (0x51#8, .jogEnd), (0x52#8, .stop),
         (0x56#8, .axisReadParams), (0x71#8, .memDelete), (0x72#8, .memRead), (0x73#8, .memSetPoweron),
         (0x80#8, .fanSetQuiet), (0x81#8, .fanClear), (0x88#8, .fanReadSettings), (0x94#8, .light), (0xA4#8, .setRights),
         (0xB1#8, .setAutohome)],
       (∀ a, commandOf p c.1 [a] = c.2 p (.form a.toNat)) ∧ one c.1 1 (c.2 p .misfit))
     ∧ (∀ c ∈ [(0x14#8, Instr.smpClearPeak), (0x44#8, .fwSetLimit), (0x54#8, .axisSetJog), (0xA1#8, .setEventMask)],
       (∀ a b, commandOf p c.1 [a, b] = c.2 p (.form (w a b))) ∧ one c.1 2 (c.2 p .misfit))
     ∧ (∀ c ∈ [(0x62#8, Instr.mqHome), (0x63#8, .mqRecall)],
       (∀ a b, commandOf p c.1 [a, b] = c.2 p (.form ⟨a.toNat, b.toNat⟩)) ∧ one c.1 2 (c.2 p .misfit))
     ∧ (∀ c ∈ [(0x30#8, Instr.geoSetCorner), (0x32#8, .geoNudgeCorner)],
       (∀ k a b c' d, commandOf p c.1 [k, a, b, c', d] = c.2 p (.form ⟨k.toNat, z a b, z c' d⟩))
         ∧ one c.1 5 (c.2 p .misfit))
     ∧ ((∀ (n : Byte) (l : List Byte), commandOf p 0x10#8 (n :: l) =
           if l.length = n.toNat then .smpSetRound p (.form (l.map BitVec.toNat)) else .smpSetRound p .misfit)
       ∧ commandOf p 0x10#8 [] = .smpSetRound p .misfit)
     ∧ ((∀ m n a b c d, commandOf p 0x11#8 [m, n, a, b, c, d] =
           .smpSetTrigger p (.form ⟨m.toNat, n.toNat, w a b, w c d⟩)) ∧ one 0x11#8 6 (.smpSetTrigger p .misfit))
     ∧ ((∀ (t : Byte) (q : List (Byte × Byte)), q.length = 17 → commandOf p 0x12#8 (t :: pairs q) =
           .smpSetTable p (.form ⟨t.toNat, q.map fun v => z v.1 v.2⟩)) ∧ one 0x12#8 35 (.smpSetTable p .misfit))
     ∧ ((∀ k t, commandOf p 0x13#8 [k, t] = .smpSetChannel p (.form (.temp k.toNat t.toNat)))
       ∧ (∀ k a b c d, commandOf p 0x13#8 [k, a, b, c, d] = .smpSetChannel p (.form (.angle k.toNat (w a b) (w c d))))
       ∧ ∀ l : List Byte, l.length ≠ 2 → l.length ≠ 5 → commandOf p 0x13#8 l = .smpSetChannel p .misfit)
     ∧ ((∀ a b c d e f g h, commandOf p 0x22#8 [a, b, c, d, e, f, g, h] =
           .attSetParams p (.form ⟨w a b, z c d, w e f, w g h⟩)) ∧ one 0x22#8 8 (.attSetParams p .misfit))
     ∧ ((∀ a b c d e f g h i j k l m n o q, commandOf p 0x31#8 [a, b, c, d, e, f, g, h, i, j, k, l, m, n, o, q] =
           .geoSetCorners p (.form ⟨⟨z a b, z c d⟩, ⟨z e f, z g h⟩, ⟨z i j, z k l⟩, ⟨z m n, z o q⟩⟩))
       ∧ one 0x31#8 16 (.geoSetCorners p .misfit))
     ∧ ((∀ a b c d, commandOf p 0x36#8 [a, b, c, d] = .geoSetPanel p (.form ⟨w a b, w c d⟩))
       ∧ one 0x36#8 4 (.geoSetPanel p .misfit))
     ∧ ((∀ q : List (Byte × Byte), q.length = 8 → commandOf p 0x37#8 (pairs q) =
           .geoSetZoomTable p (.form (q.map fun v => w v.1 v.2))) ∧ one 0x37#8 16 (.geoSetZoomTable p .misfit))
     ∧ ((∀ x d l, commandOf p 0x50#8 [x, d, l] = .jog p (.form ⟨x.toNat, d.toNat, l.toNat⟩))
       ∧ one 0x50#8 3 (.jog p .misfit))
     ∧ ((∀ x t t' s s' m m' a a' a'' h h' b d i i' o e e', commandOf p 0x53#8
           [x, t, t', s, s', m, m', a, a', a'', h, h', b, d, i, i', o, e, e'] =
           .axisSetParams p (.form {
             axis := x.toNat, travel := w t t', startSpeed := w s s', maxSpeed := w m m',
             accel := (a ++ a' ++ a'' : BitVec 24).toNat, homingSpeed := w h h', backlash := b.toNat,
             approach := d.toNat, indexPos := w i i', indexTol := o.toNat, settle := w e e' }))
       ∧ one 0x53#8 19 (.axisSetParams p .misfit))
     ∧ ((∀ (s f : Byte), f.getLsbD 1 = false →
           commandOf p 0x70#8 [s, f] = .memSave p (.form ⟨s.toNat, f.toNat, []⟩)
           ∧ ∀ l : List Byte, l ≠ [] → commandOf p 0x70#8 (s :: f :: l) = .memSave p .misfit)
       ∧ (∀ (s f n : Byte) (l : List Byte), f.getLsbD 1 = true → commandOf p 0x70#8 (s :: f :: n :: l) =
           if l.length = n.toNat then .memSave p (.form ⟨s.toNat, f.toNat, l⟩) else .memSave p .misfit)
       ∧ (∀ s f : Byte, f.getLsbD 1 = true → commandOf p 0x70#8 [s, f] = .memSave p .misfit)
       ∧ ∀ l : List Byte, l.length < 2 → commandOf p 0x70#8 l = .memSave p .misfit)
     ∧ ((∀ e a b c d f g h, commandOf p 0x78#8 [e, a, b, c, d, f, g, h] =
           .fcSet p (.form ⟨e.toNat, z a b, z c d, w f g, h.toNat⟩)) ∧ one 0x78#8 8 (.fcSet p .misfit))
     ∧ ((∀ (k n : Byte) (q : List ((Byte × Byte) × Byte × Byte)), q.length = n.toNat →
           commandOf p 0x82#8 (k :: n :: q.flatMap fun v => [v.1.1, v.1.2, v.2.1, v.2.2]) =
             .fanSetCurve p (.form ⟨k.toNat, q.map fun v => ⟨z v.1.1 v.1.2, w v.2.1 v.2.2⟩⟩))
       ∧ (∀ (k n : Byte) (l : List Byte), l.length ≠ 4 * n.toNat →
           commandOf p 0x82#8 (k :: n :: l) = .fanSetCurve p .misfit)
       ∧ ∀ l : List Byte, l.length < 2 → commandOf p 0x82#8 l = .fanSetCurve p .misfit)
     ∧ ((∀ (k n : Byte) (l : List Byte), commandOf p 0x83#8 (k :: n :: l) =
           if l.length = n.toNat then .fanSetBinding p (.form ⟨k.toNat, l.map BitVec.toNat⟩)
           else .fanSetBinding p .misfit)
       ∧ ∀ l : List Byte, l.length < 2 → commandOf p 0x83#8 l = .fanSetBinding p .misfit)
     ∧ ((∀ k a b c d e f, commandOf p 0x84#8 [k, a, b, c, d, e, f] =
           .fanSetParams p (.form ⟨k.toNat, w a b, w c d, w e f⟩)) ∧ one 0x84#8 7 (.fanSetParams p .misfit))
     ∧ ((∀ k a b c d, commandOf p 0x85#8 [k, a, b, c, d] = .fanSetOffsets p (.form ⟨k.toNat, z a b, z c d⟩))
       ∧ one 0x85#8 5 (.fanSetOffsets p .misfit))
     ∧ ((∀ a b, commandOf p 0x86#8 [a, b] = .fanSetSlew p (.form (w a b))) ∧ one 0x86#8 2 (.fanSetSlew p .misfit))
     ∧ ((∀ a b c d e f g, commandOf p 0x90#8 [a, b, c, d, e, f, g] =
           .protSetParams p (.form ⟨w a b, w c d, e.toNat, w f g⟩)) ∧ one 0x90#8 7 (.protSetParams p .misfit))
     ∧ ((∀ k a b c d, commandOf p 0x91#8 [k, a, b, c, d] = .protSetThresholds p (.form ⟨k.toNat, z a b, z c d⟩))
       ∧ one 0x91#8 5 (.protSetThresholds p .misfit)))
  ∧ (∀ (p : Port) (m t : Byte),
     let n := ((List.range 4).filter fun k => m.getLsbD k).length
     (∀ q : List (Byte × Byte), q.length = n → commandOf p 0x60#8 (m :: t :: q.flatMap fun v => [v.1, v.2]) =
       .mqMove p (.form ⟨m.toNat, t.toNat, q.map fun v => ((256 * v.1.toNat + v.2.toNat : Nat) : Int)⟩))
     ∧ (∀ q : List (Byte × Byte × Byte), q.length = n →
       commandOf p 0x61#8 (m :: t :: q.flatMap fun v => [v.1, v.2.1, v.2.2]) =
         .mqStep p (.form ⟨m.toNat, t.toNat, q.map fun v => (v.1 ++ v.2.1 ++ v.2.2 : BitVec 24).toInt⟩))
     ∧ (∀ l : List Byte, (l.length ≠ 2 * n → commandOf p 0x60#8 (m :: t :: l) = .mqMove p .misfit)
       ∧ (l.length ≠ 3 * n → commandOf p 0x61#8 (m :: t :: l) = .mqStep p .misfit))
     ∧ ∀ l : List Byte, l.length < 2 →
       commandOf p 0x60#8 l = .mqMove p .misfit ∧ commandOf p 0x61#8 l = .mqStep p .misfit)
  ∧ (∀ (p : Port) (i j : Byte),
     let z (a b : Byte) : Int := (a ++ b : BitVec 16).toInt
     let edit (k f : Byte) (l : List Byte) (v : Comps) (e : Option Comps) : Prop :=
       ∀ c ∈ [(0x40#8, Instr.fwSet), (0x41#8, .fwNudge)],
         commandOf p c.1 (i :: j :: k :: f :: l) = c.2 p (.form ⟨i.toNat, j.toNat, v, e⟩)
     let zero (k f : Byte) (l : List Byte) (v : Selector) (e : Option Comps) : Prop :=
       commandOf p 0x42#8 (i :: j :: k :: f :: l) = .fwZero p (.form ⟨i.toNat, j.toNat, v, e⟩)
     (zero 0#8 0#8 [] .x none ∧ zero 1#8 0#8 [] .y none ∧ zero 2#8 0#8 [] .both none)
     ∧ (∀ a b c d : Byte,
       (edit 0#8 0#8 [a, b] (.x (z a b)) none ∧ edit 1#8 0#8 [a, b] (.y (z a b)) none
         ∧ edit 2#8 0#8 [a, b, c, d] (.both (z a b) (z c d)) none)
       ∧ (edit 0#8 1#8 [a, b, c, d] (.x (z a b)) (some (.x (z c d)))
         ∧ edit 1#8 1#8 [a, b, c, d] (.y (z a b)) (some (.y (z c d)))
         ∧ ∀ e f g h : Byte, edit 2#8 1#8 [a, b, c, d, e, f, g, h] (.both (z a b) (z c d))
           (some (.both (z e f) (z g h))))
       ∧ (zero 0#8 1#8 [a, b] .x (some (.x (z a b))) ∧ zero 1#8 1#8 [a, b] .y (some (.y (z a b)))
         ∧ zero 2#8 1#8 [a, b, c, d] .both (some (.both (z a b) (z c d)))))
     ∧ (∀ (k f : Byte) (l : List Byte), k.toNat ≤ 2 → f.toNat ≤ 1 →
       let v := if k = 2#8 then 4 else 2
       (l.length ≠ v + v * f.toNat → commandOf p 0x40#8 (i :: j :: k :: f :: l) = .fwSet p .misfit
         ∧ commandOf p 0x41#8 (i :: j :: k :: f :: l) = .fwNudge p .misfit)
       ∧ (l.length ≠ v * f.toNat → commandOf p 0x42#8 (i :: j :: k :: f :: l) = .fwZero p .misfit))
     ∧ (∀ (k f : Byte) (l : List Byte), 1 < f.toNat →
       commandOf p 0x40#8 (i :: j :: k :: f :: l) = .fwSet p (.noForm i.toNat j.toNat)
       ∧ commandOf p 0x41#8 (i :: j :: k :: f :: l) = .fwNudge p (.noForm i.toNat j.toNat)
       ∧ commandOf p 0x42#8 (i :: j :: k :: f :: l) = .fwZero p (.noForm i.toNat j.toNat))
     ∧ ∀ l : List Byte, (l.length < 3 ∨ ∃ k : Byte, k.toNat ≤ 2 ∧ l = [i, j, k]) →
       commandOf p 0x40#8 l = .fwSet p .misfit ∧ commandOf p 0x41#8 l = .fwNudge p .misfit
         ∧ commandOf p 0x42#8 l = .fwZero p .misfit)
  ∧ (∀ (p : Port) (id : Byte) (l : List Byte),
     let outside : Prop := id.toNat < 0x10 ∨ 0x17 ≤ id.toNat ∧ id.toNat < 0x20 ∨ 0x24 ≤ id.toNat ∧ id.toNat < 0x30
       ∨ 0x3A ≤ id.toNat ∧ id.toNat < 0x40 ∨ 0x48 ≤ id.toNat ∧ id.toNat < 0x50 ∨ 0x57 ≤ id.toNat ∧ id.toNat < 0x60
       ∨ 0x67 ≤ id.toNat ∧ id.toNat < 0x70 ∨ 0x74 ≤ id.toNat ∧ id.toNat < 0x78 ∨ 0x7A ≤ id.toNat ∧ id.toNat < 0x80
       ∨ 0x89 ≤ id.toNat ∧ id.toNat < 0x90 ∨ 0x96 ≤ id.toNat ∧ id.toNat < 0xA0 ∨ 0xA5 ≤ id.toNat ∧ id.toNat < 0xB0
       ∨ 0xB4 ≤ id.toNat
     (knownId id = false ↔ outside) ∧ (outside → commandOf p id l = .unknownCommand p id)
       ∧ (¬ outside → ∃ c, controlOf (commandOf p id l) = some c ∧ c.port = p ∧ c.id = id))
  ∧ (∀ (s : State) (b : Byte) (stop : Bool), s.deaf = true → exec (.uartByteReceived b stop) s = .next s)
  ∧ ∀ (s : State) (b : Byte), s.deaf = false →
    let rx (r : Receiver) : State := { s with port := { s.port with rx := r } }
    let bad : State := { s with port := { s.port with
      rx := .hunt, tx := s.port.tx ++ [.response [0x01#8, BitVec.ofNat 8 s.port.frameCount, 0x00#8, 0x0D#8] false] } }
    exec (.uartByteReceived b false) s = .next (rx .hunt)
    ∧ (s.port.rx = .hunt → b = 0xA5#8 → exec (.uartByteReceived b true) s = .next (rx .length))
    ∧ (s.port.rx = .hunt → b ≠ 0xA5#8 → exec (.uartByteReceived b true) s = .next s)
    ∧ (s.port.rx = .length → 1 ≤ b.toNat → b.toNat ≤ 60 →
      exec (.uartByteReceived b true) s = .next (rx (.payload b.toNat [])))
    ∧ (s.port.rx = .length → (b.toNat = 0 ∨ 60 < b.toNat) →
      exec (.uartByteReceived b true) s = .next (if s.port.tx.length < 4 then bad else rx .hunt))
    ∧ (∀ n got, s.port.rx = .payload n got → got.length + 1 < n →
      exec (.uartByteReceived b true) s = .next (rx (.payload n (got ++ [b]))))
    ∧ (∀ n got, s.port.rx = .payload n got → got.length + 1 = n →
      exec (.uartByteReceived b true) s = .next (rx (.check n (got ++ [b]))))
    ∧ (∀ n id rest, s.port.rx = .check n (id :: rest) → b = crc8 (BitVec.ofNat 8 n :: id :: rest) →
      exec (.uartByteReceived b true) s = exec (commandOf .b id rest) s)
    ∧ (∀ n got, s.port.rx = .check n got → b ≠ crc8 (BitVec.ofNat 8 n :: got) →
      exec (.uartByteReceived b true) s = .next (if s.port.tx.length < 4 then bad else rx .hunt))

/-- A kind that is raised joins the event sets of its ports, at their ends, when it is not pending there; ATTN_A
follows the unmasked set of Port A, and a notice falls due when that of Port B was empty: it joins the transmit queue,
or is owed when 4 frames wait (10 R175 to R178). READ_EVENTS returns the port's event set and mask and empties the
set, so that ATTN_A falls, or a waiting or owed notice is withdrawn; SET_EVENT_MASK replaces the mask, and ATTN_A and
the notice follow the unmasked set (10 R176 to R179). The states are those of the law of the Port Unit. IDENT returns
the vendor code 0x4547, the part code 0x0D07 and the silicon revision 3; PORT_STATUS reads; SET_RIGHTS from Port A
replaces the rights of Port B (10 R174, R180). Where 12 leaves the order, the width or the code of reply data open,
they are the model's choice (log 17). -/
def Obligations.EventsAndIdentity : Prop :=
  (∀ (u : PortUnit) (d : Dest) (k : EventKind), PortLaw u →
     let joined (p : Port) (l : List EventKind) : List EventKind :=
       if (d = .both ∨ d = .port p) ∧ k ∉ l then l ++ [k] else l
     let a := joined .a u.events.a.kinds
     let b := joined .b u.events.b.kinds
     let falls : Prop := (∀ q ∈ u.events.b.kinds, q ∈ u.masks.b) ∧ ∃ q ∈ b, q ∉ u.masks.b
     u.raise d k = { u with
       events := ⟨⟨a, u.events.a.cause⟩, ⟨b, u.events.b.cause⟩⟩, attnA := a.any fun q => decide (q ∉ u.masks.a),
       tx := if falls ∧ u.tx.length < 4 then u.tx ++ [.notice none] else u.tx,
       owed := u.owed || decide (falls ∧ u.tx.length = 4) })
  ∧
  (∀ s : State, PortLaw s.port →
     let u := s.port
     let shown (e : EventSet) (m : List EventKind) : List Byte :=
       u8 e.kinds.length ++ (e.kinds.flatMap fun k => u8 k.code)
         ++ (if EventKind.reset ∈ e.kinds then u8 ((e.cause.map ResetCause.code).getD 0) else []) ++ u16 (eventMaskOf m)
     (canUse .a .none s →
       exec (.readEvents .a (.form ())) s = .next (replied .a 0xA0#8 .ok (shown u.events.a u.masks.a) s { s with
         port := { u with events := { u.events with a := ⟨[], none⟩ }, attnA := false } })
       ∧ ∀ m : Nat, m < 16384 →
         exec (.setEventMask .a (.form m)) s = .next (replied .a 0xA1#8 .ok [] s { s with
           port := { u with
             masks := { u.masks with a := eventsNamed m },
             attnA := u.events.a.kinds.any fun k => !m.testBit (k.code - 1) } }))
     ∧ (canUse .b .none s →
       let v := (taken .b s).port
       let quiet := u.tx.filter fun f => !f.waitingNotice
       exec (.readEvents .b (.form ())) s = .next (replied .b 0xA0#8 .ok (shown u.events.b u.masks.b) s { s with
         port := { v with events := { u.events with b := ⟨[], none⟩ }, tx := quiet, owed := false } })
       ∧ ∀ m : Nat, m < 16384 →
         let open' : Bool := u.events.b.kinds.any fun k => !m.testBit (k.code - 1)
         exec (.setEventMask .b (.form m)) s = .next (replied .b 0xA1#8 .ok [] s { s with
           port := { v with
             masks := { u.masks with b := eventsNamed m },
             tx := if open' then (if u.unmaskedB = [] then u.tx ++ [.notice none] else u.tx) else quiet,
             owed := false } })))
  ∧ (∀ (p : Port) (s : State), canUse p .none s →
       exec (.ident p (.form ())) s =
         .next (replied p 0xA2#8 .ok [0x45#8, 0x47#8, 0x0D#8, 0x07#8, 0x03#8] s (taken p s))
       ∧ exec (.portStatus p (.form ())) s =
         .next (replied p 0xA3#8 .ok
           (let u := (taken p s).port
            u8 (match p with | .a => 0 | .b => 1) ++ u8 s.set.rights.mask ++ u16 (eventMaskOf (u.masks.get p))
              ++ u8 (u.events.get p).kinds.length ++ u8 (if u.asel then 0x3B else 0x3A) ++ u8 u.frameCount
              ++ u8 u.tx.length ++ flag u.owed) s (taken p s))
       ∧ (p = .a → ∀ m : Nat, m ≤ 31 →
         exec (.setRights .a (.form m)) s = .next (replied .a 0xA4#8 .ok [] s { s with
           set := { s.set with
             rights := ⟨m.testBit 0, m.testBit 1, m.testBit 2, m.testBit 3, m.testBit 4⟩ } })))

/-! ## Retained Settings Store (11) -/

/-- The CRC-32: its reflected recurrence bit by bit, least significant first, from all ones and inverted at the end,
and its worked value (11 R182). SAVE_SETTINGS in IDLE gathers the settings in force, counts the save and spoils the
check word; while BUSY it is BUSY; SAVE_COMPLETION puts contents, count and check word into the image and raises
STORE_DONE to the issuer; SET_AUTOHOME sets automatic homing; STORE_STATUS reads, the elapsed time of a save being
free, up to its 300 ms (11 R182, R184, R186; the free value is log 4); with no save in progress it is sent as 0, the
model's choice (log 34). SAVE_COMPLETION with no save in progress changes nothing: that an arrival which cannot arise
does so is the model's reading (log 2). Where 12 leaves the order or the width of reply data open, they are the
model's choice (log 17). The bytes of the image are open (log 13). -/
def Obligations.Saving : Prop :=
  (let bit (c : BitVec 32) : BitVec 32 := if c.getLsbD 0 then (c >>> 1) ^^^ 0xEDB88320#32 else c >>> 1
   let reg (l : List Byte) : BitVec 32 := ~~~ crc32 l
   (∀ k : Fin 32, (0xEDB88320#32).getLsbD k = (0x04C11DB7#32).getMsbD k) ∧ reg [] = 0xFFFFFFFF#32
   ∧ (∀ (l : List Byte) (b : Byte), reg (l ++ [b]) =
     bit (bit (bit (bit (bit (bit (bit (bit (reg l ^^^ b.setWidth 32)))))))))
   ∧ crc32 [0x31#8, 0x32#8, 0x33#8, 0x34#8, 0x35#8, 0x36#8, 0x37#8, 0x38#8, 0x39#8] = 0xCBF43926#32)
  ∧
  ∀ (p : Port) (s : State),
    let status (elapsed : Nat) : List Byte :=
      u8 s.store.state.code ++ u16 elapsed ++ opt8 (s.store.gathered.map fun g => portCode g.issuer)
        ++ u8 s.store.result.code ++ u32 s.store.saveCount ++ flag s.set.autoHome
        ++ u8 (match s.set.powerOn with | none => 0xFF | some k => k.val) ++ u8 s.store.cause.code
    (canUse p .store s → s.store.state = .idle →
      exec (.saveSettings p (.form ())) s = .next (replied p 0xB2#8 .ok [] s { taken p s with
        store := { s.store with
          state := .busy, saveCount := (s.store.saveCount + 1) % 4294967296,
          gathered := some ⟨s.set, (s.store.saveCount + 1) % 4294967296, p⟩,
          image := { s.store.image with word := none } } }))
    ∧ (canUse p .store s → s.store.state = .busy →
      exec (.saveSettings p (.form ())) s = .next (replied p 0xB2#8 .busy [] s (taken p s)))
    ∧ (∀ g, s.store.state = .busy → s.store.gathered = some g →
      exec .saveCompletion s = .next { s with
        store := { s.store with
          state := .idle, gathered := none,
          image := ⟨g.contents, g.count, some (crc32 (Config.imageBytes g.contents g.count))⟩ },
        port := s.port.raise (.port g.issuer) .storeDone })
    ∧ (s.store.state ≠ .busy → exec .saveCompletion s = .next s)
    ∧ (canUse p .config s → ∀ b : Bool,
      exec (.setAutohome p (.form (if b then 1 else 0))) s =
        .next (replied p 0xB1#8 .ok [] s { taken p s with set := { s.set with autoHome := b } }))
    ∧ (canUse p .none s → s.store.state = .idle →
      exec (.storeStatus p (.form ())) s = .next (replied p 0xB0#8 .ok (status 0) s (taken p s)))
    ∧ (canUse p .none s → s.store.state = .busy → ∃ n t : Nat, t ≤ 300 ∧
      exec (.storeStatus p (.form ())) s =
        .next (replied p 0xB0#8 .ok (status t) s { taken p s with freeCount := n }))

/-- The five resets. Each puts every unit into its reset state and the store into LOADING with its cause; what lies
outside the part stays: the arrivals, the levels at the pins, the image, torn when a save was in progress, and a
Mesh Port transaction whose chip select is asserted, ignored until its release. RSTn low and a lost supply hold the
part. RESET is DENIED to Port B (05 R91; 06 R94; 11 R184, R185, R187). The model's choices in it: the values that the
manual gives no reset for are those of State.reset (log 15); the settings are at their defaults until the load
completion (log 14); the cause and the hold where RSTn low and a lost supply overlap (log 16); the contents and the
count of a torn image (log 33); and the counter of free values, which stays (log 4). -/
def Obligations.Resets : Prop :=
  ∀ s : State,
    let fresh (f : Filtered) : Filtered := ⟨f.raw, f.raw, 0⟩
    let after (c : ResetCause) (low off : Bool) : State := { State.reset with
      pending := s.pending,
      inputs := {
        home := s.inputs.home.map fun _ => fresh, index := s.inputs.index.map fun _ => fresh,
        mdflt := fresh s.inputs.mdflt, tco := fresh s.inputs.tco, drvflt := fresh s.inputs.drvflt,
        tach := s.inputs.tach.map fun _ => fresh },
      pres := { Presentation.reset with trans := if s.pres.trans = .none then .none else .ignored },
      port := { PortUnit.reset with asel := s.aselPin },
      store := { Store.reset with
        image := if s.store.state = .busy then { s.store.image with word := none } else s.store.image, cause := c },
      rstLow := low, powerOff := off, aselPin := s.aselPin, freeCount := s.freeCount }
    exec .powerOnReset s = .next (after .power s.rstLow false)
    ∧ exec .powerLoss s = .next (after .power s.rstLow true)
    ∧ exec .rstnLow s = .next (after .pin true s.powerOff)
    ∧ exec .rstnRise s = .next (after .pin false s.powerOff)
    ∧ (s.deaf = false → exec (.reset .a (.form ())) s = .next (after .command s.rstLow s.powerOff))
    ∧ (s.deaf = false → s.port.tx.length < 4 →
      exec (.reset .b (.form ())) s = .next (replied .b 0xB3#8 .denied [] s (taken .b s)))

/-- An image is sound when every value in it passes the checks of its setting command (11 R182), and the defaults are
those of the tables of the chapters (11 R183; 01 R2, section 1.3, R12, R13; 02 R26, R30; 03 R33; 04 R56; 06 R93; 07
R124, R131; 08 R133; 09 R155, R156; 10 R174). The load completion after a reset: the contents are loaded when the
check word matches and every value is in range, and the defaults otherwise, with STORE_ERROR; the trigger state
follows the loaded mode; the fans spin up; the allowance is the floor, or 0 with the trip latched by an active TCO or
DRVFLT, the raw allowance 1000 and the derate terms 0; p_app is p_ref and the orientation that of the setting; the
first composition is that of the loaded record with band 0 and no inset, and where it is refused the nominal corners
stay, held; the first build starts in bank A from the corners; the events of both ports are RESET with its cause,
STORE_ERROR, CLIP, GEOMETRY_REFUSED, MOTION_FAULT and THERMAL_TRIP, those of them that arise, in that order; with
automatic homing a HOME request of all four axes runs, and behind it waits the RECALL of the power-on slot; with an
active MDFLT every axis is in FAULT and both end FAULT (01 R18; 02 R32; 03 R52; 04 R74; 06 R111; 08 R149; 09 R166; 10
R181; 11 R182, R183, R188, R189). The bytes of the image are open, and that a corner offset beyond its range makes an
image unsound, though its commands clamp it and do not refuse it, is the model's choice (log 13). -/
def Obligations.LoadCompletion : Prop :=
  (∀ g : Settings,
     let lies (lo hi v : Int) : Prop := lo ≤ v ∧ v ≤ hi
     g.sound = true ↔
       (lies 1 16 g.round.length ∧ lies 1 16 g.trigger.divider ∧ g.trigger.delay ≤ 10000 ∧ lies 5 1000 g.trigger.period)
       ∧ (∀ t ∈ g.tables.toList, ∀ v ∈ t.toList, lies (-400) 1500 v)
       ∧ (∀ c, lies 0 4095 (g.angle.get c).zeroCode ∧ lies 1 1023 (g.angle.get c).scale)
       ∧ (lies 5 100 g.att.deadband ∧ lies (-9000) 9000 g.att.vertZero ∧ lies 1000 8000 g.att.threshold
         ∧ lies 100 3000 g.att.rollLimit)
       ∧ (lies 1280 4096 g.geo.width ∧ lies 720 2400 g.geo.height ∧ lies 0 2048 g.geo.fineLimit
         ∧ (∀ d ∈ [g.geo.offsets.tl, g.geo.offsets.tr, g.geo.offsets.bl, g.geo.offsets.br],
           lies (-15360) 15360 d.x ∧ lies (-15360) 15360 d.y)
         ∧ ∀ v ∈ g.geo.coeff.toList, lies 0 1023 v)
       ∧ (∀ d ∈ g.layer.toList,
         lies (-g.geo.fineLimit) g.geo.fineLimit d.x ∧ lies (-g.geo.fineLimit) g.geo.fineLimit d.y)
       ∧ ((∀ x, (g.axes.get x).ok = true) ∧ lies 100 1000 g.jogTimeout)
       ∧ (∀ q, some q ∈ g.slots.toList →
         (∀ l, q.label = some l → lies 1 12 l.length ∧ ∀ c ∈ l, lies 32 126 c.toNat)
         ∧ ∀ o, q.offsets = some o →
           ∀ d ∈ [o.tl, o.tr, o.bl, o.br], lies (-15360) 15360 d.x ∧ lies (-15360) 15360 d.y)
       ∧ (lies (-255) 255 g.fc.k ∧ lies (-400) 1500 g.fc.tRef ∧ lies 0 2000 g.fc.limit ∧ lies 1 255 g.fc.deadband)
       ∧ (∀ f,
         let r := g.fans.get f
         curveOk r.curve = true ∧ (∃ c, r.bound.get c = true) ∧ lies 150 600 r.spinFloor
           ∧ (r.quietCap = 0 ∨ lies r.spinFloor 1000 r.quietCap) ∧ lies 60 3000 r.stallSpeed)
       ∧ ((∀ o ∈ g.offsets.toList, lies (-200) 200 o.floor ∧ lies (-200) 200 o.ceiling) ∧ lies 1 1000 g.slew)
       ∧ (∀ r ∈ g.thresholds.toList, lies (-400) 1500 r.ts ∧ lies (-400) 1500 r.tt ∧ 50 ≤ r.tt - r.ts)
       ∧ lies 200 800 g.prot.floor ∧ lies 10 1000 g.prot.rise ∧ lies 0 255 g.prot.gain ∧ lies 0 300 g.prot.afterrun)
  ∧ (let g := defaultSettings
     let axis (travel vs vm a h b : Int) (d : StepDir) (i : Int) : AxisSettings := ⟨travel, vs, vm, a, h, b, d, i, 24, 150⟩
     let fan (c : List CurvePoint) (bound : List (Fin 7)) : FanSettings :=
       ⟨c, Vector.ofFn fun k => decide (k ∈ bound), 250, 450, 300⟩
     (g.round = [0, 1, 2, 3, 4, 5, 6, 7, 8, 9, 7, 9] ∧ g.trigger = ⟨.sync, 1, 2000, 20⟩
       ∧ (∀ k : Fin 4, (g.tables.get k).toList =
         [1500, 1180, 960, 820, 710, 620, 515, 450, 390, 330, 270, 210, 150, 80, 0, -110, -400])
       ∧ (∀ c : Fin 7, g.tempTable.get c = 0) ∧ ∀ c, g.angle.get c = ⟨2048, 281⟩)
     ∧ (g.att = ⟨10, 0, 4500, 300⟩ ∧ g.orientation = .auto ∧ g.pRef = 0)
     ∧ (g.geo = ⟨3840, 2160, false, PerCorner.const ⟨0, 0⟩, false, #v[512, 544, 576, 608, 640, 672, 704, 736], true, 512⟩
       ∧ ∀ d ∈ g.layer.toList, d = ⟨0, 0⟩)
     ∧ (g.axes.shiftH = axis 20000 200 2000 8000 150 40 .positive 10000
       ∧ g.axes.shiftV = axis 16000 200 2000 8000 150 40 .positive 8000
       ∧ g.axes.zoom = axis 40000 400 4000 20000 300 60 .positive 20000
       ∧ g.axes.focus = axis 30000 300 3000 15000 200 30 .negative 15000 ∧ g.jogTimeout = 250)
     ∧ ((∀ k : Fin 10, g.slots.get k = none) ∧ g.powerOn = none ∧ g.fc = ⟨false, 0, 400, 400, 8⟩)
     ∧ (g.fans.ls = fan [⟨500, 300⟩, ⟨650, 550⟩, ⟨750, 1000⟩] [0, 3]
       ∧ g.fans.oe = fan [⟨350, 250⟩, ⟨500, 500⟩, ⟨650, 1000⟩] [1, 2, 6]
       ∧ g.fans.ex = fan [⟨300, 0⟩, ⟨400, 300⟩, ⟨550, 800⟩, ⟨650, 1000⟩] [4, 5, 3]
       ∧ g.offsets.toList = [⟨0, 20⟩, ⟨0, 20⟩, ⟨0, 10⟩, ⟨0, 0⟩, ⟨0, 0⟩, ⟨0, 15⟩, ⟨0, 0⟩] ∧ g.slew = 20 ∧ g.quiet = false)
     ∧ (g.thresholds.toList =
         [⟨650, 800⟩, ⟨700, 850⟩, ⟨550, 650⟩, ⟨700, 850⟩, ⟨400, 500⟩, ⟨550, 700⟩, ⟨500, 650⟩] ∧ g.prot = ⟨350, 50, 24, 90⟩)
     ∧ g.rights = ⟨true, true, false, false, false⟩ ∧ g.autoHome = true)
  ∧ ∀ (s : State) (c : ResetCause),
    let u := resetPart c s
    let i := u.store.image
    let match' : Prop := i.word = some (crc32 (Config.imageBytes i.contents i.saveCount))
    u.held = false →
    ∃ t, exec .loadCompletion u = .next t
      ∧ (match' → i.contents.sound = true →
        t.set = i.contents ∧ t.store.result = .loaded ∧ t.store.saveCount = i.saveCount)
      ∧ (match' → i.contents.sound = false → t.set = defaultSettings ∧ t.store.result = .defaultsRange)
      ∧ (¬ match' → t.set = defaultSettings ∧ t.store.result = .defaultsCheck)
      ∧ (t.store.result ≠ .loaded → t.store.saveCount = 0
        ∧ EventKind.storeError ∈ t.port.events.a.kinds ∧ EventKind.storeError ∈ t.port.events.b.kinds)
      ∧ t.store.state = .idle
      ∧ t.pending = u.pending ∧ t.inputs = u.inputs ∧ t.store.image = u.store.image ∧ t.aselPin = u.aselPin
      ∧ t.held = false ∧ t.smp.records = u.smp.records ∧ t.prot.lightRequest = false
      ∧ t.port.events.a.kinds.head? = some .reset ∧ t.port.events.b.kinds.head? = some .reset
      ∧ t.port.events.a.cause = some c ∧ t.port.events.b.cause = some c
      ∧ t.fan.running = true ∧ (∀ f, (t.fan.fans.get f).state = .spinup ∧ (t.fan.fans.get f).duty = 1000)
      ∧ t.prot.running = true ∧ t.prot.lsen = false ∧ t.prot.raw = 1000 ∧ t.prot.channelTerm = 0
      ∧ t.prot.shortfallDerate = 0
      ∧ t.smp.trigState = (match t.set.trigger.mode with | .sync => .syncFallback | .free => .freeRun)
      ∧ (u.inputs.tco.level = false → u.inputs.drvflt.level = false →
        t.prot.trip = none ∧ t.prot.allowance = t.set.prot.floor)
      ∧ (u.inputs.tco.level = true → t.prot.trip = some .tco ∧ t.prot.allowance = 0)
      ∧ (u.inputs.tco.level = false → u.inputs.drvflt.level = true →
        t.prot.trip = some .drvflt ∧ t.prot.allowance = 0)
      ∧ t.att.pApp = t.set.pRef
      ∧ (t.att.effective = .floor ↔ t.set.orientation = .floor)
      ∧ (u.inputs.mdflt.level = true →
        ∀ x, (t.axes.get x).state = .fault ∧ (t.axes.get x).reason = .driver)
      ∧ (u.inputs.mdflt.level = false → t.set.autoHome = true → ∀ x, (t.axes.get x).state = .homing)
      ∧ (u.inputs.mdflt.level = false → t.set.autoHome = false →
        t.mq.requests = [] ∧ ∀ x, (t.axes.get x).state = .unhomed)
      ∧ (let g := t.set.geo
        let c := candidateOf g 0 t.set.pRef t.set.pRef t.att.effective
        let ok := shapeOk g.width g.height c.corners
        t.geo.band = 0 ∧ t.geo.inset = 0 ∧ t.geo.held = !ok
        ∧ t.geo.corners = (if ok then c.corners else nominal g.width g.height)
        ∧ t.geo.clamped = (ok && c.clamp.isSome)
        ∧ t.geo.clip = (match c.clamp with
            | none => .clear
            | some k => .corner k.1 k.2)
        ∧ t.eng.state = .computing .a (snapshotOf t) ∧ t.eng.pendingReq = false ∧ t.eng.restarts = 0
        ∧ t.pres.banks.a.state = .writing ∧ t.pres.banks.b.state = .empty ∧ t.pres.swap = .none
        ∧ ∀ p : Port, (t.port.events.get p).kinds =
            [.reset] ++ (if t.store.result = .loaded then [] else [.storeError])
              ++ (if c.clamp.isSome then [.clip] else []) ++ (if ok then [] else [.geometryRefused])
              ++ (if u.inputs.mdflt.level then [.motionFault] else [])
              ++ (if u.inputs.tco.level || u.inputs.drvflt.level then [.thermalTrip] else []))
      ∧ (t.set.autoHome = false → t.mq.requests = [] ∧ t.mq.outcomes.a = [] ∧ t.mq.outcomes.b = [])
      ∧ (t.set.autoHome = true → u.inputs.mdflt.level = false → ∃ h l, t.mq.requests = h :: l
        ∧ h.source = .start ∧ h.kind = .home ∧ h.axes = PerAxis.const true ∧ h.tag = none ∧ h.dispatched = true
        ∧ (∀ x, (t.axes.get x).running = some h.serial)
        ∧ (t.set.powerOn = none → l = [])
        ∧ ∀ k, t.set.powerOn = some k → ∃ r, l = [r] ∧ r.source = .start ∧ r.kind = .recall
          ∧ r.axes = PerAxis.const true ∧ r.slot = k.val ∧ r.tag = none ∧ r.dispatched = false)
      ∧ (t.set.autoHome = true → u.inputs.mdflt.level = true → t.mq.requests = [] ∧ t.mq.outcomes.b = []
        ∧ t.mq.outcomes.a = [⟨none, .home, .fault⟩] ++ (if t.set.powerOn = none then [] else [⟨none, .recall, .fault⟩]))

/-! ## Laws that every step keeps, from every state that meets them -/

/-- Every step keeps every setting in the range that its command checks (01 R3; 02 R26, R30; 03 R46 to R50; 04 R56; 06
R109; 07 R131; 08 R145; 09 R155; 11 R182); that an image whose corner offsets lie beyond theirs is not loaded is the
model's choice (log 13). -/
def Obligations.SettingsStaySound : Prop :=
  ∀ s t : State, SettingsSound s → step s = .next t → SettingsSound t

/-- Every step keeps LSEN gated: asserted exactly while the light is requested, start-up is complete and the trip is
CLEAR (09 R164). -/
def Obligations.LightStaysGated : Prop := ∀ s t : State, LightGated s → step s = .next t → LightGated t

/-- Every step keeps the allowance: 0 while the trip is LATCHED, else from the floor to 1000 (09 R154, R155, R161,
R166). -/
def Obligations.AllowanceStaysBounded : Prop :=
  ∀ s t : State, AllowanceLaw s → step s = .next t → AllowanceLaw t

/-- Every step keeps the commanded duties: 0 in OFF, STALLED and FAILED, 1000 in SPINUP, and at most the quiet cap in
RUNNING in quiet mode without override (08 R139, R144). -/
def Obligations.DutiesStayLawful : Prop :=
  ∀ s t : State, FanLaw s → step s = .next t → FanLaw t

/-- Every step keeps the banks: at most one bank LIVE or READING, at most one READY, WRITING exactly while the engine
computes into it, and a swap pending exactly while a bank is READY (04 R66, R67, R72; 05 R75 to R78). -/
def Obligations.BanksStayLawful : Prop := ∀ s t : State, BankLaw s → step s = .next t → BankLaw t

/-- Every step keeps the bounds of the Motion Queue: 8 requests, one COMP, 4 outcomes a port, and nothing held during
the load (07 R113, R121, R129; 11 R187). -/
def Obligations.QueueStaysBounded : Prop := ∀ s t : State, QueueLaw s → step s = .next t → QueueLaw t

/-- Every step keeps the law of the Port Unit: ATTN_A by the unmasked events, at most 4 frames, at most one notice
not begun, and none while nothing is unmasked (10 R172, R175 to R178). -/
def Obligations.PortStaysLawful : Prop := ∀ s t : State, PortLaw s.port → step s = .next t → PortLaw t.port

/-- Every step keeps every homed axis within its soft limits, with the end of its leg and its target, and every axis
within the ranges of its position, homing count and jog level (06 R93, R95, R97, R106). -/
def Obligations.AxesStayInTravel : Prop :=
  ∀ s t : State, AxisLaw s → step s = .next t → AxisLaw t

/-- Every step keeps the composed corners in the panel and in shape, and with them every vertex of a finished mesh
(03 R39 to R41, R52; 04 R57). -/
def Obligations.MeshesStayInPanel : Prop :=
  ∀ s t : State, MeshLaw s → step s = .next t → MeshLaw t

/-- Every step keeps the ranges of the channel records and of the round (01 R2, R8, R10, R14). -/
def Obligations.RecordsStayLawful : Prop :=
  ∀ s t : State, SamplingLaw s → step s = .next t → SamplingLaw t

/-- Every step keeps the filter windows, at most 16 angles within 90 degrees, and the orientation count below 8 (02
R19, R27, R28). -/
def Obligations.WindowsStayLawful : Prop := ∀ s t : State, AttitudeLaw s → step s = .next t → AttitudeLaw t

/-- The state after reset, and after each of the five resets of any state, holds the values that the manual gives (01
R18; 02 R32; 03 R52; 04 R74; 05 R92; 06 R111; 07 R132; 08 R149; 09 R166; 10 R169, R181; 11 R187); that p_app equals
p_ref and the corners are the nominal ones of the panel size is said of the default settings, which the model holds
until the load completion (log 14). The state after reset meets every one of these laws. The values that the manual
gives no reset for are those of State.reset (log 15). -/
def Obligations.ResetLawful : Prop :=
  (let values (t : State) : Prop :=
     (∀ k : Fin 10,
       let r := t.smp.records.get k
       r.lastCode = 0 ∧ r.validity = .new ∧ r.invalidRun = 0 ∧ r.validRun = 0 ∧ r.history = [] ∧ r.filtered = none
         ∧ r.peak = 0)
     ∧ (t.smp.round = [] ∧ t.smp.overrun = false ∧ t.smp.roundCount = 0 ∧ t.smp.divCount = 0
       ∧ t.smp.delayRunning = false ∧ t.smp.periodRunning = true ∧ t.smp.video = false)
     ∧ (t.att.windows.pitch = [] ∧ t.att.windows.roll = [] ∧ t.att.windows.vert = [] ∧ t.att.refused = none
       ∧ t.att.count = 0 ∧ t.att.rollRaised = false ∧ t.att.pApp = t.set.pRef)
     ∧ (t.geo.band = 0 ∧ t.geo.clip = .clear ∧ t.geo.held = false ∧ t.geo.clamped = false ∧ t.geo.inset = 0
       ∧ t.geo.corners = nominal t.set.geo.width t.set.geo.height)
     ∧ (t.eng.state = .idle ∧ t.eng.pendingReq = false ∧ t.eng.allDirty = false ∧ t.eng.restarts = 0
       ∧ t.eng.clampCount = 0)
     ∧ ((∀ i : BankId, (t.pres.banks.get i).state = .empty) ∧ t.pres.swap = .none ∧ t.pres.generation = 0
       ∧ (∀ j : Fin 9, t.pres.reported.get j = false ∧ t.pres.saturated.get j = false) ∧ t.pres.selected = .wide
       ∧ t.pres.presented = .wide ∧ t.pres.mattn = false ∧ t.pres.video = false)
     ∧ (∀ x : Axis,
       let r := t.axes.get x
       r.state = .unhomed ∧ r.position = 0 ∧ r.leg = .none ∧ r.target = none ∧ r.running = none ∧ r.jogOwner = none
         ∧ r.homingCount = 0 ∧ r.reason = .none ∧ r.indexError = none)
     ∧ (t.mq.requests = [] ∧ t.mq.outcomes.a = [] ∧ t.mq.outcomes.b = [] ∧ t.fc.applied = 0 ∧ t.fc.lastTarget = none)
     ∧ (t.fan.running = false ∧ ∀ f : Fan,
       let r := t.fan.fans.get f
       r.state = .off ∧ r.duty = 0 ∧ r.demand = 0 ∧ r.target = 0 ∧ r.shortfall = 0 ∧ r.override = ⟨false, false, false⟩
         ∧ r.speed = 0 ∧ r.lowWindows = 0 ∧ r.restarts = 0)
     ∧ (t.prot.lightRequest = false ∧ t.prot.lsen = false ∧ t.prot.afterrun = none ∧ t.prot.startup = false
       ∧ t.prot.trip = none ∧ t.prot.running = false ∧ t.prot.allowance = 350)
     ∧ (t.port.bufA = ⟨0, none, .notReady, []⟩ ∧ t.port.rx = .hunt ∧ t.port.frameCount = 0 ∧ t.port.tx = []
       ∧ t.port.owed = false ∧ t.port.attnA = false ∧ t.port.masks.a = [] ∧ t.port.masks.b = []
       ∧ t.port.events.a.kinds = [] ∧ t.port.events.b.kinds = [])
     ∧ t.store.state = .loading ∧ t.store.gathered = none
   values State.reset ∧ ∀ (i : Instr) (s t : State),
     (i = .powerOnReset ∨ i = .powerLoss ∨ i = .rstnLow ∨ i = .rstnRise ∨ s.deaf = false ∧ i = .reset .a (.form ())) →
     exec i s = .next t → values t)
  ∧ SettingsSound State.reset ∧ LightGated State.reset ∧ AllowanceLaw State.reset ∧ FanLaw State.reset
    ∧ BankLaw State.reset ∧ QueueLaw State.reset ∧ PortLaw State.reset.port ∧ AxisLaw State.reset
    ∧ MeshLaw State.reset ∧ SamplingLaw State.reset ∧ AttitudeLaw State.reset
end

