-- ==== Sys2Proof/Laws/State.lean ====
section
/-! SUPPORT. What each small update leaves: one lemma per field, true by definition, so that no proof unfolds a
record update. -/

namespace Sys2Proof.Machine

@[simp] theorem State.setAxis_pending (s : State) (x : Axis) (r : AxisRec) : (s.setAxis x r).pending = s.pending := rfl
@[simp] theorem State.setAxis_set (s : State) (x : Axis) (r : AxisRec) : (s.setAxis x r).set = s.set := rfl
@[simp] theorem State.setAxis_smp (s : State) (x : Axis) (r : AxisRec) : (s.setAxis x r).smp = s.smp := rfl
@[simp] theorem State.setAxis_att (s : State) (x : Axis) (r : AxisRec) : (s.setAxis x r).att = s.att := rfl
@[simp] theorem State.setAxis_geo (s : State) (x : Axis) (r : AxisRec) : (s.setAxis x r).geo = s.geo := rfl
@[simp] theorem State.setAxis_eng (s : State) (x : Axis) (r : AxisRec) : (s.setAxis x r).eng = s.eng := rfl
@[simp] theorem State.setAxis_pres (s : State) (x : Axis) (r : AxisRec) : (s.setAxis x r).pres = s.pres := rfl
@[simp] theorem State.setAxis_inputs (s : State) (x : Axis) (r : AxisRec) : (s.setAxis x r).inputs = s.inputs := rfl
@[simp] theorem State.setAxis_mq (s : State) (x : Axis) (r : AxisRec) : (s.setAxis x r).mq = s.mq := rfl
@[simp] theorem State.setAxis_fc (s : State) (x : Axis) (r : AxisRec) : (s.setAxis x r).fc = s.fc := rfl
@[simp] theorem State.setAxis_fan (s : State) (x : Axis) (r : AxisRec) : (s.setAxis x r).fan = s.fan := rfl
@[simp] theorem State.setAxis_prot (s : State) (x : Axis) (r : AxisRec) : (s.setAxis x r).prot = s.prot := rfl
@[simp] theorem State.setAxis_port (s : State) (x : Axis) (r : AxisRec) : (s.setAxis x r).port = s.port := rfl
@[simp] theorem State.setAxis_store (s : State) (x : Axis) (r : AxisRec) : (s.setAxis x r).store = s.store := rfl
@[simp] theorem State.setAxis_rstLow (s : State) (x : Axis) (r : AxisRec) : (s.setAxis x r).rstLow = s.rstLow := rfl
@[simp] theorem State.setAxis_powerOff (s : State) (x : Axis) (r : AxisRec) : (s.setAxis x r).powerOff = s.powerOff := rfl
@[simp] theorem State.setAxis_aselPin (s : State) (x : Axis) (r : AxisRec) : (s.setAxis x r).aselPin = s.aselPin := rfl
@[simp] theorem State.setAxis_freeCount (s : State) (x : Axis) (r : AxisRec) : (s.setAxis x r).freeCount = s.freeCount := rfl

@[simp] theorem State.setFan_pending (s : State) (f : Fan) (r : FanRec) : (s.setFan f r).pending = s.pending := rfl
@[simp] theorem State.setFan_set (s : State) (f : Fan) (r : FanRec) : (s.setFan f r).set = s.set := rfl
@[simp] theorem State.setFan_smp (s : State) (f : Fan) (r : FanRec) : (s.setFan f r).smp = s.smp := rfl
@[simp] theorem State.setFan_att (s : State) (f : Fan) (r : FanRec) : (s.setFan f r).att = s.att := rfl
@[simp] theorem State.setFan_geo (s : State) (f : Fan) (r : FanRec) : (s.setFan f r).geo = s.geo := rfl
@[simp] theorem State.setFan_eng (s : State) (f : Fan) (r : FanRec) : (s.setFan f r).eng = s.eng := rfl
@[simp] theorem State.setFan_pres (s : State) (f : Fan) (r : FanRec) : (s.setFan f r).pres = s.pres := rfl
@[simp] theorem State.setFan_axes (s : State) (f : Fan) (r : FanRec) : (s.setFan f r).axes = s.axes := rfl
@[simp] theorem State.setFan_inputs (s : State) (f : Fan) (r : FanRec) : (s.setFan f r).inputs = s.inputs := rfl
@[simp] theorem State.setFan_mq (s : State) (f : Fan) (r : FanRec) : (s.setFan f r).mq = s.mq := rfl
@[simp] theorem State.setFan_fc (s : State) (f : Fan) (r : FanRec) : (s.setFan f r).fc = s.fc := rfl
@[simp] theorem State.setFan_prot (s : State) (f : Fan) (r : FanRec) : (s.setFan f r).prot = s.prot := rfl
@[simp] theorem State.setFan_port (s : State) (f : Fan) (r : FanRec) : (s.setFan f r).port = s.port := rfl
@[simp] theorem State.setFan_store (s : State) (f : Fan) (r : FanRec) : (s.setFan f r).store = s.store := rfl
@[simp] theorem State.setFan_rstLow (s : State) (f : Fan) (r : FanRec) : (s.setFan f r).rstLow = s.rstLow := rfl
@[simp] theorem State.setFan_powerOff (s : State) (f : Fan) (r : FanRec) : (s.setFan f r).powerOff = s.powerOff := rfl
@[simp] theorem State.setFan_aselPin (s : State) (f : Fan) (r : FanRec) : (s.setFan f r).aselPin = s.aselPin := rfl
@[simp] theorem State.setFan_freeCount (s : State) (f : Fan) (r : FanRec) : (s.setFan f r).freeCount = s.freeCount := rfl

@[simp] theorem raise_pending (d : Dest) (k : EventKind) (s : State) : (raise d k s).pending = s.pending := rfl
@[simp] theorem raise_set (d : Dest) (k : EventKind) (s : State) : (raise d k s).set = s.set := rfl
@[simp] theorem raise_smp (d : Dest) (k : EventKind) (s : State) : (raise d k s).smp = s.smp := rfl
@[simp] theorem raise_att (d : Dest) (k : EventKind) (s : State) : (raise d k s).att = s.att := rfl
@[simp] theorem raise_geo (d : Dest) (k : EventKind) (s : State) : (raise d k s).geo = s.geo := rfl
@[simp] theorem raise_eng (d : Dest) (k : EventKind) (s : State) : (raise d k s).eng = s.eng := rfl
@[simp] theorem raise_pres (d : Dest) (k : EventKind) (s : State) : (raise d k s).pres = s.pres := rfl
@[simp] theorem raise_axes (d : Dest) (k : EventKind) (s : State) : (raise d k s).axes = s.axes := rfl
@[simp] theorem raise_inputs (d : Dest) (k : EventKind) (s : State) : (raise d k s).inputs = s.inputs := rfl
@[simp] theorem raise_mq (d : Dest) (k : EventKind) (s : State) : (raise d k s).mq = s.mq := rfl
@[simp] theorem raise_fc (d : Dest) (k : EventKind) (s : State) : (raise d k s).fc = s.fc := rfl
@[simp] theorem raise_fan (d : Dest) (k : EventKind) (s : State) : (raise d k s).fan = s.fan := rfl
@[simp] theorem raise_prot (d : Dest) (k : EventKind) (s : State) : (raise d k s).prot = s.prot := rfl
@[simp] theorem raise_store (d : Dest) (k : EventKind) (s : State) : (raise d k s).store = s.store := rfl
@[simp] theorem raise_rstLow (d : Dest) (k : EventKind) (s : State) : (raise d k s).rstLow = s.rstLow := rfl
@[simp] theorem raise_powerOff (d : Dest) (k : EventKind) (s : State) : (raise d k s).powerOff = s.powerOff := rfl
@[simp] theorem raise_aselPin (d : Dest) (k : EventKind) (s : State) : (raise d k s).aselPin = s.aselPin := rfl
@[simp] theorem raise_freeCount (d : Dest) (k : EventKind) (s : State) : (raise d k s).freeCount = s.freeCount := rfl

@[simp] theorem placeA_pending (i : Option Byte) (k : Status) (d : List Byte) (s : State) : (placeA i k d s).pending = s.pending := rfl
@[simp] theorem placeA_set (i : Option Byte) (k : Status) (d : List Byte) (s : State) : (placeA i k d s).set = s.set := rfl
@[simp] theorem placeA_smp (i : Option Byte) (k : Status) (d : List Byte) (s : State) : (placeA i k d s).smp = s.smp := rfl
@[simp] theorem placeA_att (i : Option Byte) (k : Status) (d : List Byte) (s : State) : (placeA i k d s).att = s.att := rfl
@[simp] theorem placeA_geo (i : Option Byte) (k : Status) (d : List Byte) (s : State) : (placeA i k d s).geo = s.geo := rfl
@[simp] theorem placeA_eng (i : Option Byte) (k : Status) (d : List Byte) (s : State) : (placeA i k d s).eng = s.eng := rfl
@[simp] theorem placeA_pres (i : Option Byte) (k : Status) (d : List Byte) (s : State) : (placeA i k d s).pres = s.pres := rfl
@[simp] theorem placeA_axes (i : Option Byte) (k : Status) (d : List Byte) (s : State) : (placeA i k d s).axes = s.axes := rfl
@[simp] theorem placeA_inputs (i : Option Byte) (k : Status) (d : List Byte) (s : State) : (placeA i k d s).inputs = s.inputs := rfl
@[simp] theorem placeA_mq (i : Option Byte) (k : Status) (d : List Byte) (s : State) : (placeA i k d s).mq = s.mq := rfl
@[simp] theorem placeA_fc (i : Option Byte) (k : Status) (d : List Byte) (s : State) : (placeA i k d s).fc = s.fc := rfl
@[simp] theorem placeA_fan (i : Option Byte) (k : Status) (d : List Byte) (s : State) : (placeA i k d s).fan = s.fan := rfl
@[simp] theorem placeA_prot (i : Option Byte) (k : Status) (d : List Byte) (s : State) : (placeA i k d s).prot = s.prot := rfl
@[simp] theorem placeA_store (i : Option Byte) (k : Status) (d : List Byte) (s : State) : (placeA i k d s).store = s.store := rfl
@[simp] theorem placeA_rstLow (i : Option Byte) (k : Status) (d : List Byte) (s : State) : (placeA i k d s).rstLow = s.rstLow := rfl
@[simp] theorem placeA_powerOff (i : Option Byte) (k : Status) (d : List Byte) (s : State) : (placeA i k d s).powerOff = s.powerOff := rfl
@[simp] theorem placeA_aselPin (i : Option Byte) (k : Status) (d : List Byte) (s : State) : (placeA i k d s).aselPin = s.aselPin := rfl
@[simp] theorem placeA_freeCount (i : Option Byte) (k : Status) (d : List Byte) (s : State) : (placeA i k d s).freeCount = s.freeCount := rfl

@[simp] theorem placeB_pending (l : List Byte) (s : State) : (placeB l s).pending = s.pending := rfl
@[simp] theorem placeB_set (l : List Byte) (s : State) : (placeB l s).set = s.set := rfl
@[simp] theorem placeB_smp (l : List Byte) (s : State) : (placeB l s).smp = s.smp := rfl
@[simp] theorem placeB_att (l : List Byte) (s : State) : (placeB l s).att = s.att := rfl
@[simp] theorem placeB_geo (l : List Byte) (s : State) : (placeB l s).geo = s.geo := rfl
@[simp] theorem placeB_eng (l : List Byte) (s : State) : (placeB l s).eng = s.eng := rfl
@[simp] theorem placeB_pres (l : List Byte) (s : State) : (placeB l s).pres = s.pres := rfl
@[simp] theorem placeB_axes (l : List Byte) (s : State) : (placeB l s).axes = s.axes := rfl
@[simp] theorem placeB_inputs (l : List Byte) (s : State) : (placeB l s).inputs = s.inputs := rfl
@[simp] theorem placeB_mq (l : List Byte) (s : State) : (placeB l s).mq = s.mq := rfl
@[simp] theorem placeB_fc (l : List Byte) (s : State) : (placeB l s).fc = s.fc := rfl
@[simp] theorem placeB_fan (l : List Byte) (s : State) : (placeB l s).fan = s.fan := rfl
@[simp] theorem placeB_prot (l : List Byte) (s : State) : (placeB l s).prot = s.prot := rfl
@[simp] theorem placeB_store (l : List Byte) (s : State) : (placeB l s).store = s.store := rfl
@[simp] theorem placeB_rstLow (l : List Byte) (s : State) : (placeB l s).rstLow = s.rstLow := rfl
@[simp] theorem placeB_powerOff (l : List Byte) (s : State) : (placeB l s).powerOff = s.powerOff := rfl
@[simp] theorem placeB_aselPin (l : List Byte) (s : State) : (placeB l s).aselPin = s.aselPin := rfl
@[simp] theorem placeB_freeCount (l : List Byte) (s : State) : (placeB l s).freeCount = s.freeCount := rfl

@[simp] theorem countFrame_pending (s : State) : (countFrame s).pending = s.pending := rfl
@[simp] theorem countFrame_set (s : State) : (countFrame s).set = s.set := rfl
@[simp] theorem countFrame_smp (s : State) : (countFrame s).smp = s.smp := rfl
@[simp] theorem countFrame_att (s : State) : (countFrame s).att = s.att := rfl
@[simp] theorem countFrame_geo (s : State) : (countFrame s).geo = s.geo := rfl
@[simp] theorem countFrame_eng (s : State) : (countFrame s).eng = s.eng := rfl
@[simp] theorem countFrame_pres (s : State) : (countFrame s).pres = s.pres := rfl
@[simp] theorem countFrame_axes (s : State) : (countFrame s).axes = s.axes := rfl
@[simp] theorem countFrame_inputs (s : State) : (countFrame s).inputs = s.inputs := rfl
@[simp] theorem countFrame_mq (s : State) : (countFrame s).mq = s.mq := rfl
@[simp] theorem countFrame_fc (s : State) : (countFrame s).fc = s.fc := rfl
@[simp] theorem countFrame_fan (s : State) : (countFrame s).fan = s.fan := rfl
@[simp] theorem countFrame_prot (s : State) : (countFrame s).prot = s.prot := rfl
@[simp] theorem countFrame_store (s : State) : (countFrame s).store = s.store := rfl
@[simp] theorem countFrame_rstLow (s : State) : (countFrame s).rstLow = s.rstLow := rfl
@[simp] theorem countFrame_powerOff (s : State) : (countFrame s).powerOff = s.powerOff := rfl
@[simp] theorem countFrame_aselPin (s : State) : (countFrame s).aselPin = s.aselPin := rfl
@[simp] theorem countFrame_freeCount (s : State) : (countFrame s).freeCount = s.freeCount := rfl

@[simp] theorem setReceiver_pending (r : Receiver) (s : State) : (setReceiver r s).pending = s.pending := rfl
@[simp] theorem setReceiver_set (r : Receiver) (s : State) : (setReceiver r s).set = s.set := rfl
@[simp] theorem setReceiver_smp (r : Receiver) (s : State) : (setReceiver r s).smp = s.smp := rfl
@[simp] theorem setReceiver_att (r : Receiver) (s : State) : (setReceiver r s).att = s.att := rfl
@[simp] theorem setReceiver_geo (r : Receiver) (s : State) : (setReceiver r s).geo = s.geo := rfl
@[simp] theorem setReceiver_eng (r : Receiver) (s : State) : (setReceiver r s).eng = s.eng := rfl
@[simp] theorem setReceiver_pres (r : Receiver) (s : State) : (setReceiver r s).pres = s.pres := rfl
@[simp] theorem setReceiver_axes (r : Receiver) (s : State) : (setReceiver r s).axes = s.axes := rfl
@[simp] theorem setReceiver_inputs (r : Receiver) (s : State) : (setReceiver r s).inputs = s.inputs := rfl
@[simp] theorem setReceiver_mq (r : Receiver) (s : State) : (setReceiver r s).mq = s.mq := rfl
@[simp] theorem setReceiver_fc (r : Receiver) (s : State) : (setReceiver r s).fc = s.fc := rfl
@[simp] theorem setReceiver_fan (r : Receiver) (s : State) : (setReceiver r s).fan = s.fan := rfl
@[simp] theorem setReceiver_prot (r : Receiver) (s : State) : (setReceiver r s).prot = s.prot := rfl
@[simp] theorem setReceiver_store (r : Receiver) (s : State) : (setReceiver r s).store = s.store := rfl
@[simp] theorem setReceiver_rstLow (r : Receiver) (s : State) : (setReceiver r s).rstLow = s.rstLow := rfl
@[simp] theorem setReceiver_powerOff (r : Receiver) (s : State) : (setReceiver r s).powerOff = s.powerOff := rfl
@[simp] theorem setReceiver_aselPin (r : Receiver) (s : State) : (setReceiver r s).aselPin = s.aselPin := rfl
@[simp] theorem setReceiver_freeCount (r : Receiver) (s : State) : (setReceiver r s).freeCount = s.freeCount := rfl

@[simp] theorem takeMesh_pending (n : Nat) (l : List Byte) (s : State) : (takeMesh n l s).pending = s.pending := rfl
@[simp] theorem takeMesh_set (n : Nat) (l : List Byte) (s : State) : (takeMesh n l s).set = s.set := rfl
@[simp] theorem takeMesh_smp (n : Nat) (l : List Byte) (s : State) : (takeMesh n l s).smp = s.smp := rfl
@[simp] theorem takeMesh_att (n : Nat) (l : List Byte) (s : State) : (takeMesh n l s).att = s.att := rfl
@[simp] theorem takeMesh_geo (n : Nat) (l : List Byte) (s : State) : (takeMesh n l s).geo = s.geo := rfl
@[simp] theorem takeMesh_eng (n : Nat) (l : List Byte) (s : State) : (takeMesh n l s).eng = s.eng := rfl
@[simp] theorem takeMesh_axes (n : Nat) (l : List Byte) (s : State) : (takeMesh n l s).axes = s.axes := rfl
@[simp] theorem takeMesh_inputs (n : Nat) (l : List Byte) (s : State) : (takeMesh n l s).inputs = s.inputs := rfl
@[simp] theorem takeMesh_mq (n : Nat) (l : List Byte) (s : State) : (takeMesh n l s).mq = s.mq := rfl
@[simp] theorem takeMesh_fc (n : Nat) (l : List Byte) (s : State) : (takeMesh n l s).fc = s.fc := rfl
@[simp] theorem takeMesh_fan (n : Nat) (l : List Byte) (s : State) : (takeMesh n l s).fan = s.fan := rfl
@[simp] theorem takeMesh_prot (n : Nat) (l : List Byte) (s : State) : (takeMesh n l s).prot = s.prot := rfl
@[simp] theorem takeMesh_port (n : Nat) (l : List Byte) (s : State) : (takeMesh n l s).port = s.port := rfl
@[simp] theorem takeMesh_store (n : Nat) (l : List Byte) (s : State) : (takeMesh n l s).store = s.store := rfl
@[simp] theorem takeMesh_rstLow (n : Nat) (l : List Byte) (s : State) : (takeMesh n l s).rstLow = s.rstLow := rfl
@[simp] theorem takeMesh_powerOff (n : Nat) (l : List Byte) (s : State) : (takeMesh n l s).powerOff = s.powerOff := rfl
@[simp] theorem takeMesh_aselPin (n : Nat) (l : List Byte) (s : State) : (takeMesh n l s).aselPin = s.aselPin := rfl
@[simp] theorem takeMesh_freeCount (n : Nat) (l : List Byte) (s : State) : (takeMesh n l s).freeCount = s.freeCount := rfl

@[simp] theorem judgeLsen_pending (s : State) : (judgeLsen s).pending = s.pending := rfl
@[simp] theorem judgeLsen_set (s : State) : (judgeLsen s).set = s.set := rfl
@[simp] theorem judgeLsen_smp (s : State) : (judgeLsen s).smp = s.smp := rfl
@[simp] theorem judgeLsen_att (s : State) : (judgeLsen s).att = s.att := rfl
@[simp] theorem judgeLsen_geo (s : State) : (judgeLsen s).geo = s.geo := rfl
@[simp] theorem judgeLsen_eng (s : State) : (judgeLsen s).eng = s.eng := rfl
@[simp] theorem judgeLsen_pres (s : State) : (judgeLsen s).pres = s.pres := rfl
@[simp] theorem judgeLsen_axes (s : State) : (judgeLsen s).axes = s.axes := rfl
@[simp] theorem judgeLsen_inputs (s : State) : (judgeLsen s).inputs = s.inputs := rfl
@[simp] theorem judgeLsen_mq (s : State) : (judgeLsen s).mq = s.mq := rfl
@[simp] theorem judgeLsen_fc (s : State) : (judgeLsen s).fc = s.fc := rfl
@[simp] theorem judgeLsen_fan (s : State) : (judgeLsen s).fan = s.fan := rfl
@[simp] theorem judgeLsen_port (s : State) : (judgeLsen s).port = s.port := rfl
@[simp] theorem judgeLsen_store (s : State) : (judgeLsen s).store = s.store := rfl
@[simp] theorem judgeLsen_rstLow (s : State) : (judgeLsen s).rstLow = s.rstLow := rfl
@[simp] theorem judgeLsen_powerOff (s : State) : (judgeLsen s).powerOff = s.powerOff := rfl
@[simp] theorem judgeLsen_aselPin (s : State) : (judgeLsen s).aselPin = s.aselPin := rfl
@[simp] theorem judgeLsen_freeCount (s : State) : (judgeLsen s).freeCount = s.freeCount := rfl

@[simp] theorem setPitch_pending (a r : Int) (s : State) : (setPitch a r s).pending = s.pending := rfl
@[simp] theorem setPitch_smp (a r : Int) (s : State) : (setPitch a r s).smp = s.smp := rfl
@[simp] theorem setPitch_geo (a r : Int) (s : State) : (setPitch a r s).geo = s.geo := rfl
@[simp] theorem setPitch_eng (a r : Int) (s : State) : (setPitch a r s).eng = s.eng := rfl
@[simp] theorem setPitch_pres (a r : Int) (s : State) : (setPitch a r s).pres = s.pres := rfl
@[simp] theorem setPitch_axes (a r : Int) (s : State) : (setPitch a r s).axes = s.axes := rfl
@[simp] theorem setPitch_inputs (a r : Int) (s : State) : (setPitch a r s).inputs = s.inputs := rfl
@[simp] theorem setPitch_mq (a r : Int) (s : State) : (setPitch a r s).mq = s.mq := rfl
@[simp] theorem setPitch_fc (a r : Int) (s : State) : (setPitch a r s).fc = s.fc := rfl
@[simp] theorem setPitch_fan (a r : Int) (s : State) : (setPitch a r s).fan = s.fan := rfl
@[simp] theorem setPitch_prot (a r : Int) (s : State) : (setPitch a r s).prot = s.prot := rfl
@[simp] theorem setPitch_port (a r : Int) (s : State) : (setPitch a r s).port = s.port := rfl
@[simp] theorem setPitch_store (a r : Int) (s : State) : (setPitch a r s).store = s.store := rfl
@[simp] theorem setPitch_rstLow (a r : Int) (s : State) : (setPitch a r s).rstLow = s.rstLow := rfl
@[simp] theorem setPitch_powerOff (a r : Int) (s : State) : (setPitch a r s).powerOff = s.powerOff := rfl
@[simp] theorem setPitch_aselPin (a r : Int) (s : State) : (setPitch a r s).aselPin = s.aselPin := rfl
@[simp] theorem setPitch_freeCount (a r : Int) (s : State) : (setPitch a r s).freeCount = s.freeCount := rfl

@[simp] theorem setEntry_pending (i j : Nat) (d : Pt) (s : State) : (setEntry i j d s).pending = s.pending := rfl
@[simp] theorem setEntry_smp (i j : Nat) (d : Pt) (s : State) : (setEntry i j d s).smp = s.smp := rfl
@[simp] theorem setEntry_att (i j : Nat) (d : Pt) (s : State) : (setEntry i j d s).att = s.att := rfl
@[simp] theorem setEntry_geo (i j : Nat) (d : Pt) (s : State) : (setEntry i j d s).geo = s.geo := rfl
@[simp] theorem setEntry_eng (i j : Nat) (d : Pt) (s : State) : (setEntry i j d s).eng = s.eng := rfl
@[simp] theorem setEntry_pres (i j : Nat) (d : Pt) (s : State) : (setEntry i j d s).pres = s.pres := rfl
@[simp] theorem setEntry_axes (i j : Nat) (d : Pt) (s : State) : (setEntry i j d s).axes = s.axes := rfl
@[simp] theorem setEntry_inputs (i j : Nat) (d : Pt) (s : State) : (setEntry i j d s).inputs = s.inputs := rfl
@[simp] theorem setEntry_mq (i j : Nat) (d : Pt) (s : State) : (setEntry i j d s).mq = s.mq := rfl
@[simp] theorem setEntry_fc (i j : Nat) (d : Pt) (s : State) : (setEntry i j d s).fc = s.fc := rfl
@[simp] theorem setEntry_fan (i j : Nat) (d : Pt) (s : State) : (setEntry i j d s).fan = s.fan := rfl
@[simp] theorem setEntry_prot (i j : Nat) (d : Pt) (s : State) : (setEntry i j d s).prot = s.prot := rfl
@[simp] theorem setEntry_port (i j : Nat) (d : Pt) (s : State) : (setEntry i j d s).port = s.port := rfl
@[simp] theorem setEntry_store (i j : Nat) (d : Pt) (s : State) : (setEntry i j d s).store = s.store := rfl
@[simp] theorem setEntry_rstLow (i j : Nat) (d : Pt) (s : State) : (setEntry i j d s).rstLow = s.rstLow := rfl
@[simp] theorem setEntry_powerOff (i j : Nat) (d : Pt) (s : State) : (setEntry i j d s).powerOff = s.powerOff := rfl
@[simp] theorem setEntry_aselPin (i j : Nat) (d : Pt) (s : State) : (setEntry i j d s).aselPin = s.aselPin := rfl
@[simp] theorem setEntry_freeCount (i j : Nat) (d : Pt) (s : State) : (setEntry i j d s).freeCount = s.freeCount := rfl

@[simp] theorem setSlot_pending (i : Nat) (o : Option SlotRec) (s : State) : (setSlot i o s).pending = s.pending := rfl
@[simp] theorem setSlot_smp (i : Nat) (o : Option SlotRec) (s : State) : (setSlot i o s).smp = s.smp := rfl
@[simp] theorem setSlot_att (i : Nat) (o : Option SlotRec) (s : State) : (setSlot i o s).att = s.att := rfl
@[simp] theorem setSlot_geo (i : Nat) (o : Option SlotRec) (s : State) : (setSlot i o s).geo = s.geo := rfl
@[simp] theorem setSlot_eng (i : Nat) (o : Option SlotRec) (s : State) : (setSlot i o s).eng = s.eng := rfl
@[simp] theorem setSlot_pres (i : Nat) (o : Option SlotRec) (s : State) : (setSlot i o s).pres = s.pres := rfl
@[simp] theorem setSlot_axes (i : Nat) (o : Option SlotRec) (s : State) : (setSlot i o s).axes = s.axes := rfl
@[simp] theorem setSlot_inputs (i : Nat) (o : Option SlotRec) (s : State) : (setSlot i o s).inputs = s.inputs := rfl
@[simp] theorem setSlot_mq (i : Nat) (o : Option SlotRec) (s : State) : (setSlot i o s).mq = s.mq := rfl
@[simp] theorem setSlot_fc (i : Nat) (o : Option SlotRec) (s : State) : (setSlot i o s).fc = s.fc := rfl
@[simp] theorem setSlot_fan (i : Nat) (o : Option SlotRec) (s : State) : (setSlot i o s).fan = s.fan := rfl
@[simp] theorem setSlot_prot (i : Nat) (o : Option SlotRec) (s : State) : (setSlot i o s).prot = s.prot := rfl
@[simp] theorem setSlot_port (i : Nat) (o : Option SlotRec) (s : State) : (setSlot i o s).port = s.port := rfl
@[simp] theorem setSlot_store (i : Nat) (o : Option SlotRec) (s : State) : (setSlot i o s).store = s.store := rfl
@[simp] theorem setSlot_rstLow (i : Nat) (o : Option SlotRec) (s : State) : (setSlot i o s).rstLow = s.rstLow := rfl
@[simp] theorem setSlot_powerOff (i : Nat) (o : Option SlotRec) (s : State) : (setSlot i o s).powerOff = s.powerOff := rfl
@[simp] theorem setSlot_aselPin (i : Nat) (o : Option SlotRec) (s : State) : (setSlot i o s).aselPin = s.aselPin := rfl
@[simp] theorem setSlot_freeCount (i : Nat) (o : Option SlotRec) (s : State) : (setSlot i o s).freeCount = s.freeCount := rfl

@[simp] theorem setFanSettings_pending (f : Fan) (g : FanSettings) (s : State) : (setFanSettings f g s).pending = s.pending := rfl
@[simp] theorem setFanSettings_smp (f : Fan) (g : FanSettings) (s : State) : (setFanSettings f g s).smp = s.smp := rfl
@[simp] theorem setFanSettings_att (f : Fan) (g : FanSettings) (s : State) : (setFanSettings f g s).att = s.att := rfl
@[simp] theorem setFanSettings_geo (f : Fan) (g : FanSettings) (s : State) : (setFanSettings f g s).geo = s.geo := rfl
@[simp] theorem setFanSettings_eng (f : Fan) (g : FanSettings) (s : State) : (setFanSettings f g s).eng = s.eng := rfl
@[simp] theorem setFanSettings_pres (f : Fan) (g : FanSettings) (s : State) : (setFanSettings f g s).pres = s.pres := rfl
@[simp] theorem setFanSettings_axes (f : Fan) (g : FanSettings) (s : State) : (setFanSettings f g s).axes = s.axes := rfl
@[simp] theorem setFanSettings_inputs (f : Fan) (g : FanSettings) (s : State) : (setFanSettings f g s).inputs = s.inputs := rfl
@[simp] theorem setFanSettings_mq (f : Fan) (g : FanSettings) (s : State) : (setFanSettings f g s).mq = s.mq := rfl
@[simp] theorem setFanSettings_fc (f : Fan) (g : FanSettings) (s : State) : (setFanSettings f g s).fc = s.fc := rfl
@[simp] theorem setFanSettings_fan (f : Fan) (g : FanSettings) (s : State) : (setFanSettings f g s).fan = s.fan := rfl
@[simp] theorem setFanSettings_prot (f : Fan) (g : FanSettings) (s : State) : (setFanSettings f g s).prot = s.prot := rfl
@[simp] theorem setFanSettings_port (f : Fan) (g : FanSettings) (s : State) : (setFanSettings f g s).port = s.port := rfl
@[simp] theorem setFanSettings_store (f : Fan) (g : FanSettings) (s : State) : (setFanSettings f g s).store = s.store := rfl
@[simp] theorem setFanSettings_rstLow (f : Fan) (g : FanSettings) (s : State) : (setFanSettings f g s).rstLow = s.rstLow := rfl
@[simp] theorem setFanSettings_powerOff (f : Fan) (g : FanSettings) (s : State) : (setFanSettings f g s).powerOff = s.powerOff := rfl
@[simp] theorem setFanSettings_aselPin (f : Fan) (g : FanSettings) (s : State) : (setFanSettings f g s).aselPin = s.aselPin := rfl
@[simp] theorem setFanSettings_freeCount (f : Fan) (g : FanSettings) (s : State) : (setFanSettings f g s).freeCount = s.freeCount := rfl

@[simp] theorem updateRequest_pending (k : Nat) (f : Request → Request) (s : State) : (updateRequest k f s).pending = s.pending := rfl
@[simp] theorem updateRequest_set (k : Nat) (f : Request → Request) (s : State) : (updateRequest k f s).set = s.set := rfl
@[simp] theorem updateRequest_smp (k : Nat) (f : Request → Request) (s : State) : (updateRequest k f s).smp = s.smp := rfl
@[simp] theorem updateRequest_att (k : Nat) (f : Request → Request) (s : State) : (updateRequest k f s).att = s.att := rfl
@[simp] theorem updateRequest_geo (k : Nat) (f : Request → Request) (s : State) : (updateRequest k f s).geo = s.geo := rfl
@[simp] theorem updateRequest_eng (k : Nat) (f : Request → Request) (s : State) : (updateRequest k f s).eng = s.eng := rfl
@[simp] theorem updateRequest_pres (k : Nat) (f : Request → Request) (s : State) : (updateRequest k f s).pres = s.pres := rfl
@[simp] theorem updateRequest_axes (k : Nat) (f : Request → Request) (s : State) : (updateRequest k f s).axes = s.axes := rfl
@[simp] theorem updateRequest_inputs (k : Nat) (f : Request → Request) (s : State) : (updateRequest k f s).inputs = s.inputs := rfl
@[simp] theorem updateRequest_fc (k : Nat) (f : Request → Request) (s : State) : (updateRequest k f s).fc = s.fc := rfl
@[simp] theorem updateRequest_fan (k : Nat) (f : Request → Request) (s : State) : (updateRequest k f s).fan = s.fan := rfl
@[simp] theorem updateRequest_prot (k : Nat) (f : Request → Request) (s : State) : (updateRequest k f s).prot = s.prot := rfl
@[simp] theorem updateRequest_port (k : Nat) (f : Request → Request) (s : State) : (updateRequest k f s).port = s.port := rfl
@[simp] theorem updateRequest_store (k : Nat) (f : Request → Request) (s : State) : (updateRequest k f s).store = s.store := rfl
@[simp] theorem updateRequest_rstLow (k : Nat) (f : Request → Request) (s : State) : (updateRequest k f s).rstLow = s.rstLow := rfl
@[simp] theorem updateRequest_powerOff (k : Nat) (f : Request → Request) (s : State) : (updateRequest k f s).powerOff = s.powerOff := rfl
@[simp] theorem updateRequest_aselPin (k : Nat) (f : Request → Request) (s : State) : (updateRequest k f s).aselPin = s.aselPin := rfl
@[simp] theorem updateRequest_freeCount (k : Nat) (f : Request → Request) (s : State) : (updateRequest k f s).freeCount = s.freeCount := rfl

@[simp] theorem removeWaitingComp_pending (s : State) : (removeWaitingComp s).pending = s.pending := rfl
@[simp] theorem removeWaitingComp_set (s : State) : (removeWaitingComp s).set = s.set := rfl
@[simp] theorem removeWaitingComp_smp (s : State) : (removeWaitingComp s).smp = s.smp := rfl
@[simp] theorem removeWaitingComp_att (s : State) : (removeWaitingComp s).att = s.att := rfl
@[simp] theorem removeWaitingComp_geo (s : State) : (removeWaitingComp s).geo = s.geo := rfl
@[simp] theorem removeWaitingComp_eng (s : State) : (removeWaitingComp s).eng = s.eng := rfl
@[simp] theorem removeWaitingComp_pres (s : State) : (removeWaitingComp s).pres = s.pres := rfl
@[simp] theorem removeWaitingComp_axes (s : State) : (removeWaitingComp s).axes = s.axes := rfl
@[simp] theorem removeWaitingComp_inputs (s : State) : (removeWaitingComp s).inputs = s.inputs := rfl
@[simp] theorem removeWaitingComp_fc (s : State) : (removeWaitingComp s).fc = s.fc := rfl
@[simp] theorem removeWaitingComp_fan (s : State) : (removeWaitingComp s).fan = s.fan := rfl
@[simp] theorem removeWaitingComp_prot (s : State) : (removeWaitingComp s).prot = s.prot := rfl
@[simp] theorem removeWaitingComp_port (s : State) : (removeWaitingComp s).port = s.port := rfl
@[simp] theorem removeWaitingComp_store (s : State) : (removeWaitingComp s).store = s.store := rfl
@[simp] theorem removeWaitingComp_rstLow (s : State) : (removeWaitingComp s).rstLow = s.rstLow := rfl
@[simp] theorem removeWaitingComp_powerOff (s : State) : (removeWaitingComp s).powerOff = s.powerOff := rfl
@[simp] theorem removeWaitingComp_aselPin (s : State) : (removeWaitingComp s).aselPin = s.aselPin := rfl
@[simp] theorem removeWaitingComp_freeCount (s : State) : (removeWaitingComp s).freeCount = s.freeCount := rfl

@[simp] theorem joinQueue_pending (r : Request) (s : State) : (joinQueue r s).pending = s.pending := rfl
@[simp] theorem joinQueue_set (r : Request) (s : State) : (joinQueue r s).set = s.set := rfl
@[simp] theorem joinQueue_smp (r : Request) (s : State) : (joinQueue r s).smp = s.smp := rfl
@[simp] theorem joinQueue_att (r : Request) (s : State) : (joinQueue r s).att = s.att := rfl
@[simp] theorem joinQueue_geo (r : Request) (s : State) : (joinQueue r s).geo = s.geo := rfl
@[simp] theorem joinQueue_eng (r : Request) (s : State) : (joinQueue r s).eng = s.eng := rfl
@[simp] theorem joinQueue_pres (r : Request) (s : State) : (joinQueue r s).pres = s.pres := rfl
@[simp] theorem joinQueue_axes (r : Request) (s : State) : (joinQueue r s).axes = s.axes := rfl
@[simp] theorem joinQueue_inputs (r : Request) (s : State) : (joinQueue r s).inputs = s.inputs := rfl
@[simp] theorem joinQueue_fc (r : Request) (s : State) : (joinQueue r s).fc = s.fc := rfl
@[simp] theorem joinQueue_fan (r : Request) (s : State) : (joinQueue r s).fan = s.fan := rfl
@[simp] theorem joinQueue_prot (r : Request) (s : State) : (joinQueue r s).prot = s.prot := rfl
@[simp] theorem joinQueue_port (r : Request) (s : State) : (joinQueue r s).port = s.port := rfl
@[simp] theorem joinQueue_store (r : Request) (s : State) : (joinQueue r s).store = s.store := rfl
@[simp] theorem joinQueue_rstLow (r : Request) (s : State) : (joinQueue r s).rstLow = s.rstLow := rfl
@[simp] theorem joinQueue_powerOff (r : Request) (s : State) : (joinQueue r s).powerOff = s.powerOff := rfl
@[simp] theorem joinQueue_aselPin (r : Request) (s : State) : (joinQueue r s).aselPin = s.aselPin := rfl
@[simp] theorem joinQueue_freeCount (r : Request) (s : State) : (joinQueue r s).freeCount = s.freeCount := rfl

@[simp] theorem dropRequest_pending (k : Nat) (s : State) : (dropRequest k s).pending = s.pending := rfl
@[simp] theorem dropRequest_set (k : Nat) (s : State) : (dropRequest k s).set = s.set := rfl
@[simp] theorem dropRequest_smp (k : Nat) (s : State) : (dropRequest k s).smp = s.smp := rfl
@[simp] theorem dropRequest_att (k : Nat) (s : State) : (dropRequest k s).att = s.att := rfl
@[simp] theorem dropRequest_geo (k : Nat) (s : State) : (dropRequest k s).geo = s.geo := rfl
@[simp] theorem dropRequest_eng (k : Nat) (s : State) : (dropRequest k s).eng = s.eng := rfl
@[simp] theorem dropRequest_pres (k : Nat) (s : State) : (dropRequest k s).pres = s.pres := rfl
@[simp] theorem dropRequest_inputs (k : Nat) (s : State) : (dropRequest k s).inputs = s.inputs := rfl
@[simp] theorem dropRequest_fc (k : Nat) (s : State) : (dropRequest k s).fc = s.fc := rfl
@[simp] theorem dropRequest_fan (k : Nat) (s : State) : (dropRequest k s).fan = s.fan := rfl
@[simp] theorem dropRequest_prot (k : Nat) (s : State) : (dropRequest k s).prot = s.prot := rfl
@[simp] theorem dropRequest_port (k : Nat) (s : State) : (dropRequest k s).port = s.port := rfl
@[simp] theorem dropRequest_store (k : Nat) (s : State) : (dropRequest k s).store = s.store := rfl
@[simp] theorem dropRequest_rstLow (k : Nat) (s : State) : (dropRequest k s).rstLow = s.rstLow := rfl
@[simp] theorem dropRequest_powerOff (k : Nat) (s : State) : (dropRequest k s).powerOff = s.powerOff := rfl
@[simp] theorem dropRequest_aselPin (k : Nat) (s : State) : (dropRequest k s).aselPin = s.aselPin := rfl
@[simp] theorem dropRequest_freeCount (k : Nat) (s : State) : (dropRequest k s).freeCount = s.freeCount := rfl

@[simp] theorem bindRequest_pending (r : Request) (s : State) : (bindRequest r s).pending = s.pending := rfl
@[simp] theorem bindRequest_set (r : Request) (s : State) : (bindRequest r s).set = s.set := rfl
@[simp] theorem bindRequest_smp (r : Request) (s : State) : (bindRequest r s).smp = s.smp := rfl
@[simp] theorem bindRequest_att (r : Request) (s : State) : (bindRequest r s).att = s.att := rfl
@[simp] theorem bindRequest_geo (r : Request) (s : State) : (bindRequest r s).geo = s.geo := rfl
@[simp] theorem bindRequest_eng (r : Request) (s : State) : (bindRequest r s).eng = s.eng := rfl
@[simp] theorem bindRequest_pres (r : Request) (s : State) : (bindRequest r s).pres = s.pres := rfl
@[simp] theorem bindRequest_inputs (r : Request) (s : State) : (bindRequest r s).inputs = s.inputs := rfl
@[simp] theorem bindRequest_fc (r : Request) (s : State) : (bindRequest r s).fc = s.fc := rfl
@[simp] theorem bindRequest_fan (r : Request) (s : State) : (bindRequest r s).fan = s.fan := rfl
@[simp] theorem bindRequest_prot (r : Request) (s : State) : (bindRequest r s).prot = s.prot := rfl
@[simp] theorem bindRequest_port (r : Request) (s : State) : (bindRequest r s).port = s.port := rfl
@[simp] theorem bindRequest_store (r : Request) (s : State) : (bindRequest r s).store = s.store := rfl
@[simp] theorem bindRequest_rstLow (r : Request) (s : State) : (bindRequest r s).rstLow = s.rstLow := rfl
@[simp] theorem bindRequest_powerOff (r : Request) (s : State) : (bindRequest r s).powerOff = s.powerOff := rfl
@[simp] theorem bindRequest_aselPin (r : Request) (s : State) : (bindRequest r s).aselPin = s.aselPin := rfl
@[simp] theorem bindRequest_freeCount (r : Request) (s : State) : (bindRequest r s).freeCount = s.freeCount := rfl

@[simp] theorem handTargets_pending (r : Request) (o : Option SlotRec) (s : State) : (handTargets r o s).pending = s.pending := rfl
@[simp] theorem handTargets_set (r : Request) (o : Option SlotRec) (s : State) : (handTargets r o s).set = s.set := rfl
@[simp] theorem handTargets_smp (r : Request) (o : Option SlotRec) (s : State) : (handTargets r o s).smp = s.smp := rfl
@[simp] theorem handTargets_att (r : Request) (o : Option SlotRec) (s : State) : (handTargets r o s).att = s.att := rfl
@[simp] theorem handTargets_geo (r : Request) (o : Option SlotRec) (s : State) : (handTargets r o s).geo = s.geo := rfl
@[simp] theorem handTargets_eng (r : Request) (o : Option SlotRec) (s : State) : (handTargets r o s).eng = s.eng := rfl
@[simp] theorem handTargets_pres (r : Request) (o : Option SlotRec) (s : State) : (handTargets r o s).pres = s.pres := rfl
@[simp] theorem handTargets_inputs (r : Request) (o : Option SlotRec) (s : State) : (handTargets r o s).inputs = s.inputs := rfl
@[simp] theorem handTargets_fc (r : Request) (o : Option SlotRec) (s : State) : (handTargets r o s).fc = s.fc := rfl
@[simp] theorem handTargets_fan (r : Request) (o : Option SlotRec) (s : State) : (handTargets r o s).fan = s.fan := rfl
@[simp] theorem handTargets_prot (r : Request) (o : Option SlotRec) (s : State) : (handTargets r o s).prot = s.prot := rfl
@[simp] theorem handTargets_port (r : Request) (o : Option SlotRec) (s : State) : (handTargets r o s).port = s.port := rfl
@[simp] theorem handTargets_store (r : Request) (o : Option SlotRec) (s : State) : (handTargets r o s).store = s.store := rfl
@[simp] theorem handTargets_rstLow (r : Request) (o : Option SlotRec) (s : State) : (handTargets r o s).rstLow = s.rstLow := rfl
@[simp] theorem handTargets_powerOff (r : Request) (o : Option SlotRec) (s : State) : (handTargets r o s).powerOff = s.powerOff := rfl
@[simp] theorem handTargets_aselPin (r : Request) (o : Option SlotRec) (s : State) : (handTargets r o s).aselPin = s.aselPin := rfl
@[simp] theorem handTargets_freeCount (r : Request) (o : Option SlotRec) (s : State) : (handTargets r o s).freeCount = s.freeCount := rfl

@[simp] theorem stopAxes_pending (w : PerAxis Bool) (s : State) : (stopAxes w s).pending = s.pending := rfl
@[simp] theorem stopAxes_set (w : PerAxis Bool) (s : State) : (stopAxes w s).set = s.set := rfl
@[simp] theorem stopAxes_smp (w : PerAxis Bool) (s : State) : (stopAxes w s).smp = s.smp := rfl
@[simp] theorem stopAxes_att (w : PerAxis Bool) (s : State) : (stopAxes w s).att = s.att := rfl
@[simp] theorem stopAxes_geo (w : PerAxis Bool) (s : State) : (stopAxes w s).geo = s.geo := rfl
@[simp] theorem stopAxes_eng (w : PerAxis Bool) (s : State) : (stopAxes w s).eng = s.eng := rfl
@[simp] theorem stopAxes_pres (w : PerAxis Bool) (s : State) : (stopAxes w s).pres = s.pres := rfl
@[simp] theorem stopAxes_inputs (w : PerAxis Bool) (s : State) : (stopAxes w s).inputs = s.inputs := rfl
@[simp] theorem stopAxes_mq (w : PerAxis Bool) (s : State) : (stopAxes w s).mq = s.mq := rfl
@[simp] theorem stopAxes_fc (w : PerAxis Bool) (s : State) : (stopAxes w s).fc = s.fc := rfl
@[simp] theorem stopAxes_fan (w : PerAxis Bool) (s : State) : (stopAxes w s).fan = s.fan := rfl
@[simp] theorem stopAxes_prot (w : PerAxis Bool) (s : State) : (stopAxes w s).prot = s.prot := rfl
@[simp] theorem stopAxes_port (w : PerAxis Bool) (s : State) : (stopAxes w s).port = s.port := rfl
@[simp] theorem stopAxes_store (w : PerAxis Bool) (s : State) : (stopAxes w s).store = s.store := rfl
@[simp] theorem stopAxes_rstLow (w : PerAxis Bool) (s : State) : (stopAxes w s).rstLow = s.rstLow := rfl
@[simp] theorem stopAxes_powerOff (w : PerAxis Bool) (s : State) : (stopAxes w s).powerOff = s.powerOff := rfl
@[simp] theorem stopAxes_aselPin (w : PerAxis Bool) (s : State) : (stopAxes w s).aselPin = s.aselPin := rfl
@[simp] theorem stopAxes_freeCount (w : PerAxis Bool) (s : State) : (stopAxes w s).freeCount = s.freeCount := rfl

@[simp] theorem beginComputation_pending (i : BankId) (s : State) : (beginComputation i s).pending = s.pending := rfl
@[simp] theorem beginComputation_set (i : BankId) (s : State) : (beginComputation i s).set = s.set := rfl
@[simp] theorem beginComputation_smp (i : BankId) (s : State) : (beginComputation i s).smp = s.smp := rfl
@[simp] theorem beginComputation_att (i : BankId) (s : State) : (beginComputation i s).att = s.att := rfl
@[simp] theorem beginComputation_geo (i : BankId) (s : State) : (beginComputation i s).geo = s.geo := rfl
@[simp] theorem beginComputation_pres (i : BankId) (s : State) : (beginComputation i s).pres = s.pres := rfl
@[simp] theorem beginComputation_axes (i : BankId) (s : State) : (beginComputation i s).axes = s.axes := rfl
@[simp] theorem beginComputation_inputs (i : BankId) (s : State) : (beginComputation i s).inputs = s.inputs := rfl
@[simp] theorem beginComputation_mq (i : BankId) (s : State) : (beginComputation i s).mq = s.mq := rfl
@[simp] theorem beginComputation_fc (i : BankId) (s : State) : (beginComputation i s).fc = s.fc := rfl
@[simp] theorem beginComputation_fan (i : BankId) (s : State) : (beginComputation i s).fan = s.fan := rfl
@[simp] theorem beginComputation_prot (i : BankId) (s : State) : (beginComputation i s).prot = s.prot := rfl
@[simp] theorem beginComputation_port (i : BankId) (s : State) : (beginComputation i s).port = s.port := rfl
@[simp] theorem beginComputation_store (i : BankId) (s : State) : (beginComputation i s).store = s.store := rfl
@[simp] theorem beginComputation_rstLow (i : BankId) (s : State) : (beginComputation i s).rstLow = s.rstLow := rfl
@[simp] theorem beginComputation_powerOff (i : BankId) (s : State) : (beginComputation i s).powerOff = s.powerOff := rfl
@[simp] theorem beginComputation_aselPin (i : BankId) (s : State) : (beginComputation i s).aselPin = s.aselPin := rfl
@[simp] theorem beginComputation_freeCount (i : BankId) (s : State) : (beginComputation i s).freeCount = s.freeCount := rfl

/-! ## The records of like things: a read after a write -/

@[simp] theorem PerAxis.get_set_same {α : Type} (v : PerAxis α) (x : Axis) (a : α) : (v.set x a).get x = a := by
  cases x <;> rfl

theorem PerAxis.get_set_other {α : Type} (v : PerAxis α) (x y : Axis) (a : α) (h : x ≠ y) :
    (v.set x a).get y = v.get y := by
  cases x <;> cases y <;> first | rfl | exact absurd rfl h

@[simp] theorem PerAxis.get_map {α β : Type} (f : Axis → α → β) (v : PerAxis α) (x : Axis) :
    (v.map f).get x = f x (v.get x) := by
  cases x <;> rfl

@[simp] theorem PerAxis.get_const {α : Type} (a : α) (x : Axis) : (PerAxis.const a).get x = a := by
  cases x <;> rfl

@[simp] theorem PerFan.get_set_same {α : Type} (v : PerFan α) (f : Fan) (a : α) : (v.set f a).get f = a := by
  cases f <;> rfl

theorem PerFan.get_set_other {α : Type} (v : PerFan α) (f g : Fan) (a : α) (h : f ≠ g) :
    (v.set f a).get g = v.get g := by
  cases f <;> cases g <;> first | rfl | exact absurd rfl h

@[simp] theorem PerFan.get_map {α β : Type} (h : Fan → α → β) (v : PerFan α) (f : Fan) :
    (v.map h).get f = h f (v.get f) := by
  cases f <;> rfl

@[simp] theorem PerFan.get_const {α : Type} (a : α) (f : Fan) : (PerFan.const a).get f = a := by
  cases f <;> rfl

@[simp] theorem PerPort.get_set_same {α : Type} (v : PerPort α) (p : Port) (a : α) : (v.set p a).get p = a := by
  cases p <;> rfl

theorem PerPort.get_set_other {α : Type} (v : PerPort α) (p q : Port) (a : α) (h : p ≠ q) :
    (v.set p a).get q = v.get q := by
  cases p <;> cases q <;> first | rfl | exact absurd rfl h

@[simp] theorem PerAngle.get_set_same {α : Type} (v : PerAngle α) (c : AngleCh) (a : α) : (v.set c a).get c = a := by
  cases c <;> rfl

theorem PerAngle.get_set_other {α : Type} (v : PerAngle α) (c d : AngleCh) (a : α) (h : c ≠ d) :
    (v.set c a).get d = v.get d := by
  cases c <;> cases d <;> first | rfl | exact absurd rfl h

@[simp] theorem PerBank.get_set_same (v : PerBank) (i : BankId) (b : Bank) : (v.set i b).get i = b := by
  cases i <;> rfl

theorem PerBank.get_set_other (v : PerBank) (i j : BankId) (b : Bank) (h : i ≠ j) : (v.set i b).get j = v.get j := by
  cases i <;> cases j <;> first | rfl | exact absurd rfl h

/-! ## What the operations on one axis record leave -/

@[simp] theorem settleAxis_state (r : AxisRec) : (settleAxis r).state = .settling := rfl
@[simp] theorem settleAxis_position (r : AxisRec) : (settleAxis r).position = r.position := rfl
@[simp] theorem settleAxis_target (r : AxisRec) : (settleAxis r).target = none := rfl
@[simp] theorem settleAxis_leg (r : AxisRec) : (settleAxis r).leg = .none := rfl
@[simp] theorem settleAxis_running (r : AxisRec) : (settleAxis r).running = r.running := rfl
@[simp] theorem settleAxis_dir (r : AxisRec) : (settleAxis r).dir = r.dir := rfl
@[simp] theorem settleAxis_jogDir (r : AxisRec) : (settleAxis r).jogDir = r.jogDir := rfl
@[simp] theorem settleAxis_legStart (r : AxisRec) : (settleAxis r).legStart = r.legStart := rfl
@[simp] theorem settleAxis_legEnd (r : AxisRec) : (settleAxis r).legEnd = r.legEnd := rfl

@[simp] theorem haltAxis_state (k : AxisState) (r : AxisRec) : (haltAxis k r).state = k := rfl
@[simp] theorem haltAxis_position (k : AxisState) (r : AxisRec) : (haltAxis k r).position = r.position := rfl
@[simp] theorem haltAxis_target (k : AxisState) (r : AxisRec) : (haltAxis k r).target = none := rfl
@[simp] theorem haltAxis_leg (k : AxisState) (r : AxisRec) : (haltAxis k r).leg = .none := rfl
@[simp] theorem haltAxis_running (k : AxisState) (r : AxisRec) : (haltAxis k r).running = r.running := rfl
@[simp] theorem haltAxis_dir (k : AxisState) (r : AxisRec) : (haltAxis k r).dir = r.dir := rfl
@[simp] theorem haltAxis_jogDir (k : AxisState) (r : AxisRec) : (haltAxis k r).jogDir = r.jogDir := rfl
@[simp] theorem haltAxis_legStart (k : AxisState) (r : AxisRec) : (haltAxis k r).legStart = r.legStart := rfl
@[simp] theorem haltAxis_legEnd (k : AxisState) (r : AxisRec) : (haltAxis k r).legEnd = r.legEnd := rfl

@[simp] theorem planRest_state (slow fast stop : Int) (r : AxisRec) : (planRest slow fast stop r).state = r.state := rfl
@[simp] theorem planRest_position (slow fast stop : Int) (r : AxisRec) : (planRest slow fast stop r).position = r.position := rfl
@[simp] theorem planRest_target (slow fast stop : Int) (r : AxisRec) : (planRest slow fast stop r).target = r.target := rfl
@[simp] theorem planRest_leg (slow fast stop : Int) (r : AxisRec) : (planRest slow fast stop r).leg = r.leg := rfl
@[simp] theorem planRest_running (slow fast stop : Int) (r : AxisRec) : (planRest slow fast stop r).running = r.running := rfl
@[simp] theorem planRest_dir (slow fast stop : Int) (r : AxisRec) : (planRest slow fast stop r).dir = r.dir := rfl
@[simp] theorem planRest_jogDir (slow fast stop : Int) (r : AxisRec) : (planRest slow fast stop r).jogDir = r.jogDir := rfl
@[simp] theorem planRest_legStart (slow fast stop : Int) (r : AxisRec) : (planRest slow fast stop r).legStart = r.legStart := rfl
@[simp] theorem planRest_legEnd (slow fast stop : Int) (r : AxisRec) : (planRest slow fast stop r).legEnd = r.legEnd := rfl

@[simp] theorem slowJog_state (g : AxisSettings) (r : AxisRec) : (slowJog g r).state = r.state := rfl
@[simp] theorem slowJog_position (g : AxisSettings) (r : AxisRec) : (slowJog g r).position = r.position := rfl
@[simp] theorem slowJog_target (g : AxisSettings) (r : AxisRec) : (slowJog g r).target = r.target := rfl
@[simp] theorem slowJog_leg (g : AxisSettings) (r : AxisRec) : (slowJog g r).leg = r.leg := rfl
@[simp] theorem slowJog_running (g : AxisSettings) (r : AxisRec) : (slowJog g r).running = r.running := rfl
@[simp] theorem slowJog_dir (g : AxisSettings) (r : AxisRec) : (slowJog g r).dir = r.dir := rfl
@[simp] theorem slowJog_jogDir (g : AxisSettings) (r : AxisRec) : (slowJog g r).jogDir = r.jogDir := rfl
@[simp] theorem slowJog_legStart (g : AxisSettings) (r : AxisRec) : (slowJog g r).legStart = r.legStart := rfl
@[simp] theorem slowJog_legEnd (g : AxisSettings) (r : AxisRec) : (slowJog g r).legEnd = r.legEnd := rfl

@[simp] theorem stopInLeg_state (g : AxisSettings) (r : AxisRec) : (stopInLeg g r).state = r.state := rfl
@[simp] theorem stopInLeg_position (g : AxisSettings) (r : AxisRec) : (stopInLeg g r).position = r.position := rfl
@[simp] theorem stopInLeg_target (g : AxisSettings) (r : AxisRec) : (stopInLeg g r).target = r.target := rfl
@[simp] theorem stopInLeg_leg (g : AxisSettings) (r : AxisRec) : (stopInLeg g r).leg = .stopping := rfl
@[simp] theorem stopInLeg_running (g : AxisSettings) (r : AxisRec) : (stopInLeg g r).running = r.running := rfl
@[simp] theorem stopInLeg_dir (g : AxisSettings) (r : AxisRec) : (stopInLeg g r).dir = r.dir := rfl
@[simp] theorem stopInLeg_jogDir (g : AxisSettings) (r : AxisRec) : (stopInLeg g r).jogDir = r.jogDir := rfl
@[simp] theorem stopInLeg_legStart (g : AxisSettings) (r : AxisRec) : (stopInLeg g r).legStart = r.legStart := rfl
@[simp] theorem stopInLeg_legEnd (g : AxisSettings) (r : AxisRec) : (stopInLeg g r).legEnd = r.legEnd := rfl

@[simp] theorem changeLevel_state (g : AxisSettings) (n : Nat) (r : AxisRec) : (changeLevel g n r).state = r.state := rfl
@[simp] theorem changeLevel_position (g : AxisSettings) (n : Nat) (r : AxisRec) : (changeLevel g n r).position = r.position := rfl
@[simp] theorem changeLevel_target (g : AxisSettings) (n : Nat) (r : AxisRec) : (changeLevel g n r).target = r.target := rfl
@[simp] theorem changeLevel_leg (g : AxisSettings) (n : Nat) (r : AxisRec) : (changeLevel g n r).leg = r.leg := rfl
@[simp] theorem changeLevel_running (g : AxisSettings) (n : Nat) (r : AxisRec) : (changeLevel g n r).running = r.running := rfl
@[simp] theorem changeLevel_dir (g : AxisSettings) (n : Nat) (r : AxisRec) : (changeLevel g n r).dir = r.dir := rfl
@[simp] theorem changeLevel_jogDir (g : AxisSettings) (n : Nat) (r : AxisRec) : (changeLevel g n r).jogDir = r.jogDir := rfl
@[simp] theorem changeLevel_legStart (g : AxisSettings) (n : Nat) (r : AxisRec) : (changeLevel g n r).legStart = r.legStart := rfl
@[simp] theorem changeLevel_legEnd (g : AxisSettings) (n : Nat) (r : AxisRec) : (changeLevel g n r).legEnd = r.legEnd := rfl

@[simp] theorem beginRun_state (g : AxisSettings) (d : StepDir) (r : AxisRec) : (beginRun g d r).state = r.state := rfl
@[simp] theorem beginRun_position (g : AxisSettings) (d : StepDir) (r : AxisRec) : (beginRun g d r).position = r.position := rfl
@[simp] theorem beginRun_target (g : AxisSettings) (d : StepDir) (r : AxisRec) : (beginRun g d r).target = r.target := rfl
@[simp] theorem beginRun_leg (g : AxisSettings) (d : StepDir) (r : AxisRec) : (beginRun g d r).leg = .run := rfl
@[simp] theorem beginRun_running (g : AxisSettings) (d : StepDir) (r : AxisRec) : (beginRun g d r).running = r.running := rfl
@[simp] theorem beginRun_dir (g : AxisSettings) (d : StepDir) (r : AxisRec) : (beginRun g d r).dir = d := rfl
@[simp] theorem beginRun_jogDir (g : AxisSettings) (d : StepDir) (r : AxisRec) : (beginRun g d r).jogDir = d := rfl
@[simp] theorem beginRun_legStart (g : AxisSettings) (d : StepDir) (r : AxisRec) : (beginRun g d r).legStart = r.position := rfl
@[simp] theorem beginRun_legEnd (g : AxisSettings) (d : StepDir) (r : AxisRec) : (beginRun g d r).legEnd = r.legEnd := rfl
@[simp] theorem beginRun_jogSlow (g : AxisSettings) (d : StepDir) (r : AxisRec) : (beginRun g d r).jogSlow = g.startSpeed * g.startSpeed := rfl
@[simp] theorem beginRun_jogFast (g : AxisSettings) (d : StepDir) (r : AxisRec) : (beginRun g d r).jogFast = g.startSpeed * g.startSpeed := rfl
@[simp] theorem beginRun_jogLow (g : AxisSettings) (d : StepDir) (r : AxisRec) : (beginRun g d r).jogLow = levelSpeed g r.jogLevel := rfl
@[simp] theorem beginRun_jogPeak (g : AxisSettings) (d : StepDir) (r : AxisRec) : (beginRun g d r).jogPeak = levelSpeed g r.jogLevel := rfl

@[simp] theorem followPace_state (g : AxisSettings) (r : AxisRec) : (followPace g r).state = r.state := rfl
@[simp] theorem followPace_position (g : AxisSettings) (r : AxisRec) : (followPace g r).position = r.position := rfl
@[simp] theorem followPace_target (g : AxisSettings) (r : AxisRec) : (followPace g r).target = r.target := rfl
@[simp] theorem followPace_leg (g : AxisSettings) (r : AxisRec) : (followPace g r).leg = r.leg := rfl
@[simp] theorem followPace_running (g : AxisSettings) (r : AxisRec) : (followPace g r).running = r.running := rfl
@[simp] theorem followPace_dir (g : AxisSettings) (r : AxisRec) : (followPace g r).dir = r.dir := rfl
@[simp] theorem followPace_jogDir (g : AxisSettings) (r : AxisRec) : (followPace g r).jogDir = r.jogDir := rfl
@[simp] theorem followPace_legStart (g : AxisSettings) (r : AxisRec) : (followPace g r).legStart = r.legStart := rfl
@[simp] theorem followPace_legEnd (g : AxisSettings) (r : AxisRec) : (followPace g r).legEnd = r.legEnd := rfl
@[simp] theorem followPace_jogLevel (g : AxisSettings) (r : AxisRec) : (followPace g r).jogLevel = r.jogLevel := rfl
@[simp] theorem followPace_stopLo (g : AxisSettings) (r : AxisRec) : (followPace g r).stopLo = r.stopLo := rfl
@[simp] theorem followPace_stopHi (g : AxisSettings) (r : AxisRec) : (followPace g r).stopHi = r.stopHi := rfl

@[simp] theorem startTimeout_state (t : Int) (r : AxisRec) : (startTimeout t r).state = r.state := rfl
@[simp] theorem startTimeout_position (t : Int) (r : AxisRec) : (startTimeout t r).position = r.position := rfl
@[simp] theorem startTimeout_target (t : Int) (r : AxisRec) : (startTimeout t r).target = r.target := rfl
@[simp] theorem startTimeout_leg (t : Int) (r : AxisRec) : (startTimeout t r).leg = r.leg := rfl
@[simp] theorem startTimeout_running (t : Int) (r : AxisRec) : (startTimeout t r).running = r.running := rfl
@[simp] theorem startTimeout_dir (t : Int) (r : AxisRec) : (startTimeout t r).dir = r.dir := rfl
@[simp] theorem startTimeout_jogDir (t : Int) (r : AxisRec) : (startTimeout t r).jogDir = r.jogDir := rfl
@[simp] theorem startTimeout_legStart (t : Int) (r : AxisRec) : (startTimeout t r).legStart = r.legStart := rfl
@[simp] theorem startTimeout_legEnd (t : Int) (r : AxisRec) : (startTimeout t r).legEnd = r.legEnd := rfl
@[simp] theorem startTimeout_jogTimer (t : Int) (r : AxisRec) : (startTimeout t r).jogTimer = some t := rfl
@[simp] theorem startTimeout_jogRun (t : Int) (r : AxisRec) : (startTimeout t r).jogRun = r.jogRun + 1 := rfl

/-- A history never holds more than its bound. -/
theorem length_pushWindow {α : Type} (n : Nat) (l : List α) (x : α) (h : 0 < n) : (pushWindow n l x).length ≤ n := by
  unfold pushWindow
  split <;> simp <;> omega

/-- Every value of a history is an old one or the new one. -/
theorem mem_pushWindow {α : Type} (n : Nat) (l : List α) (x y : α) (h : y ∈ pushWindow n l x) : y ∈ l ∨ y = x := by
  unfold pushWindow at h
  split at h
  · rcases List.mem_append.mp h with h | h
    · exact .inl (List.mem_of_mem_drop h)
    · exact .inr (by simpa using h)
  · rcases List.mem_append.mp h with h | h
    · exact .inl h
    · exact .inr (by simpa using h)

/-- A clamped value lies in its range. -/
theorem clamp_range (a b x : Int) (h : a ≤ b) : a ≤ clamp a b x ∧ clamp a b x ≤ b := by
  unfold clamp
  split
  · omega
  · split <;> omega

/-- A value in the range is not changed by a clamp. -/
theorem clamp_of_within (a b x : Int) (h : a ≤ x ∧ x ≤ b) : clamp a b x = x := by
  unfold clamp
  rw [if_neg (by omega)]
  split <;> omega

/-- The magnitude in terms of its two cases. -/
theorem mag_eq (x : Int) : (0 ≤ x ∧ mag x = x) ∨ (x < 0 ∧ mag x = -x) := by
  unfold mag
  split <;> omega

/-- Rounding stays between whole bounds: n / d from a to b rounds to a value from a to b (00, Arithmetic). -/
theorem roundDiv_range (n d a b : Int) (hd : 0 < d) (ha : a * d ≤ n) (hb : n ≤ b * d) :
    a ≤ roundDiv n d ∧ roundDiv n d ≤ b := by
  unfold roundDiv
  constructor
  · rw [Int.le_ediv_iff_mul_le (by omega)]
    nlinarith
  · have : (2 * n + d) / (2 * d) < b + 1 := by
      rw [Int.ediv_lt_iff_lt_mul (by omega)]
      nlinarith
    omega

end Sys2Proof.Machine
end

