-- ==== Sys2Proof/Laws/Ops.lean ====
section
/-! SUPPORT. What the shared operations of the Port Unit can do: one lemma for each way in which a command is taken, and
the frames of raising an event and placing a reply. -/

namespace Sys2Proof.Machine

@[simp] theorem countFrame_deaf (s : State) : (countFrame s).deaf = s.deaf := rfl

@[simp] theorem taken_a (s : State) : taken .a s = s := rfl

@[simp] theorem taken_b (s : State) : taken .b s = countFrame s := rfl

/-- What the counting of a frame leaves, field by field. -/
theorem taken_frame (p : Port) (s : State) :
    (taken p s).pending = s.pending ∧ (taken p s).set = s.set ∧ (taken p s).smp = s.smp ∧ (taken p s).att = s.att
      ∧ (taken p s).geo = s.geo ∧ (taken p s).eng = s.eng ∧ (taken p s).pres = s.pres ∧ (taken p s).axes = s.axes
      ∧ (taken p s).inputs = s.inputs ∧ (taken p s).mq = s.mq ∧ (taken p s).fc = s.fc ∧ (taken p s).fan = s.fan
      ∧ (taken p s).prot = s.prot ∧ (taken p s).store = s.store ∧ (taken p s).freeCount = s.freeCount := by
  cases p <;> exact ⟨rfl, rfl, rfl, rfl, rfl, rfl, rfl, rfl, rfl, rfl, rfl, rfl, rfl, rfl, rfl⟩

@[simp] theorem taken_pending (p : Port) (s : State) : (taken p s).pending = s.pending := by cases p <;> rfl
@[simp] theorem taken_set (p : Port) (s : State) : (taken p s).set = s.set := by cases p <;> rfl
@[simp] theorem taken_smp (p : Port) (s : State) : (taken p s).smp = s.smp := by cases p <;> rfl
@[simp] theorem taken_att (p : Port) (s : State) : (taken p s).att = s.att := by cases p <;> rfl
@[simp] theorem taken_geo (p : Port) (s : State) : (taken p s).geo = s.geo := by cases p <;> rfl
@[simp] theorem taken_eng (p : Port) (s : State) : (taken p s).eng = s.eng := by cases p <;> rfl
@[simp] theorem taken_pres (p : Port) (s : State) : (taken p s).pres = s.pres := by cases p <;> rfl
@[simp] theorem taken_axes (p : Port) (s : State) : (taken p s).axes = s.axes := by cases p <;> rfl
@[simp] theorem taken_inputs (p : Port) (s : State) : (taken p s).inputs = s.inputs := by cases p <;> rfl
@[simp] theorem taken_mq (p : Port) (s : State) : (taken p s).mq = s.mq := by cases p <;> rfl
@[simp] theorem taken_fc (p : Port) (s : State) : (taken p s).fc = s.fc := by cases p <;> rfl
@[simp] theorem taken_fan (p : Port) (s : State) : (taken p s).fan = s.fan := by cases p <;> rfl
@[simp] theorem taken_prot (p : Port) (s : State) : (taken p s).prot = s.prot := by cases p <;> rfl
@[simp] theorem taken_store (p : Port) (s : State) : (taken p s).store = s.store := by cases p <;> rfl
@[simp] theorem taken_freeCount (p : Port) (s : State) : (taken p s).freeCount = s.freeCount := by cases p <;> rfl

/-- A command that reaches its unit: the unit's answer, with its reply placed (10 R168, R170, R173). -/
theorem command_served {α : Type} (p : Port) (id : Byte) (need : Need) (a : α) (unit : α → State → Answer) (s : State)
    (h : canUse p need s) :
    command p id need (.form a) unit s =
      .next (replied p id (unit a (taken p s)).status (unit a (taken p s)).data s (unit a (taken p s)).st) := by
  obtain ⟨hd, hr, hq⟩ := h
  cases p with
  | a => simp [command, answerTo, checked, hd, mayUse, replied]
  | b =>
    have hl := hq rfl
    have hl' : (countFrame s).port.tx.length < 4 := hl
    have hs : mayUse (countFrame s).set.rights .b need = true := hr
    simp [command, answerTo, checked, hd, hl', hr, replied]
    rfl

/-- A command whose parameter bytes match no form: RANGE, and nothing else (10 R173, second check). -/
theorem command_misfit {α : Type} (p : Port) (id : Byte) (need : Need) (unit : α → State → Answer) (s : State)
    (hd : s.deaf = false) (hq : p = .b → s.port.tx.length < 4) :
    command p id need .misfit unit s = .next (replied p id .range [] s (taken p s)) := by
  cases p with
  | a => simp [command, answerTo, checked, hd, replied, refuse]
  | b =>
    have hl' : (countFrame s).port.tx.length < 4 := hq rfl
    simp [command, answerTo, checked, hd, hl', replied, refuse]
    rfl

/-- A command without its right: DENIED, and nothing else (10 R173, third check). -/
theorem command_denied {α : Type} (id : Byte) (need : Need) (a : α) (unit : α → State → Answer) (s : State)
    (hd : s.deaf = false) (hr : mayUse s.set.rights .b need = false) (hq : s.port.tx.length < 4) :
    command .b id need (.form a) unit s = .next (replied .b id .denied [] s (taken .b s)) := by
  have hl' : (countFrame s).port.tx.length < 4 := hq
  have hs : mayUse (countFrame s).set.rights .b need = false := hr
  simp [command, answerTo, checked, hd, hl', hr, replied, refuse]
  rfl

/-- A deaf part takes no command (11 R187). -/
theorem command_deaf {α : Type} (p : Port) (id : Byte) (need : Need) (v : Params α) (unit : α → State → Answer)
    (s : State) (hd : s.deaf = true) : command p id need v unit s = .next s := by
  simp [command, answerTo, hd]

/-- With 4 frames waiting a Port B command is discarded, its frame counted (10 R172). -/
theorem command_full {α : Type} (id : Byte) (need : Need) (v : Params α) (unit : α → State → Answer) (s : State)
    (hd : s.deaf = false) (hq : 4 ≤ s.port.tx.length) :
    command .b id need v unit s = .next (countFrame s) := by
  have hl' : ¬ (countFrame s).port.tx.length < 4 := by
    have : (countFrame s).port.tx.length = s.port.tx.length := rfl
    omega
  simp [command, answerTo, hd, hl']

/-- The five ways in which a command can be taken, as one statement: the state it leaves is the unit's answer's, or
that of a counted frame, with the Port Unit's own record changed, or untouched. -/
theorem command_cases {α : Type} (p : Port) (id : Byte) (need : Need) (v : Params α) (unit : α → State → Answer)
    (s t : State) (h : command p id need v unit s = .next t) :
    (∃ a, v = .form a ∧ canUse p need s
        ∧ t = replied p id (unit a (taken p s)).status (unit a (taken p s)).data s (unit a (taken p s)).st)
      ∨ ∃ u, t = { s with port := u } := by
  cases hd : s.deaf with
  | true => rw [command_deaf p id need v unit s hd] at h; cases h; exact .inr ⟨s.port, rfl⟩
  | false =>
    by_cases hq : p = .b → s.port.tx.length < 4
    · cases v with
      | misfit =>
        rw [command_misfit p id need unit s hd hq] at h
        cases h
        cases p <;> exact .inr ⟨_, rfl⟩
      | form a =>
        cases hr : mayUse s.set.rights p need with
        | true =>
          rw [command_served p id need a unit s ⟨hd, hr, hq⟩] at h
          cases h
          exact .inl ⟨a, rfl, ⟨hd, hr, hq⟩, rfl⟩
        | false =>
          cases p with
          | a => simp [mayUse] at hr
          | b =>
            rw [command_denied id need a unit s hd hr (hq rfl)] at h
            cases h
            exact .inr ⟨_, rfl⟩
    · cases p with
      | a => exact absurd (fun h => by cases h) hq
      | b =>
        have hf : 4 ≤ s.port.tx.length := by
          by_contra hc
          exact hq fun _ => by omega
        rw [command_full id need v unit s hd hf] at h
        cases h
        exact .inr ⟨_, rfl⟩

/-- A reply changes the Port Unit alone. -/
theorem replied_frame (p : Port) (id : Byte) (k : Status) (d : List Byte) (s t : State) :
    ∃ u, replied p id k d s t = { t with port := u } := by
  cases p <;> exact ⟨_, rfl⟩

@[simp] theorem replied_set (p : Port) (id : Byte) (k : Status) (d : List Byte) (s t : State) :
    (replied p id k d s t).set = t.set := by cases p <;> rfl
@[simp] theorem replied_smp (p : Port) (id : Byte) (k : Status) (d : List Byte) (s t : State) :
    (replied p id k d s t).smp = t.smp := by cases p <;> rfl
@[simp] theorem replied_att (p : Port) (id : Byte) (k : Status) (d : List Byte) (s t : State) :
    (replied p id k d s t).att = t.att := by cases p <;> rfl
@[simp] theorem replied_geo (p : Port) (id : Byte) (k : Status) (d : List Byte) (s t : State) :
    (replied p id k d s t).geo = t.geo := by cases p <;> rfl
@[simp] theorem replied_eng (p : Port) (id : Byte) (k : Status) (d : List Byte) (s t : State) :
    (replied p id k d s t).eng = t.eng := by cases p <;> rfl
@[simp] theorem replied_pres (p : Port) (id : Byte) (k : Status) (d : List Byte) (s t : State) :
    (replied p id k d s t).pres = t.pres := by cases p <;> rfl
@[simp] theorem replied_axes (p : Port) (id : Byte) (k : Status) (d : List Byte) (s t : State) :
    (replied p id k d s t).axes = t.axes := by cases p <;> rfl
@[simp] theorem replied_inputs (p : Port) (id : Byte) (k : Status) (d : List Byte) (s t : State) :
    (replied p id k d s t).inputs = t.inputs := by cases p <;> rfl
@[simp] theorem replied_mq (p : Port) (id : Byte) (k : Status) (d : List Byte) (s t : State) :
    (replied p id k d s t).mq = t.mq := by cases p <;> rfl
@[simp] theorem replied_fc (p : Port) (id : Byte) (k : Status) (d : List Byte) (s t : State) :
    (replied p id k d s t).fc = t.fc := by cases p <;> rfl
@[simp] theorem replied_fan (p : Port) (id : Byte) (k : Status) (d : List Byte) (s t : State) :
    (replied p id k d s t).fan = t.fan := by cases p <;> rfl
@[simp] theorem replied_prot (p : Port) (id : Byte) (k : Status) (d : List Byte) (s t : State) :
    (replied p id k d s t).prot = t.prot := by cases p <;> rfl
@[simp] theorem replied_store (p : Port) (id : Byte) (k : Status) (d : List Byte) (s t : State) :
    (replied p id k d s t).store = t.store := by cases p <;> rfl

/-- Raising an event adds its kind to the sets of its destination, and changes the Port Unit alone (10 R175). -/
theorem raise_eq (d : Dest) (k : EventKind) (s : State) : raise d k s = { s with port := s.port.raise d k } := rfl

/-- LSEN, the allowance and the trip: a change of the allowance changes the Port Unit's events alone beside it. -/
theorem setAllowance_frame (a : Int) (s : State) :
    ∃ u, setAllowance a s = { s with prot := { s.prot with allowance := a }, port := u } := by
  unfold setAllowance
  split
  · exact ⟨_, rfl⟩
  · exact ⟨s.port, rfl⟩

/-- A latch of the trip changes the Protection Unit and the events alone; an earlier latch stays (09 R158, R160). -/
theorem latchTrip_cases (c : TripCause) (s : State) :
    (s.prot.trip ≠ none ∧ latchTrip c s = s)
      ∨ (s.prot.trip = none ∧ ∃ u, latchTrip c s =
          { s with
            prot := { s.prot with
              trip := some c, allowance := 0, lsen := false, afterrun := afterrunStart s,
              afterrunWait := afterrunPeriods s.set.prot.afterrun },
            port := u }) := by
  cases h : s.prot.trip with
  | some k => exact .inl ⟨by simp, by simp [latchTrip, h]⟩
  | none =>
    refine .inr ⟨rfl, ?_⟩
    obtain ⟨u, hu⟩ := setAllowance_frame 0 { s with prot := { s.prot with
      trip := some c, afterrun := afterrunStart s, afterrunWait := afterrunPeriods s.set.prot.afterrun } }
    refine ⟨u.raise .both .thermalTrip, ?_⟩
    simp [latchTrip, h, hu, raise, judgeLsen, Protection.judgeLsen]

/-- What an afterrun expiry does: one that no run can have reached is that of the run before, and changes nothing; any
other stops the timer (09 R165, log 35). -/
theorem afterrunExpired_cases (s : State) :
    (0 < s.prot.afterrunWait ∧ afterrunExpired s = s)
      ∨ (s.prot.afterrunWait = 0 ∧ afterrunExpired s = { s with prot := { s.prot with afterrun := none } }) := by
  rcases Nat.eq_zero_or_pos s.prot.afterrunWait with h | h
  · exact .inr ⟨h, by simp [afterrunExpired, h]⟩
  · exact .inl ⟨h, by simp [afterrunExpired, h]⟩

/-- The plan of a deceleration: its least rest lies from the steps taken, or the end point, to its greatest, which is
never beyond the end point (06 R96, log 8). -/
theorem planRest_bounds (slow fast stop : Int) (r : AxisRec) (h0 : 0 ≤ slow) (h : slow ≤ fast) :
    min (covered r) (mag (stop - r.legStart)) ≤ (planRest slow fast stop r).stopLo
      ∧ (planRest slow fast stop r).stopLo ≤ (planRest slow fast stop r).stopHi
      ∧ (planRest slow fast stop r).stopHi ≤ mag (stop - r.legStart) := by
  simp only [planRest]
  omega

/-- One step on, the square of a speed has come nearer to the square aimed at by at most the rate, and has not passed
it (06 R96, log 8). -/
theorem paceToward_cases (rate aim square : Int) (h : 0 ≤ rate) :
    (square ≤ aim ∧ square ≤ paceToward rate aim square ∧ paceToward rate aim square ≤ aim
        ∧ paceToward rate aim square ≤ square + rate)
      ∨ (aim < square ∧ aim ≤ paceToward rate aim square ∧ paceToward rate aim square ≤ square
        ∧ square - rate ≤ paceToward rate aim square) := by
  unfold paceToward
  split <;> omega

/-- A greater square that is aimed at, or a greater square to start from, gives no lesser one a step on (log 8). -/
theorem paceToward_mono (rate aim aim' square square' : Int) (h0 : 0 ≤ rate) (ha : aim ≤ aim')
    (hs : square ≤ square') : paceToward rate aim square ≤ paceToward rate aim' square' := by
  unfold paceToward
  split <;> split <;> omega

/-- The bounds of the squared speed of a jog run stay in order at each of its steps (06 R96, log 8). -/
theorem followPace_order (g : AxisSettings) (r : AxisRec) (h0 : 0 ≤ g.accel) (hl : 0 ≤ r.jogLow)
    (ha : r.jogLow ≤ r.jogPeak) (hs : r.jogSlow ≤ r.jogFast) : (followPace g r).jogSlow ≤ (followPace g r).jogFast := by
  have h := paceToward_mono (2 * g.accel) (r.jogLow * r.jogLow) (r.jogPeak * r.jogPeak) r.jogSlow r.jogFast (by omega)
    (Int.mul_le_mul ha ha hl (by omega)) hs
  simp only [followPace]
  omega

/-- A step of a jog run: at a soft limit it is not taken; otherwise the position is one on, the profile follows it, and
the bounds of its squared speed are no greater than that of the soft limit (06 R95, R96, R106). -/
theorem runStep_cases (g : AxisSettings) (r : AxisRec) :
    runStep g r = r
      ∨ (runStep g r = followPace g { r with position := r.position + stepSign r.dir }
        ∧ 0 ≤ r.position + stepSign r.dir ∧ r.position + stepSign r.dir ≤ g.travel
        ∧ (runStep g r).jogSlow ≤ limitSquare g (runStep g r) ∧ (runStep g r).jogFast ≤ limitSquare g (runStep g r)) := by
  unfold runStep
  split
  · rename_i h
    refine .inr ?_
    have hp : stepPosition g r = { r with position := r.position + stepSign r.dir } := by simp [stepPosition, h]
    rw [hp]
    refine ⟨rfl, ?_, ?_, Int.min_le_right .., Int.min_le_right ..⟩ <;>
      · simp [within] at h; omega
  · exact .inl rfl

/-- What a window's end does: nothing before the fans run; the end of a window that was restarted is discarded; any
other is measured and judged (08 R141). -/
theorem tachWindowEnd_cases (f : Fan) (s : State) :
    (s.fan.running = false ∧ tachWindowEnd f s = s)
      ∨ (s.fan.running = true ∧ 0 < (s.fan.fans.get f).windowWait
        ∧ tachWindowEnd f s = s.setFan f { s.fan.fans.get f with windowWait := 0 })
      ∨ (s.fan.running = true ∧ (s.fan.fans.get f).windowWait = 0 ∧ tachWindowEnd f s = judgeWindow f s) := by
  unfold tachWindowEnd
  cases h : s.fan.running with
  | false => exact .inl ⟨rfl, by simp⟩
  | true =>
    rcases Nat.eq_zero_or_pos (s.fan.fans.get f).windowWait with h0 | h0
    · exact .inr (.inr ⟨rfl, h0, by simp [h0]⟩)
    · exact .inr (.inl ⟨rfl, h0, by simp [h0]⟩)

end Sys2Proof.Machine
end

