-- ==== Sys2Proof/Laws/Frames.lean ====
section
/-! SUPPORT. What the operations that reach several units can change, said once for each: an operation leaves every
field that its frame does not name. -/

namespace Sys2Proof.Machine

/-! ## The Mesh Engine and the Presentation Unit -/

/-- t differs from s in the Mesh Engine and the Presentation Unit alone. -/
def MeshFrame (s t : State) : Prop := ∃ e p, t = { s with eng := e, pres := p }

theorem MeshFrame.refl (s : State) : MeshFrame s s := ⟨s.eng, s.pres, rfl⟩

theorem MeshFrame.trans {s t u : State} (h : MeshFrame s t) (k : MeshFrame t u) : MeshFrame s u := by
  obtain ⟨e, p, rfl⟩ := h
  obtain ⟨e', p', rfl⟩ := k
  exact ⟨e', p', rfl⟩

theorem startComputation_frame (s : State) : MeshFrame s (startComputation s) := by
  unfold startComputation
  split
  · exact MeshFrame.refl s
  · exact ⟨_, _, rfl⟩

theorem forceWaiting_frame (s : State) : MeshFrame s (forceWaiting s) := by
  unfold forceWaiting
  split
  · exact MeshFrame.refl s
  · exact ⟨_, _, rfl⟩

/-- A rebuild request changes the engine and the banks alone (04 R66). -/
theorem rebuild_frame (force : Bool) (s : State) : MeshFrame s (rebuild force s) := by
  have h1 : MeshFrame s (if force then { s with eng := { s.eng with allDirty := true } } else s) := by
    split
    · exact ⟨_, s.pres, rfl⟩
    · exact MeshFrame.refl s
  unfold rebuild
  refine h1.trans ?_
  generalize (if force then { s with eng := { s.eng with allDirty := true } } else s) = t
  dsimp only
  split
  · exact ⟨_, t.pres, rfl⟩
  · split
    · split
      · exact forceWaiting_frame t
      · exact MeshFrame.refl t
    · exact startComputation_frame t

theorem bankFreed_frame (s : State) : MeshFrame s (bankFreed s) := by
  unfold bankFreed
  split
  · exact MeshFrame.refl s
  · split
    · exact MeshFrame.trans ⟨_, s.pres, rfl⟩ (startComputation_frame _)
    · exact MeshFrame.refl s

theorem swapTo_frame (i : BankId) (s : State) : MeshFrame s (swapTo i s) :=
  MeshFrame.trans ⟨s.eng, _, rfl⟩ (bankFreed_frame _)

/-- A chance to swap changes the engine and the banks alone (05 R78). -/
theorem trySwap_frame (s : State) : MeshFrame s (trySwap s) := by
  unfold trySwap
  split
  · exact MeshFrame.refl s
  · split
    · exact swapTo_frame _ s
    · exact swapTo_frame _ s
    · exact ⟨s.eng, _, rfl⟩
    · exact MeshFrame.refl s
    · exact MeshFrame.refl s

/-! ## Composition -/

/-- t differs from s in what a composition can change: the composed corners and the clip watch, the refused pitch, the
record, the engine and the banks, the events. -/
def ComposeFrame (s t : State) : Prop :=
  ∃ geo ref g e p u, t = { s with
    geo := geo, att := { s.att with refused := ref }, set := { s.set with geo := g }, eng := e, pres := p, port := u }

theorem ComposeFrame.refl (s : State) : ComposeFrame s s := ⟨s.geo, s.att.refused, s.set.geo, s.eng, s.pres, s.port, rfl⟩

theorem ComposeFrame.trans {s t u : State} (h : ComposeFrame s t) (k : ComposeFrame t u) : ComposeFrame s u := by
  obtain ⟨_, _, _, _, _, _, rfl⟩ := h
  obtain ⟨a, b, c, d, e, f, rfl⟩ := k
  exact ⟨a, b, c, d, e, f, rfl⟩

theorem MeshFrame.toCompose {s t : State} (h : MeshFrame s t) : ComposeFrame s t := by
  obtain ⟨e, p, rfl⟩ := h
  exact ⟨s.geo, s.att.refused, s.set.geo, e, p, s.port, rfl⟩

theorem raise_composeFrame (d : Dest) (k : EventKind) (s : State) : ComposeFrame s (raise d k s) :=
  ⟨s.geo, s.att.refused, s.set.geo, s.eng, s.pres, _, rfl⟩

theorem reportClip_frame (w : ClipWatch) (d : Dest) (s : State) :
    ∃ c u, reportClip w d s = { s with geo := { s.geo with clip := c }, port := u } := by
  unfold reportClip
  split
  · exact ⟨_, _, rfl⟩
  · exact ⟨s.geo.clip, s.port, rfl⟩

theorem reportCornerClip_frame (c : Candidate) (d : Dest) (s : State) :
    ∃ k u, reportCornerClip c d s = { s with geo := { s.geo with clip := k }, port := u } := by
  unfold reportCornerClip
  split
  · exact ⟨s.geo.clip, s.port, rfl⟩
  · exact reportClip_frame _ d s

/-- An accepted composition takes the candidate and the trial record, clears the held flag and the refused pitch, and
changes the engine, the banks, the clip watch and the events beside (03 R41). -/
theorem compose_accepted (g : GeoRecord) (d : Dest) (s : State)
    (h : shapeOk g.width g.height (candidate g s).corners = true) :
    (compose g d s).2 = true ∧ ∃ k e p u, (compose g d s).1 =
      { s with
        geo := { s.geo with corners := (candidate g s).corners, clamped := (candidate g s).clamp.isSome,
                            inset := (candidate g s).inset, held := false, clip := k },
        att := { s.att with refused := none }, set := { s.set with geo := g }, eng := e, pres := p, port := u } := by
  obtain ⟨k, u, hk⟩ := reportCornerClip_frame (candidate g s) d s
  unfold compose
  simp only [h, if_true]
  refine ⟨trivial, ?_⟩
  rw [hk]
  unfold acceptComposition
  obtain ⟨e, p, hep⟩ := rebuild_frame false
    { ({ s with geo := { s.geo with clip := k }, port := u } : State) with
      geo := { ({ s with geo := { s.geo with clip := k }, port := u } : State).geo with
        corners := (candidate g s).corners, clamped := (candidate g s).clamp.isSome,
        inset := (candidate g s).inset, held := false },
      att := { s.att with refused := none },
      set := { s.set with geo := g } }
  exact ⟨k, e, p, u, hep⟩

/-- A refused composition changes the clip watch and the events alone (03 R42). -/
theorem compose_refused (g : GeoRecord) (d : Dest) (s : State)
    (h : shapeOk g.width g.height (candidate g s).corners = false) :
    (compose g d s).2 = false ∧ ∃ k u, (compose g d s).1 =
      { s with geo := { s.geo with clip := k }, port := u } := by
  obtain ⟨k, u, hk⟩ := reportCornerClip_frame (candidate g s) d s
  unfold compose
  simp only [h]
  exact ⟨rfl, k, u, hk⟩

theorem compose_frame (g : GeoRecord) (d : Dest) (s : State) : ComposeFrame s (compose g d s).1 := by
  cases h : shapeOk g.width g.height (candidate g s).corners with
  | true =>
    obtain ⟨-, k, e, p, u, hk⟩ := compose_accepted g d s h
    exact ⟨_, none, g, e, p, u, hk⟩
  | false =>
    obtain ⟨-, k, u, hk⟩ := compose_refused g d s h
    exact ⟨_, s.att.refused, s.set.geo, s.eng, s.pres, u, hk⟩

theorem composeOrHold_frame (d : Dest) (s : State) : ComposeFrame s (composeOrHold d s) := by
  unfold composeOrHold
  dsimp only
  split
  · exact compose_frame _ d s
  · exact (compose_frame s.set.geo d s).trans
      (ComposeFrame.trans ⟨_, (compose s.set.geo d s).1.att.refused, (compose s.set.geo d s).1.set.geo,
        (compose s.set.geo d s).1.eng, (compose s.set.geo d s).1.pres, (compose s.set.geo d s).1.port, rfl⟩
        (raise_composeFrame _ _ _))

theorem zoomSettle_frame (s : State) : ComposeFrame s (zoomSettle s) := by
  unfold zoomSettle
  dsimp only
  split
  · exact ComposeFrame.refl s
  · exact ComposeFrame.trans ⟨_, s.att.refused, s.set.geo, s.eng, s.pres, s.port, rfl⟩ (composeOrHold_frame _ _)

/-! ## The Motion Queue -/

/-- t differs from s in what the end or the dispatch of a request can change: the axes, the queue, the compensation,
and what a composition can change. -/
def MotionFrame (s t : State) : Prop :=
  ∃ ax mq fc geo ref g e p u, t = { s with
    axes := ax, mq := mq, fc := fc, geo := geo, att := { s.att with refused := ref }, set := { s.set with geo := g },
    eng := e, pres := p, port := u }

theorem MotionFrame.refl (s : State) : MotionFrame s s :=
  ⟨s.axes, s.mq, s.fc, s.geo, s.att.refused, s.set.geo, s.eng, s.pres, s.port, rfl⟩

theorem MotionFrame.trans {s t u : State} (h : MotionFrame s t) (k : MotionFrame t u) : MotionFrame s u := by
  obtain ⟨_, _, _, _, _, _, _, _, _, rfl⟩ := h
  obtain ⟨a, b, c, d, e, f, g, i, j, rfl⟩ := k
  exact ⟨a, b, c, d, e, f, g, i, j, rfl⟩

theorem ComposeFrame.toMotion {s t : State} (h : ComposeFrame s t) : MotionFrame s t := by
  obtain ⟨geo, ref, g, e, p, u, rfl⟩ := h
  exact ⟨s.axes, s.mq, s.fc, geo, ref, g, e, p, u, rfl⟩

/-- A change of the axes, the queue, the compensation and the events alone. -/
theorem motionFrame_of (s : State) (ax : PerAxis AxisRec) (mq : Queue) (fc : FocusComp) (u : PortUnit) :
    MotionFrame s { s with axes := ax, mq := mq, fc := fc, port := u } :=
  ⟨ax, mq, fc, s.geo, s.att.refused, s.set.geo, s.eng, s.pres, u, rfl⟩

theorem raise_motionFrame (d : Dest) (k : EventKind) (s : State) : MotionFrame s (raise d k s) :=
  motionFrame_of s s.axes s.mq s.fc _

theorem updateRequest_frame (k : Nat) (f : Request → Request) (s : State) : MotionFrame s (updateRequest k f s) :=
  motionFrame_of s s.axes _ s.fc s.port

theorem listOutcome_frame (r : Request) (o : Outcome) (s : State) : MotionFrame s (listOutcome r o s) := by
  unfold listOutcome
  split
  · exact MotionFrame.refl s
  · exact motionFrame_of s s.axes _ s.fc s.port

theorem raiseOutcome_frame (r : Request) (o : Outcome) (s : State) : MotionFrame s (raiseOutcome r o s) := by
  unfold raiseOutcome
  split
  · split
    · exact raise_motionFrame _ _ s
    · exact MotionFrame.refl s
  · exact raise_motionFrame _ _ s

theorem recordOutcome_frame (r : Request) (o : Outcome) (s : State) : MotionFrame s (recordOutcome r o s) :=
  (listOutcome_frame r o s).trans (raiseOutcome_frame r o _)

theorem settleGeometry_frame (r : Request) (s : State) : MotionFrame s (settleGeometry r s).1 := by
  unfold settleGeometry
  split
  · exact MotionFrame.refl s
  · split
    · exact MotionFrame.refl s
    · exact (compose_frame _ _ s).toMotion

theorem accountComp_frame (r : Request) (s : State) : MotionFrame s (accountComp r s) := by
  unfold accountComp
  split
  · exact motionFrame_of s s.axes s.mq _ s.port
  · exact MotionFrame.refl s

theorem dropRequest_frame (k : Nat) (s : State) : MotionFrame s (dropRequest k s) :=
  motionFrame_of s _ _ s.fc s.port

/-- The end of a request (07 R119). -/
theorem endRequest_frame (r : Request) (o : Outcome) (s : State) : MotionFrame s (endRequest r o s) := by
  have h : MotionFrame s (if o = .done && r.kind = .recall then settleGeometry r s else (s, o)).1 := by
    split
    · exact settleGeometry_frame r s
    · exact MotionFrame.refl s
  unfold endRequest
  exact h.trans ((accountComp_frame r _).trans ((dropRequest_frame _ _).trans (recordOutcome_frame r _ _)))

theorem bindRequest_frame (r : Request) (s : State) : MotionFrame s (bindRequest r s) :=
  motionFrame_of s _ _ s.fc s.port

theorem handTargets_frame (r : Request) (o : Option SlotRec) (s : State) : MotionFrame s (handTargets r o s) :=
  motionFrame_of s _ _ s.fc s.port

theorem startHomingAxes_frame (r : Request) (s : State) : MotionFrame s (startHomingAxes r s) := by
  unfold startHomingAxes
  split
  · exact updateRequest_frame _ _ s
  · exact motionFrame_of s _ s.mq s.fc s.port

theorem endIfAtRest_frame (k : Nat) (s : State) : MotionFrame s (endIfAtRest k s) := by
  unfold endIfAtRest
  split
  · exact MotionFrame.refl s
  · split
    · exact endRequest_frame _ _ s
    · exact MotionFrame.refl s

theorem dispatchWork_frame (r : Request) (s : State) : MotionFrame s (dispatchWork r s) := by
  unfold dispatchWork
  split
  · exact (startHomingAxes_frame r s).trans (endIfAtRest_frame _ _)
  · split
    · split
      · exact endRequest_frame _ _ s
      · exact (handTargets_frame r _ s).trans (endIfAtRest_frame _ _)
    · exact endRequest_frame _ _ s
  all_goals
    split
    · exact (handTargets_frame r _ s).trans (endIfAtRest_frame _ _)
    · exact endRequest_frame _ _ s

/-- The dispatch of a request (07 R118). -/
theorem dispatch_frame (r : Request) (s : State) : MotionFrame s (dispatch r s) :=
  (bindRequest_frame r s).trans (dispatchWork_frame r _)

theorem dispatchPass_frame (n : Nat) (s : State) : MotionFrame s (dispatchPass n s) := by
  induction n generalizing s with
  | zero => exact MotionFrame.refl s
  | succ n ih =>
    unfold dispatchPass
    split
    · exact MotionFrame.refl s
    · exact (dispatch_frame _ s).trans (ih _)

theorem finishRequests_frame (n : Nat) (s : State) : MotionFrame s (finishRequests n s) := by
  induction n generalizing s with
  | zero => exact MotionFrame.refl s
  | succ n ih =>
    unfold finishRequests
    split
    · exact MotionFrame.refl s
    · exact (endRequest_frame _ _ s).trans ((dispatchPass_frame _ _).trans (ih _))

/-- What follows every arrival that can change the test of 07 R117. -/
theorem settleQueue_frame (s : State) : MotionFrame s (settleQueue s) :=
  (finishRequests_frame _ s).trans (dispatchPass_frame _ _)

theorem stopAxes_frame (w : PerAxis Bool) (s : State) : MotionFrame s (stopAxes w s) :=
  motionFrame_of s _ s.mq s.fc s.port

theorem partFailed_frame (x : Axis) (s : State) : MotionFrame s (partFailed x s) := by
  unfold partFailed
  split
  · exact settleQueue_frame s
  · exact (stopAxes_frame _ s).trans ((updateRequest_frame _ _ _).trans (settleQueue_frame _))

theorem stopNamed_frame (w : PerAxis Bool) (s : State) : MotionFrame s (stopNamed w s) := by
  unfold stopNamed
  exact (motionFrame_of s s.axes _ s.fc s.port).trans ((stopAxes_frame _ _).trans (settleQueue_frame _))

theorem driverFault_frame (s : State) : MotionFrame s (driverFault s) := by
  unfold driverFault
  exact (motionFrame_of s _ _ s.fc s.port).trans ((raise_motionFrame _ _ _).trans (settleQueue_frame _))

theorem homeTimedOut_frame (x : Axis) (s : State) : MotionFrame s (homeTimedOut x s) := by
  unfold homeTimedOut
  exact (motionFrame_of s _ s.mq s.fc s.port).trans (partFailed_frame x _)

theorem enqueue_frame (r : Request) (k : Status) (s : State) : MotionFrame s (enqueue r k s).st := by
  unfold enqueue
  dsimp only
  refine MotionFrame.trans (t := joinQueue r s) (motionFrame_of s s.axes _ s.fc s.port) ?_
  refine MotionFrame.trans ?_ (dispatchPass_frame _ _)
  split
  · exact motionFrame_of _ _ _ _ _
  · exact MotionFrame.refl _

theorem tryEnqueue_frame (r : Request) (k : Status) (s : State) : MotionFrame s (tryEnqueue r k s).st := by
  unfold tryEnqueue
  split
  · exact MotionFrame.refl s
  · split
    · exact MotionFrame.refl s
    · exact enqueue_frame r k s

theorem askComp_frame (v : Int) (s : State) : MotionFrame s (askComp v s) := by
  unfold askComp
  split
  · exact motionFrame_of s s.axes _ s.fc s.port
  · split
    · exact MotionFrame.refl s
    · split
      · exact MotionFrame.refl s
      · exact MotionFrame.trans (t := joinQueue (compRequest v) s) (motionFrame_of s s.axes _ s.fc s.port)
          (dispatchPass_frame _ _)

/-- An evaluation of Focus Compensation (07 R128). -/
theorem evaluateComp_frame (v : Int) (s : State) : MotionFrame s (evaluateComp v s) := by
  unfold evaluateComp
  dsimp only
  split
  · exact MotionFrame.trans (motionFrame_of s s.axes s.mq _ s.port) (askComp_frame _ _)
  · exact motionFrame_of s s.axes s.mq _ s.port

/-! ## Rebuild requests and compositions as relations of two states -/

/-- What a rebuild request without the forcing mark does, whatever the engine is at (04 R66, R67). -/
theorem rebuild_asked (s : State) : RebuildAsked s (rebuild false s) := by
  unfold RebuildAsked rebuild
  cases h : s.eng.state with
  | computing j m => simp [h]
  | idle =>
    cases hp : s.eng.pendingReq with
    | true => simp [h, hp]
    | false =>
      simp only [Bool.false_eq_true, if_false]
      intro i hi
      simp only [h, hp, Bool.false_eq_true, if_false, startComputation, hi]
      exact ⟨by simp [beginComputation, snapshotOf, hp], rfl⟩

/-- RebuildAsked looks at the engine, the banks and the inputs of the snapshot alone. -/
theorem RebuildAsked.of_eq {s s' t : State} (he : s.eng = s'.eng) (hp : s.pres = s'.pres) (h : RebuildAsked s t) :
    RebuildAsked s' t := by
  unfold RebuildAsked at *
  rw [← he, ← hp]
  exact h

/-- An accepted composition, as a relation of the two states (03 R41). -/
theorem compose_to (g : GeoRecord) (d : Dest) (s : State)
    (h : shapeOk g.width g.height (candidate g s).corners = true) :
    (compose g d s).2 = true ∧ ComposedTo g (candidate g s) (reportCornerClip (candidate g s) d s) (compose g d s).1 := by
  unfold compose
  simp only [h, if_true]
  let u : State := { reportCornerClip (candidate g s) d s with
    geo := { (reportCornerClip (candidate g s) d s).geo with
      corners := (candidate g s).corners, clamped := (candidate g s).clamp.isSome, inset := (candidate g s).inset,
      held := false },
    att := { (reportCornerClip (candidate g s) d s).att with refused := none },
    set := { (reportCornerClip (candidate g s) d s).set with geo := g } }
  obtain ⟨e, p, hr⟩ := rebuild_frame false u
  exact ⟨trivial, ⟨e, p, hr⟩, RebuildAsked.of_eq (s := u) rfl rfl (rebuild_asked u)⟩

/-- A refused composition is the report of its clamp (03 R39, R42). -/
theorem compose_clip (g : GeoRecord) (d : Dest) (s : State)
    (h : shapeOk g.width g.height (candidate g s).corners = false) :
    compose g d s = (reportCornerClip (candidate g s) d s, false) := by
  simp [compose, h]

/-- A composition that an orientation change or a zoom settle asks for, as a relation of the two states (03 R43). -/
theorem composeOrHold_to (d : Dest) (s : State) :
    ComposedOrHeld (candidate s.set.geo s) d s (composeOrHold d s) := by
  refine ⟨fun h => ?_, fun h => ?_⟩
  · obtain ⟨h1, h2⟩ := compose_to s.set.geo d s h
    simpa [composeOrHold, h1] using h2
  · simp [composeOrHold, compose_clip _ _ _ h, raise]

/-- The end of a request that settles no geometry (07 R119, R121, R130). -/
theorem endRequest_ended (r : Request) (o : Outcome) (s : State) (h : o ≠ .done ∨ r.kind ≠ .recall) :
    endRequest r o s = ended r o s := by
  have h1 : (if o = .done && r.kind = .recall then settleGeometry r s else (s, o)) = (s, o) := by
    rcases h with h | h <;> simp [h]
  unfold endRequest
  simp only [h1]
  cases hk : r.kind <;> cases hs : r.source <;> cases o <;>
    simp [recordOutcome, raiseOutcome, listOutcome, dropRequest, accountComp, ended, endEvent, hk, hs, Source.list,
      Source.dest, Outcome.event, raise, PerPort.set, PerPort.get]

/-- The end of a RECALL whose axes have all finished, as a relation of the two states (03 R44; 07 R119, R120). -/
theorem endRequest_recall (r : Request) (s : State) (h : r.kind = .recall) :
    RecallEnded r s (endRequest r .done s) := by
  have e : endRequest r .done s = recordOutcome r (settleGeometry r s).2
      (dropRequest r.serial (accountComp r (settleGeometry r s).1)) := by
    simp [endRequest, h]
  have e1 : ∀ o t, recordOutcome r o (dropRequest r.serial (accountComp r t)) = ended r o t := by
    intro o t
    cases hs : r.source <;> cases o <;>
      simp [recordOutcome, raiseOutcome, listOutcome, dropRequest, accountComp, ended, endEvent, h, hs, Source.list,
        Source.dest, Outcome.event, raise, PerPort.set, PerPort.get]
  unfold RecallEnded
  split
  · next hp => rw [e]; simp [settleGeometry, hp, e1]
  · next d hp =>
    split
    · next hg => rw [e]; simp [settleGeometry, hp, hg, e1]
    · next hg =>
      have hs : settleGeometry r s =
          ((compose { s.set.geo with offsets := d, corners := true } r.source.dest s).1,
            if (compose { s.set.geo with offsets := d, corners := true } r.source.dest s).2 then .done
            else .geomRefused) := by
        simp [settleGeometry, hp, hg]
      refine ⟨fun hk => ?_, fun hk => ?_⟩
      · obtain ⟨h1, h2⟩ := compose_to { s.set.geo with offsets := d, corners := true } r.source.dest s hk
        refine ⟨_, h2, ?_⟩
        rw [e, hs, h1]
        exact e1 _ _
      · rw [e, hs, compose_clip _ _ _ hk]
        exact e1 _ _

/-- The engine's edit operation, as a relation of the two states (04 R58). -/
theorem rebuildIfWarped_to (s : State) (g : Settings) :
    WarpedTo g s (rebuildIfWarped { s with set := g }) := by
  unfold WarpedTo rebuildIfWarped
  split
  · refine ⟨?_, RebuildAsked.of_eq (s := { s with set := g }) rfl rfl (rebuild_asked _)⟩
    obtain ⟨e, p, h⟩ := rebuild_frame false { s with set := g }
    exact ⟨e, p, h⟩
  · rfl

end Sys2Proof.Machine
end

