-- ==== Sys2Proof/Laws/Queue.lean ====
section
/-! SUPPORT. The queue, said once: the pass over the WAITING requests gives the state that DispatchTested describes (07
R117), and what follows an arrival that can bring axes to rest the state that QueueSettled describes (07 R119). -/

namespace Sys2Proof.Machine

/-! ## Axis sets -/

theorem mem_allAxes (x : Axis) : x ∈ allAxes := by cases x <;> decide

/-- An axis is free for dispatch exactly when it has no running request and is not busy (07 R117). -/
theorem freeAxis_iff (s : State) (x : Axis) :
    freeAxis s x = true ↔ (s.axes.get x).running = none ∧ (s.axes.get x).state.busy = false := by
  simp [freeAxis]

/-! ## The request that the dispatch test picks -/

/-- The axes that older WAITING requests name, of the first n of a queue. -/
def olderNames (s : State) (n : Nat) (x : Axis) : Prop :=
  ∃ k r, k < n ∧ s.mq.requests[k]? = some r ∧ r.dispatched = false ∧ r.axes.get x = true

theorem not_heldBack_iff (s : State) (n : Nat) (q : Request) (older : PerAxis Bool)
    (h : ∀ x, older.get x = true ↔ olderNames s n x) :
    (allAxes.all fun x => !q.names x || (freeAxis s x && !older.get x)) = true ↔ ¬ heldBack s n q := by
  simp only [List.all_eq_true, Bool.or_eq_true, Bool.and_eq_true, Bool.not_eq_true', freeAxis_iff, Request.names]
  constructor
  · rintro k ⟨x, hx, c⟩
    rcases k x (mem_allAxes x) with e | ⟨⟨a, b⟩, o⟩
    · rw [e] at hx; cases hx
    · rcases c with c | c | c
      · exact c a
      · rw [b] at c; cases c
      · rw [(h x).2 c] at o; cases o
  · intro k x _
    rcases hq : q.axes.get x with _ | _
    · exact .inl rfl
    · refine .inr ⟨⟨?_, ?_⟩, ?_⟩
      · by_contra c; exact k ⟨x, hq, .inl c⟩
      · rcases hb : (s.axes.get x).state.busy with _ | _
        · rfl
        · exact absurd ⟨x, hq, .inr (.inl hb)⟩ k
      · rcases ho : older.get x with _ | _
        · rfl
        · exact absurd ⟨x, hq, .inr (.inr ((h x).1 ho))⟩ k

/-- What the search of 07 R117 answers from place n of the queue, the requests before it being held back. -/
theorem nextDispatch_spec (s : State) (l : List Request) (n : Nat) (older : PerAxis Bool)
    (hl : s.mq.requests.drop n = l) (ho : ∀ x, older.get x = true ↔ olderNames s n x) (hb : heldBefore s n) :
    match nextDispatch s l older with
    | none => heldBefore s s.mq.requests.length
    | some q => ∃ k, s.mq.requests[k]? = some q ∧ q.dispatched = false ∧ heldBefore s k ∧ ¬ heldBack s k q := by
  induction l generalizing n older with
  | nil =>
    have hn : s.mq.requests.length ≤ n := List.drop_eq_nil_iff.1 hl
    exact fun k q hk => hb k q (Nat.lt_of_lt_of_le hk hn)
  | cons r rest ih =>
    have hr : s.mq.requests[n]? = some r := by
      have := congrArg List.head? hl
      simpa [List.head?_drop] using this
    have hrest : s.mq.requests.drop (n + 1) = rest := by
      have := congrArg List.tail hl
      simpa [List.tail_drop] using this
    have step : ∀ (o : PerAxis Bool), (∀ x, o.get x = true ↔ olderNames s (n + 1) x) →
        (r.dispatched = true ∨ heldBack s n r) → heldBefore s (n + 1) := by
      intro o _ c k q hk hq hd
      rcases Nat.lt_succ_iff_lt_or_eq.1 hk with lt | rfl
      · exact hb k q lt hq hd
      · rw [hr] at hq; cases hq
        rcases c with c | c
        · rw [c] at hd; cases hd
        · exact c
    unfold nextDispatch
    by_cases hd : r.dispatched = true
    · rw [if_pos hd]
      have ho' : ∀ x, older.get x = true ↔ olderNames s (n + 1) x := by
        intro x; rw [ho x]
        constructor
        · rintro ⟨k, q, hk, t⟩; exact ⟨k, q, Nat.lt_succ_of_lt hk, t⟩
        · rintro ⟨k, q, hk, e, f, g⟩
          rcases Nat.lt_succ_iff_lt_or_eq.1 hk with lt | rfl
          · exact ⟨k, q, lt, e, f, g⟩
          · rw [hr] at e; cases e; rw [hd] at f; cases f
      exact ih (n + 1) older hrest ho' (step older ho' (.inl hd))
    · rw [if_neg hd]
      have hd' : r.dispatched = false := by simpa using hd
      by_cases hf : (allAxes.all fun x => !r.names x || (freeAxis s x && !older.get x)) = true
      · rw [if_pos hf]
        exact ⟨n, hr, hd', hb, (not_heldBack_iff s n r older ho).1 hf⟩
      · rw [if_neg hf]
        have held : heldBack s n r := by
          by_contra c; exact hf ((not_heldBack_iff s n r older ho).2 c)
        have ho' : ∀ x, (older.map fun x b => b || r.names x).get x = true ↔ olderNames s (n + 1) x := by
          intro x
          rw [PerAxis.get_map, Bool.or_eq_true, ho x]
          constructor
          · rintro (⟨k, q, hk, t⟩ | t)
            · exact ⟨k, q, Nat.lt_succ_of_lt hk, t⟩
            · exact ⟨n, r, Nat.lt_succ_self n, hr, hd', t⟩
          · rintro ⟨k, q, hk, e, f, g⟩
            rcases Nat.lt_succ_iff_lt_or_eq.1 hk with lt | rfl
            · exact .inl ⟨k, q, lt, e, f, g⟩
            · rw [hr] at e; cases e; exact .inr g
        exact ih (n + 1) _ hrest ho' (step _ ho' (.inr held))

/-! ## The pass ends -/

/-- The number of WAITING requests held. -/
def waitingCount (s : State) : Nat := s.mq.requests.countP fun r => !r.dispatched

theorem compose_mq (g : GeoRecord) (d : Dest) (s : State) : (compose g d s).1.mq = s.mq := by
  obtain ⟨_, _, _, _, _, _, h⟩ := compose_frame g d s
  rw [h]

theorem settleGeometry_mq (r : Request) (s : State) : (settleGeometry r s).1.mq = s.mq := by
  unfold settleGeometry
  split
  · rfl
  · split
    · rfl
    · exact compose_mq _ _ s

theorem accountComp_mq (r : Request) (s : State) : (accountComp r s).mq = s.mq := by
  unfold accountComp; split <;> rfl

theorem recordOutcome_requests (r : Request) (o : Outcome) (s : State) :
    (recordOutcome r o s).mq.requests = s.mq.requests := by
  unfold recordOutcome raiseOutcome listOutcome
  cases r.source <;> simp only [Source.list] <;> (try split) <;> rfl

/-- The end of a request takes its record out of the queue, and no other (07 R119). -/
theorem endRequest_requests (r : Request) (o : Outcome) (s : State) :
    (endRequest r o s).mq.requests = s.mq.requests.filter fun q => decide (q.serial ≠ r.serial) := by
  have h : (if o = .done && r.kind = .recall then settleGeometry r s else (s, o)).1.mq = s.mq := by
    split
    · exact settleGeometry_mq r s
    · rfl
  unfold endRequest
  rw [recordOutcome_requests]
  show List.filter _ (accountComp r _).mq.requests = _
  rw [accountComp_mq, h]

theorem endRequest_waiting (r : Request) (o : Outcome) (s : State) :
    waitingCount (endRequest r o s) ≤ waitingCount s := by
  unfold waitingCount
  rw [endRequest_requests]
  exact List.filter_sublist.countP_le

/-- A change of records that makes none of them WAITING makes no more of them WAITING. -/
theorem map_waiting (f : Request → Request) (l : List Request)
    (h : ∀ q, q.dispatched = true → (f q).dispatched = true) :
    (l.map f).countP (fun r => !r.dispatched) ≤ l.countP fun r => !r.dispatched := by
  rw [List.countP_map]
  refine List.countP_mono_left fun q _ => ?_
  have := h q
  cases hq : q.dispatched <;> simp_all

/-- One that makes a WAITING record RUNNING leaves fewer of them WAITING. -/
theorem map_waiting_lt (f : Request → Request) (l : List Request)
    (h : ∀ q, q.dispatched = true → (f q).dispatched = true) (r : Request) (hm : r ∈ l) (hd : r.dispatched = false)
    (hf : (f r).dispatched = true) :
    (l.map f).countP (fun r => !r.dispatched) < l.countP fun r => !r.dispatched := by
  induction l with
  | nil => cases hm
  | cons q l ih =>
    have le := map_waiting f l h
    rw [List.map_cons, List.countP_cons, List.countP_cons]
    rcases List.mem_cons.1 hm with rfl | hm
    · simp only [hd, hf]
      simpa using Nat.lt_succ_of_le le
    · have lt := ih hm
      have := h q
      cases hq : q.dispatched <;> simp_all; split <;> omega

theorem updateRequest_waiting (k : Nat) (f : Request → Request) (s : State)
    (h : ∀ q, q.dispatched = true → (f q).dispatched = true) :
    waitingCount (updateRequest k f s) ≤ waitingCount s :=
  map_waiting _ _ fun q hq => by split <;> simp [hq, h]

theorem endIfAtRest_waiting (k : Nat) (s : State) : waitingCount (endIfAtRest k s) ≤ waitingCount s := by
  unfold endIfAtRest
  split
  · exact Nat.le_refl _
  · split
    · exact endRequest_waiting _ _ s
    · exact Nat.le_refl _

theorem handTargets_waiting (r : Request) (o : Option SlotRec) (s : State) :
    waitingCount (handTargets r o s) ≤ waitingCount s :=
  updateRequest_waiting r.serial _ { s with axes := _ } (fun _ h => h)

theorem startHomingAxes_waiting (r : Request) (s : State) : waitingCount (startHomingAxes r s) ≤ waitingCount s := by
  unfold startHomingAxes
  split
  · exact updateRequest_waiting _ _ s (fun _ h => h)
  · exact Nat.le_refl _

theorem dispatchWork_waiting (r : Request) (s : State) : waitingCount (dispatchWork r s) ≤ waitingCount s := by
  unfold dispatchWork
  split
  · exact (endIfAtRest_waiting _ _).trans (startHomingAxes_waiting r s)
  · split
    · split
      · exact endRequest_waiting _ _ s
      · exact (endIfAtRest_waiting _ _).trans (handTargets_waiting r _ s)
    · exact endRequest_waiting _ _ s
  all_goals
    split
    · exact (endIfAtRest_waiting _ _).trans (handTargets_waiting r _ s)
    · exact endRequest_waiting _ _ s

theorem bindRequest_waiting (r : Request) (s : State) (hm : r ∈ s.mq.requests) (hd : r.dispatched = false) :
    waitingCount (bindRequest r s) < waitingCount s :=
  map_waiting_lt _ _ (fun q hq => by split <;> simp [hq]) r hm hd (by simp)

/-- A dispatch leaves one WAITING request less (07 R118). -/
theorem dispatch_waiting (r : Request) (s : State) (hm : r ∈ s.mq.requests) (hd : r.dispatched = false) :
    waitingCount (dispatch r s) < waitingCount s :=
  Nat.lt_of_le_of_lt (dispatchWork_waiting r _) (bindRequest_waiting r s hm hd)

theorem dispatchPass_tested_of (n : Nat) (s : State) (h : waitingCount s ≤ n) : DispatchTested s (dispatchPass n s) := by
  induction n generalizing s with
  | zero =>
    refine .done fun k q hk hq hd => ?_
    have : 0 < waitingCount s := List.countP_pos_iff.2 ⟨q, List.mem_of_getElem? hq, by simp [hd]⟩
    omega
  | succ n ih =>
    have spec := nextDispatch_spec s s.mq.requests 0 (PerAxis.const false) rfl
      (fun x => ⟨fun h => (by cases x <;> cases h), fun ⟨_, _, h, _⟩ => absurd h (Nat.not_lt_zero _)⟩)
      (fun k q hk => by omega)
    unfold dispatchPass
    split
    · rename_i e
      rw [e] at spec
      exact .done spec
    · rename_i q e
      rw [e] at spec
      obtain ⟨k, hk, hd, hb, hf⟩ := spec
      have := dispatch_waiting q s (List.mem_of_getElem? hk) hd
      exact .next hk hd hb hf (ih _ (by omega))

/-- The dispatch pass is the dispatch test of 07 R117. -/
theorem dispatchPass_tested (s : State) : DispatchTested s (dispatchPass s.mq.requests.length s) :=
  dispatchPass_tested_of _ s (List.countP_le_length)

/-! ## The end of a request by what became of its axes -/

/-- The end of a request by what became of its axes (06 R103; 07 R119, R120). -/
theorem endRequest_axes (q : Request) (s : State) : AxesEnded q s (endRequest q (axesOutcome q) s) := by
  unfold AxesEnded axesOutcome
  split
  · rename_i h
    rw [h.1, h.2.1]
    exact endRequest_recall q s h.2.2
  · rename_i h
    refine endRequest_ended q _ s ?_
    cases hf : q.failed <;> cases hs : q.stopped <;> simp_all

/-! ## The queue settles -/

theorem atRest_iff (s : State) (q : Request) : (q.dispatched && requestAtRest s q) = true ↔ atRest s q := by
  simp only [atRest, requestAtRest, Request.names, Bool.and_eq_true, List.all_eq_true, Bool.or_eq_true,
    Bool.not_eq_true']
  refine and_congr_right fun _ => ⟨fun h x hx => ?_, fun h x _ => ?_⟩
  · rcases h x (mem_allAxes x) with c | c
    · rw [hx] at c; cases c
    · exact c
  · cases hx : q.axes.get x
    · exact .inl rfl
    · exact .inr (h x hx)

theorem endRequest_length (q : Request) (o : Outcome) (s : State) (h : q ∈ s.mq.requests) :
    (endRequest q o s).mq.requests.length < s.mq.requests.length := by
  rw [endRequest_requests]
  exact List.length_filter_lt_length_iff_exists.2 ⟨q, h, by simp⟩

theorem endRequest_length_le (q : Request) (o : Outcome) (s : State) :
    (endRequest q o s).mq.requests.length ≤ s.mq.requests.length := by
  rw [endRequest_requests]; exact List.length_filter_le _ _

theorem endIfAtRest_length (k : Nat) (s : State) :
    (endIfAtRest k s).mq.requests.length ≤ s.mq.requests.length := by
  unfold endIfAtRest
  split
  · exact Nat.le_refl _
  · split
    · exact endRequest_length_le _ _ s
    · exact Nat.le_refl _

theorem handTargets_length (r : Request) (o : Option SlotRec) (s : State) :
    (handTargets r o s).mq.requests.length = s.mq.requests.length := by
  simp [handTargets, updateRequest]

theorem startHomingAxes_length (r : Request) (s : State) :
    (startHomingAxes r s).mq.requests.length = s.mq.requests.length := by
  unfold startHomingAxes
  split <;> simp [updateRequest]

/-- A dispatch adds no record (07 R118). -/
theorem dispatch_length (r : Request) (s : State) : (dispatch r s).mq.requests.length ≤ s.mq.requests.length := by
  have h0 : (bindRequest r s).mq.requests.length = s.mq.requests.length := by simp [bindRequest, updateRequest]
  unfold dispatch
  rw [← h0]
  generalize bindRequest r s = u
  have hh := startHomingAxes_length r u
  have ht := fun o => handTargets_length r o u
  unfold dispatchWork
  split
  · exact (endIfAtRest_length _ _).trans hh.le
  · split
    · split
      · exact endRequest_length_le _ _ u
      · exact (endIfAtRest_length _ _).trans (ht _).le
    · exact endRequest_length_le _ _ u
  all_goals
    split
    · exact (endIfAtRest_length _ _).trans (ht _).le
    · exact endRequest_length_le _ _ u

theorem dispatchPass_length (n : Nat) (s : State) :
    (dispatchPass n s).mq.requests.length ≤ s.mq.requests.length := by
  induction n generalizing s with
  | zero => exact Nat.le_refl _
  | succ n ih =>
    unfold dispatchPass
    split
    · exact Nat.le_refl _
    · exact (ih _).trans (dispatch_length _ s)

theorem finishRequests_settled (n : Nat) (s : State) (h : s.mq.requests.length ≤ n) :
    QueueSettled s (dispatchPass (finishRequests n s).mq.requests.length (finishRequests n s)) := by
  induction n generalizing s with
  | zero =>
    refine .rest (fun q hq => ?_) (dispatchPass_tested s)
    have := List.length_pos_of_mem hq
    omega
  | succ n ih =>
    unfold finishRequests
    cases e : s.mq.requests.find? fun r => r.dispatched && requestAtRest s r with
    | none =>
      refine .rest (fun q hq c => ?_) (dispatchPass_tested s)
      exact List.find?_eq_none.1 e q hq ((atRest_iff s q).2 c)
    | some q =>
      obtain ⟨hr, l, l', hl, hn⟩ := List.find?_eq_some_iff_append.1 e
      refine .finish (n := l.length) (by rw [hl]; simp) ((atRest_iff s q).1 hr) (fun k r hk hr' c => ?_)
        (endRequest_axes q s) (dispatchPass_tested _) (ih _ ?_)
      · rw [hl, List.getElem?_append_left hk] at hr'
        have := hn r (List.mem_of_getElem? hr')
        rw [(atRest_iff s r).2 c] at this
        cases this
      · have := endRequest_length q (axesOutcome q) s (by rw [hl]; simp)
        have := dispatchPass_length (endRequest q (axesOutcome q) s).mq.requests.length
          (endRequest q (axesOutcome q) s)
        omega

/-- What follows every arrival that can bring axes to rest is what QueueSettled describes. -/
theorem settleQueue_settled (s : State) : QueueSettled s (settleQueue s) :=
  finishRequests_settled _ s (Nat.le_refl _)

theorem hasAxis_others (v : PerAxis Bool) (x : Axis) :
    hasAxis (v.map fun y b => b && decide (y ≠ x)) = allAxes.any fun y => v.get y && decide (y ≠ x) := by
  unfold hasAxis
  refine congrArg _ (funext fun y => ?_)
  exact PerAxis.get_map _ _ _

/-- The part of an axis in its request has failed, and the queue settles (06 R103). -/
theorem partFailed_settled (x : Axis) (s : State) : QueueSettled (failedPart x s) (partFailed x s) := by
  unfold partFailed failedPart findRequest
  cases (s.axes.get x).running.bind fun k => s.mq.requests.find? fun q => decide (q.serial = k) with
  | none => exact settleQueue_settled s
  | some q =>
    have e : stopAxes (q.axes.map fun y b => b && decide (y ≠ x)) s = { s with
        axes := s.axes.map fun y a => if q.axes.get y = true ∧ y ≠ x then stopAxis (s.set.axes.get y) a else a } := by
      unfold stopAxes
      congr 2
      funext y a
      simp [PerAxis.get_map]
    dsimp only
    rw [e, hasAxis_others]
    exact settleQueue_settled _

end Sys2Proof.Machine
end

