-- ==== Sys2Proof/WellFormed.lean ====
section
/-! DEFINITION. Which commands can arrive: every value fits the bytes that carry it (12), every list the form that
carries it, every command the 60 bytes of a write or a frame (10, sections 10.1 and 10.2). The meanings are total:
they do not rest on these checks. -/

namespace Sys2Proof

/-- An unsigned value of n bytes. -/
def fitsU (n v : Nat) : Bool := decide (v < 2 ^ (8 * n))

/-- An unsigned value of n bytes, held as an integer. -/
def fitsN (n : Nat) (v : Int) : Bool := decide (0 ≤ v ∧ v < (2 ^ (8 * n) : Nat))

/-- A signed value of n bytes. -/
def fitsS (n : Nat) (v : Int) : Bool := decide (-((2 ^ (8 * n - 1) : Nat) : Int) ≤ v ∧ v < (2 ^ (8 * n - 1) : Nat))

/-- A form of parameters satisfies a check; a number of bytes that matches no form has no values to check. -/
def Params.wf {α : Type} (check : α → Bool) : Params α → Bool
  | .form a => check a
  | .misfit => true

/-- The same of a vertex edit; one that matches no form names a vertex in two bytes. -/
def EditParams.wf {α : Type} (check : α → Bool) : EditParams α → Bool
  | .form a => check a
  | .noForm i j => fitsU 1 i && fitsU 1 j
  | .misfit => true

/-- No parameters. -/
def wfNothing (_ : Unit) : Bool := true

/-- The round list: a count byte and ids. -/
def wfRound (l : List Nat) : Bool := decide (l.length ≤ 58) && l.all (fitsU 1)

def TriggerArgs.wf (a : TriggerArgs) : Bool := fitsU 1 a.mode && fitsU 1 a.divider && fitsU 2 a.delay && fitsU 2 a.period

def TableArgs.wf (a : TableArgs) : Bool := fitsU 1 a.table && decide (a.temps.length = 17) && a.temps.all (fitsS 2)

def ChannelArgs.wf : ChannelArgs → Bool
  | .temp id table => fitsU 1 id && fitsU 1 table
  | .angle id z k => fitsU 1 id && fitsU 2 z && fitsU 2 k

def AttArgs.wf (a : AttArgs) : Bool :=
  fitsN 2 a.deadband && fitsS 2 a.vertZero && fitsN 2 a.threshold && fitsN 2 a.rollLimit

def Pt.wf (d : Pt) : Bool := fitsS 2 d.x && fitsS 2 d.y

/-- A panel size. -/
def wfPanel (d : Pt) : Bool := fitsN 2 d.x && fitsN 2 d.y

def wfCorners (c : PerCorner Pt) : Bool := c.tl.wf && c.tr.wf && c.bl.wf && c.br.wf

def CornerArgs.wf (a : CornerArgs) : Bool := fitsU 1 a.corner && a.d.wf

/-- The zoom coefficients. -/
def wfCoeffs (l : List Nat) : Bool := decide (l.length = 8) && l.all (fitsU 2)

def Comps.wf : Comps → Bool
  | .x a => fitsS 2 a
  | .y b => fitsS 2 b
  | .both a b => fitsS 2 a && fitsS 2 b

/-- The selector of a run of components (04 R59: an expected value has the selector of the edit). -/
def Comps.selector : Comps → Selector
  | .x _ => .x
  | .y _ => .y
  | .both _ _ => .both

def wfExpected (k : Selector) : Option Comps → Bool
  | none => true
  | some e => e.wf && decide (e.selector = k)

def EditArgs.wf (a : EditArgs) : Bool := fitsU 1 a.i && fitsU 1 a.j && a.vals.wf && wfExpected a.vals.selector a.expected

def ZeroArgs.wf (a : ZeroArgs) : Bool := fitsU 1 a.i && fitsU 1 a.j && wfExpected a.sel a.expected

def ReadArgs.wf (a : ReadArgs) : Bool := fitsU 1 a.start && fitsU 1 a.count

def JogArgs.wf (a : JogArgs) : Bool := fitsU 1 a.axis && fitsU 1 a.dir && fitsU 1 a.level

def AxisArgs.wf (a : AxisArgs) : Bool :=
  fitsU 1 a.axis && fitsU 2 a.travel && fitsU 2 a.startSpeed && fitsU 2 a.maxSpeed && fitsU 3 a.accel
    && fitsU 2 a.homingSpeed && fitsU 1 a.backlash && fitsU 1 a.approach && fitsU 2 a.indexPos && fitsU 1 a.indexTol
    && fitsU 2 a.settle

/-- One value for each axis that the set names among bits 0 to 3 (12 R190). -/
def MoveArgs.wf (value : Int → Bool) (a : MoveArgs) : Bool :=
  fitsU 1 a.axes && fitsU 1 a.tag && decide (a.vals.length = Machine.axisCount a.axes) && a.vals.all value

def TaggedArgs.wf (a : TaggedArgs) : Bool := fitsU 1 a.what && fitsU 1 a.tag

/-- A label stands only under its flag bit. -/
def SaveArgs.wf (a : SaveArgs) : Bool :=
  fitsU 1 a.slot && fitsU 1 a.flags && decide (a.label.length ≤ 56) && (a.flags.testBit 1 || a.label.isEmpty)

def FcArgs.wf (a : FcArgs) : Bool :=
  fitsU 1 a.enable && fitsS 2 a.k && fitsS 2 a.tRef && fitsN 2 a.limit && fitsN 1 a.deadband

def CurveArgs.wf (a : CurveArgs) : Bool :=
  fitsU 1 a.fan && decide (a.points.length ≤ 14) && a.points.all fun p => fitsS 2 p.t && fitsN 2 p.d

def BindingArgs.wf (a : BindingArgs) : Bool := fitsU 1 a.fan && decide (a.ids.length ≤ 57) && a.ids.all (fitsU 1)

def FanArgs.wf (a : FanArgs) : Bool := fitsU 1 a.fan && fitsN 2 a.spinFloor && fitsN 2 a.quietCap && fitsN 2 a.stallSpeed

def OffsetArgs.wf (a : OffsetArgs) : Bool := fitsU 1 a.channel && fitsS 2 a.floor && fitsS 2 a.ceiling

def ProtArgs.wf (a : ProtArgs) : Bool := fitsN 2 a.floor && fitsN 2 a.rise && fitsN 1 a.gain && fitsN 2 a.afterrun

def ThresholdArgs.wf (a : ThresholdArgs) : Bool := fitsU 1 a.channel && fitsS 2 a.ts && fitsS 2 a.tt

/-- A code of the 12-bit converter (01 R1). -/
def wfCode (c : Nat) : Bool := decide (c < 4096)

/-- A command byte that names no Mesh Port command (12 R192). -/
def wfMeshByte (b : Byte) : Bool := decide (b ≠ 0x01#8 ∧ b ≠ 0x02#8 ∧ b ≠ 0x03#8)

/-- A well-formed command. -/
def Instr.wf : Instr → Bool
  | .conversionCompletion c => wfCode c
  | .frameStart | .delayTimerExpiry | .periodTimerExpiry | .smpVideoWatchExpiry => true
  | .smpSetRound _ v => v.wf wfRound
  | .smpSetTrigger _ v => v.wf TriggerArgs.wf
  | .smpSetTable _ v => v.wf TableArgs.wf
  | .smpSetChannel _ v => v.wf ChannelArgs.wf
  | .smpClearPeak _ v => v.wf (fitsU 2)
  | .smpReadChannel _ v => v.wf (fitsU 1)
  | .smpStatus _ v | .captureLevel _ v | .attStatus _ v => v.wf wfNothing
  | .attSetOrientation _ v => v.wf (fitsU 1)
  | .attSetParams _ v => v.wf AttArgs.wf
  | .geoSetCorner _ v | .geoNudgeCorner _ v => v.wf CornerArgs.wf
  | .geoSetCorners _ v => v.wf wfCorners
  | .geoZeroCorners _ v | .geoClearClip _ v | .geoStatus _ v => v.wf wfNothing
  | .geoSetMode _ v | .geoSetFollow _ v => v.wf (fitsU 1)
  | .geoSetPanel _ v => v.wf wfPanel
  | .geoSetZoomTable _ v => v.wf wfCoeffs
  | .computationCompletion => true
  | .fwSet _ v | .fwNudge _ v => v.wf EditArgs.wf
  | .fwZero _ v => v.wf ZeroArgs.wf
  | .fwZeroAll _ v | .meshStatus _ v => v.wf wfNothing
  | .fwSetLimit _ v => v.wf (fitsU 2)
  | .fwEnable _ v | .fwRead _ v => v.wf (fitsU 1)
  | .presVideoWatchExpiry | .mpStatus | .mcsnRelease => true
  | .mpReadRows v => v.wf ReadArgs.wf
  | .mpSetFormat v => v.wf (fitsU 1)
  | .mpUnknownCommand b => wfMeshByte b
  | .legEnd _ | .stopDecelerationEnd _ | .settleTimeExpiry _ | .homeSwitchEdge _ | .homeTimeout _ | .indexEdge _
  | .mdfltActivation | .mdfltDeassertion | .jogSoftLimitReached _ | .jogTimeoutExpiry _ | .jogStopEnd _
  | .stepIssued _ _ | .rawLevelChange _ _ => true
  | .jog _ v => v.wf JogArgs.wf
  | .jogEnd _ v | .stop _ v | .axisReadParams _ v => v.wf (fitsU 1)
  | .axisSetParams _ v => v.wf AxisArgs.wf
  | .axisSetJog _ v => v.wf (fitsU 2)
  | .axisStatus _ v => v.wf wfNothing
  | .mqMove _ v => v.wf (MoveArgs.wf (fitsN 2))
  | .mqStep _ v => v.wf (MoveArgs.wf (fitsS 3))
  | .mqHome _ v | .mqRecall _ v => v.wf TaggedArgs.wf
  | .flush _ v | .mqStatus _ v | .mqOutcomes _ v | .fcStatus _ v => v.wf wfNothing
  | .memSave _ v => v.wf SaveArgs.wf
  | .memDelete _ v | .memRead _ v | .memSetPoweron _ v => v.wf (fitsU 1)
  | .fcSet _ v => v.wf FcArgs.wf
  | .fanControlPeriod | .spinupTimerExpiry _ | .tachEdge _ | .tachWindowEnd _ | .stopTimerExpiry _ => true
  | .fanSetQuiet _ v | .fanClear _ v | .fanReadSettings _ v => v.wf (fitsU 1)
  | .fanSetCurve _ v => v.wf CurveArgs.wf
  | .fanSetBinding _ v => v.wf BindingArgs.wf
  | .fanSetParams _ v => v.wf FanArgs.wf
  | .fanSetOffsets _ v => v.wf OffsetArgs.wf
  | .fanSetSlew _ v => v.wf (fitsN 2)
  | .fanStatus _ v => v.wf wfNothing
  | .protectionPeriodExpiry | .tcoActivation | .drvfltActivation | .tcoDeassertion | .drvfltDeassertion
  | .afterrunTimerExpiry => true
  | .light _ v => v.wf (fitsU 1)
  | .clearTrip _ v | .protReadSettings _ v | .protStatus _ v => v.wf wfNothing
  | .protSetParams _ v => v.wf ProtArgs.wf
  | .protSetThresholds _ v => v.wf ThresholdArgs.wf
  | .i2cWriteOverflow | .uartByteReceived _ _ | .interbyteGapExpiry | .txFrameSent => true
  | .unknownCommand _ id => !Machine.knownId id
  | .readEvents _ v | .ident _ v | .portStatus _ v => v.wf wfNothing
  | .setEventMask _ v => v.wf (fitsU 2)
  | .setRights _ v | .setAutohome _ v => v.wf (fitsU 1)
  | .saveSettings _ v | .storeStatus _ v | .reset _ v => v.wf wfNothing
  | .saveCompletion | .powerOnReset | .powerLoss | .rstnLow | .rstnRise | .loadCompletion => true

end Sys2Proof
end

