-- ==== Sys2Proof/Tests/Slice0.lean ====
section
/-! SUPPORT. Tests of the model: the ill-formed terms that each check refuses, the worked examples of the manual, and a
witness for the hypotheses of every statement, clause by clause at the ends of their ranges. -/

open Sys2Proof Sys2Proof.Machine

namespace Sys2Proof.Tests

/-! ## Well-formedness: a term that each check refuses -/

theorem test_wf_code : (Instr.conversionCompletion 4096).wf = false ∧ (Instr.conversionCompletion 4095).wf = true := by
  decide

theorem test_wf_round : (Instr.smpSetRound .a (.form (List.replicate 59 0))).wf = false
    ∧ (Instr.smpSetRound .a (.form [256])).wf = false := by decide

theorem test_wf_trigger : (Instr.smpSetTrigger .a (.form ⟨0, 1, 65536, 20⟩)).wf = false := by decide

theorem test_wf_table : (Instr.smpSetTable .a (.form ⟨0, [0]⟩)).wf = false
    ∧ (Instr.smpSetTable .a (.form ⟨0, List.replicate 17 32768⟩)).wf = false := by decide

theorem test_wf_channel : (Instr.smpSetChannel .a (.form (.temp 256 0))).wf = false
    ∧ (Instr.smpSetChannel .a (.form (.angle 7 65536 1))).wf = false := by decide

theorem test_wf_counts : (Instr.smpClearPeak .a (.form 65536)).wf = false
    ∧ (Instr.smpReadChannel .a (.form 256)).wf = false := by decide

theorem test_wf_attitude : (Instr.attSetOrientation .a (.form 256)).wf = false
    ∧ (Instr.attSetParams .a (.form ⟨-1, 0, 0, 0⟩)).wf = false := by decide

theorem test_wf_corner : (Instr.geoSetCorner .a (.form ⟨0, ⟨32768, 0⟩⟩)).wf = false
    ∧ (Instr.geoNudgeCorner .a (.form ⟨256, ⟨0, 0⟩⟩)).wf = false
    ∧ (Instr.geoSetCorners .a (.form ⟨⟨0, 0⟩, ⟨0, 0⟩, ⟨0, -32769⟩, ⟨0, 0⟩⟩)).wf = false := by decide

theorem test_wf_geometry : (Instr.geoSetMode .a (.form 256)).wf = false
    ∧ (Instr.geoSetPanel .a (.form ⟨65536, 720⟩)).wf = false
    ∧ (Instr.geoSetZoomTable .a (.form [512])).wf = false := by decide

theorem test_wf_edit : (Instr.fwSet .a (.form ⟨0, 0, .x 1, some (.y 0)⟩)).wf = false
    ∧ (Instr.fwNudge .a (.form ⟨0, 256, .x 1, none⟩)).wf = false
    ∧ (Instr.fwZero .a (.form ⟨0, 0, .both, some (.x 0)⟩)).wf = false
    ∧ (Instr.fwSet .a (.noForm 256 0)).wf = false ∧ (Instr.fwZero .a (.noForm 0 256)).wf = false
    ∧ (Instr.fwSetLimit .a (.form 65536)).wf = false ∧ (Instr.fwRead .a (.form 256)).wf = false := by decide

theorem test_wf_meshPort : (Instr.mpReadRows (.form ⟨256, 1⟩)).wf = false
    ∧ (Instr.mpSetFormat (.form 256)).wf = false ∧ (Instr.mpUnknownCommand 0x02#8).wf = false := by decide

theorem test_wf_axis : (Instr.jog .a (.form ⟨0, 0, 256⟩)).wf = false ∧ (Instr.stop .a (.form 256)).wf = false
    ∧ (Instr.axisSetParams .a (.form ⟨0, 65536, 1, 1, 1, 1, 1, 1, 1, 1, 1⟩)).wf = false
    ∧ (Instr.axisSetJog .a (.form 65536)).wf = false := by decide

theorem test_wf_queue : (Instr.mqMove .a (.form ⟨3, 0, [0]⟩)).wf = false
    ∧ (Instr.mqMove .a (.form ⟨1, 0, [-1]⟩)).wf = false ∧ (Instr.mqStep .a (.form ⟨1, 0, [8388608]⟩)).wf = false
    ∧ (Instr.mqHome .a (.form ⟨256, 0⟩)).wf = false := by decide

theorem test_wf_memory : (Instr.memSave .a (.form ⟨0, 0, [0x41#8]⟩)).wf = false
    ∧ (Instr.memSave .a (.form ⟨0, 2, List.replicate 57 0x41#8⟩)).wf = false
    ∧ (Instr.memRead .a (.form 256)).wf = false ∧ (Instr.fcSet .a (.form ⟨1, 0, 0, 0, 256⟩)).wf = false := by decide

theorem test_wf_fan : (Instr.fanSetCurve .a (.form ⟨0, List.replicate 15 ⟨0, 0⟩⟩)).wf = false
    ∧ (Instr.fanSetBinding .a (.form ⟨0, List.replicate 58 0⟩)).wf = false
    ∧ (Instr.fanSetParams .a (.form ⟨0, -1, 0, 0⟩)).wf = false
    ∧ (Instr.fanSetOffsets .a (.form ⟨0, 32768, 0⟩)).wf = false
    ∧ (Instr.fanSetSlew .a (.form 65536)).wf = false := by decide

theorem test_wf_protection : (Instr.protSetParams .a (.form ⟨0, 0, 256, 0⟩)).wf = false
    ∧ (Instr.protSetThresholds .a (.form ⟨0, 0, -32769⟩)).wf = false ∧ (Instr.light .a (.form 256)).wf = false := by
  decide

theorem test_wf_ports : (Instr.unknownCommand .a 0xA2#8).wf = false ∧ (Instr.unknownCommand .a 0xFF#8).wf = true
    ∧ (Instr.setEventMask .a (.form 65536)).wf = false ∧ (Instr.setRights .a (.form 256)).wf = false := by decide

/-! ## The worked examples of the manual -/

/-- Codes 1800 and 1760 in the default table (01 R12, "a channel through a fault"). -/
theorem test_tableTemp : tableTemp defaultTable 1800 = 448 ∧ tableTemp defaultTable 1760 = 458 := by decide

/-- Code 2100 with the default zero code and scale (01 R13). -/
theorem test_codeAngle : codeAngle (defaultSettings.angle.get .pitch) 2100 = 228 := by decide

/-- A full window summing to 1928 gives round(120.5) = 121, and halves go toward positive infinity (02 R19; 00). -/
theorem test_round : roundDiv 1928 16 = 121 ∧ roundDiv (-3) 2 = -1 ∧ roundDiv 1 2 = 1 := by decide

/-- The panel, mode and inset of the example "a tilted floor-standing projector" (03). -/
def tilted : GeoRecord := { defaultSettings.geo with corners := true }

theorem test_compose_floor : candidateOf tilted 4 1024 0 .floor =
    { corners := ⟨⟨2560, 0⟩, ⟨58880, 0⟩, ⟨0, 34560⟩, ⟨61440, 34560⟩⟩, clamp := none, inset := 2560 } := by decide

/-- "The same tilt hung from the ceiling, with a clamp" (03): the first clamp in panel order is TR, component x. -/
theorem test_compose_ceiling :
    candidateOf { tilted with offsets := ⟨⟨-400, 300⟩, ⟨0, 0⟩, ⟨-300, 200⟩, ⟨0, 0⟩⟩ } 4 1024 0 .ceiling =
      { corners := ⟨⟨0, 0⟩, ⟨61440, 0⟩, ⟨2560, 34560⟩, ⟨59280, 34260⟩⟩, clamp := some (.tr, .x), inset := 2560 } := by
  decide

/-- The corners of the worked vertex case (04). -/
def worked : PerCorner Pt := ⟨⟨2560, 0⟩, ⟨58880, 0⟩, ⟨0, 34560⟩, ⟨61440, 34560⟩⟩

theorem test_rows : (List.range 9).map (rowFraction worked) = [0, 474, 959, 1453, 1959, 2476, 3004, 3544, 4096] := by
  decide

theorem test_vertices : baseVertex worked 0 4 = ⟨1336, 16529⟩ ∧ baseVertex worked 4 4 = ⟨16028, 16529⟩
    ∧ baseVertex worked 8 4 = ⟨30720, 16529⟩ ∧ baseVertex worked 16 4 = ⟨60104, 16529⟩ := by decide

/-- The NARROW values of row 4 (05), and the two ends of 05 R89. -/
theorem test_narrow : narrow (60104 - 61440) = -334 ∧ narrow (16529 - 17280) = -188 ∧ narrow 8190 = 2047
    ∧ narrow 8189 = 2047 ∧ narrow (-8194) = -2048 ∧ narrow 8378 = 2047 ∧ narrow 6143 = 1536 := by decide

/-- The acceleration distance of ZOOM with the defaults, 06 R96. -/
theorem test_ramp : rampSteps (defaultSettings.axes.get .zoom) (4000 * 4000) = 396 := by decide

/-- The lookups of FAN_LS's default curve, 08 R134. -/
theorem test_lookup : lookup (defaultSettings.fans.get .ls).curve 732 = 919
    ∧ lookup (defaultSettings.fans.get .ls).curve 480 = 300 := by decide

/-- "The cost of quiet mode" (09): the derate 413, and the raw allowance at the floor, then 587. -/
theorem test_allowance : channelDerate ⟨650, 800⟩ 712 = 413 ∧ roundDiv (469 * 24) 16 = 704
    ∧ rawAllowance 350 413 704 0 0 = 350 ∧ rawAllowance 350 413 0 0 0 = 587 ∧ nextAllowance 50 587 350 = 355
    ∧ nextAllowance 50 587 585 = 587 ∧ nextAllowance 50 350 1000 = 350 := by decide

/-- The characters 1 to 9. -/
def digits : List Byte := [0x31#8, 0x32#8, 0x33#8, 0x34#8, 0x35#8, 0x36#8, 0x37#8, 0x38#8, 0x39#8]

/-- 11 R182. -/
theorem test_crc32 : crc32 digits = 0xCBF43926#32 := by decide +kernel

/-- 10 R171. -/
theorem test_crc8 : crc8 digits = 0xF4#8 ∧ frameBytes [0x10#8] = [0xA5#8, 0x01#8, 0x10#8, 0x65#8] := by decide +kernel

/-- The table gives no bits for any row, so no word spells a command. -/
theorem test_decode : decodeTableWord 0 0 = none ∧ decodeTableWord 16 0x0010 = none := by decide

/-! ## A part at work: loaded, every right with Port B -/

def work : State :=
  { State.reset with
    set := { defaultSettings with rights := ⟨true, true, true, true, true⟩ },
    store := { Store.reset with state := .idle } }

/-- A step on the state with one command in its queue. -/
def run (i : Instr) (s : State) : Result := step { s with pending := [i] }

/-- The Port A reply of a command run on a state: its status and data. -/
def replyOf (i : Instr) (s : State) : Option (Status × List Byte) :=
  match run i s with
  | .next t => some (t.port.bufA.status, t.port.bufA.data)
  | .fault _ | .refused _ => none

/-- IDENT returns 0x4547, 0x0D07 and 3 (10 R180). -/
theorem test_ident : replyOf (.ident .a (.form ())) work = some (.ok, [0x45#8, 0x47#8, 0x0D#8, 0x07#8, 0x03#8]) := by
  decide

/-- A parameter that matches no form is RANGE (10 R173), and a MQ_HOME of no axis too (07 R114). -/
theorem test_range : replyOf (.mqHome .a .misfit) work = some (.range, [])
    ∧ replyOf (.mqHome .a (.form ⟨0, 7⟩)) work = some (.range, []) := by decide

/-- A move of an axis that is not homed is NOT_HOMED (07 R114). -/
theorem test_notHomed : replyOf (.mqMove .a (.form ⟨1, 7, [100]⟩)) work = some (.notHomed, []) := by decide

/-- The reset reply is NOT_READY with sequence 0 (10 R169), and a command during the load leaves it (11 R187). -/
theorem test_deaf : replyOf (.ident .a (.form ())) State.reset = some (.notReady, []) := by decide

/-- The Port B transmit queue after a command run on a state. -/
def framesOf (i : Instr) (s : State) : List TxFrame :=
  match run i s with
  | .next t => t.port.tx
  | .fault _ | .refused _ => []

/-- Without the right, Port B is DENIED, but a form that does not match is RANGE first (10 R173); the response frame is
type 1, frame count 1, identifier and status (10 R172; 12 R191). -/
theorem test_denied :
    framesOf (.setAutohome .b (.form 1)) { work with set := defaultSettings }
        = [.response [0x01#8, 0x01#8, 0xB1#8, 0x03#8] false]
    ∧ framesOf (.setAutohome .b .misfit) { work with set := defaultSettings }
        = [.response [0x01#8, 0x01#8, 0xB1#8, 0x04#8] false] := by decide

/-! ## Witnesses: for each statement, states and operands that meet the hypotheses of its clauses -/

/-- At work every command of every need but the System Port's reaches its unit, from either port; the System Port's from
Port A. -/
theorem witness_canUse (p : Port) (n : Need) (h : n ≠ .systemPort ∨ p = .a) : canUse p n work := by
  cases p <;> cases n <;> first | exact ⟨rfl, rfl, fun _ => by decide⟩ | simp at h

theorem witness_StepTakesFront : step { work with pending := [.frameStart] } = exec .frameStart work := rfl

theorem witness_IdleStep : work.pending = []
    ∧ ∀ f ∈ [TxFrame.response [] false, .notice none, .response [] true, .notice (some [])],
      ({ work with port := { work.port with tx := [f] } } : State).port.tx = f :: [] := by decide

/-- A part with the Sampling Unit changed. -/
def withSmp (u : Sampling) : State := { work with smp := u }

theorem witness_SamplingCommands :
    (∀ p, canUse p .config work ∧ canUse p .none work)
    ∧ (∀ l ∈ [List.replicate 1 (9 : Fin 10), List.replicate 16 (0 : Fin 10)], 1 ≤ l.length ∧ l.length ≤ 16)
    ∧ (∀ t ∈ [(1, 0, 5), (16, 10000, 1000)], 1 ≤ t.1 ∧ t.1 ≤ 16 ∧ t.2.1 ≤ 10000 ∧ 5 ≤ t.2.2 ∧ t.2.2 ≤ 1000)
    ∧ work.smp.video = false ∧ (withSmp { work.smp with video := true }).smp.video = true
    ∧ (∀ v ∈ (Vector.replicate 17 (-400 : Int)).toList, -400 ≤ v ∧ v ≤ 1500)
    ∧ (∀ v ∈ (Vector.replicate 17 (1500 : Int)).toList, -400 ≤ v ∧ v ≤ 1500)
    ∧ (∀ t ∈ [(0, 1), (4095, 1023)], t.1 ≤ 4095 ∧ 1 ≤ t.2 ∧ t.2 ≤ 1023) ∧ 127 < 128 :=
  ⟨fun p => ⟨witness_canUse p _ (.inl (by decide)), witness_canUse p _ (.inl (by decide))⟩,
    by decide, by decide, rfl, rfl, by decide, by decide, by decide, by decide⟩

/-- A locked part at the last frame of its divider. -/
def locked (delay : Nat) (running : Bool) (round : List (Fin 10)) : State :=
  { work with
    set := { work.set with trigger := ⟨.sync, 1, delay, 20⟩ },
    smp := { work.smp with video := true, trigState := .syncLocked, delayRunning := running, round := round } }

theorem witness_RoundsAndFrames :
    ((locked 100 true []).smp.delayRunning = true ∧ (locked 100 true []).smp.round = [])
    ∧ ((locked 100 true [3]).smp.delayRunning = true ∧ (locked 100 true [3]).smp.round ≠ [])
    ∧ (work.deaf = false ∧ work.smp.periodRunning = true ∧ work.smp.round = [])
    ∧ ((withSmp { work.smp with round := [3] }).deaf = false ∧ (withSmp { work.smp with round := [3] }).smp.round ≠ [])
    ∧ ((locked 0 false []).smp.video = true ∧ (locked 0 false []).smp.trigState = .syncLocked)
    ∧ ((withSmp { work.smp with video := true }).smp.video = true
      ∧ (withSmp { work.smp with video := true }).smp.trigState ≠ .syncLocked)
    ∧ ((locked 0 false []).deaf = false ∧ (locked 0 false []).pres.banks.find .ready = none)
    ∧ (withSmp { work.smp with trigState := .freeRun }).smp.trigState = .freeRun
    ∧ (locked 0 false []).smp.divCount + 1 = (locked 0 false []).set.trigger.divider
    ∧ (let s : State := { locked 0 false [] with set := { work.set with trigger := ⟨.sync, 16, 0, 20⟩ } }
      s.smp.divCount + 1 < s.set.trigger.divider)
    ∧ (0 < (locked 100 false []).set.trigger.delay ∧ (locked 100 false []).smp.delayRunning = false)
    ∧ ((locked 0 false []).set.trigger.delay = 0 ∧ (locked 0 false []).smp.round = [])
    ∧ (let s : State := { locked 0 false [] with smp := { work.smp with trigState := .syncFallback } }
      s.smp.trigState = .syncFallback ∧ s.set.trigger.divider = 1 ∧ s.smp.delayRunning = false
      ∧ s.set.trigger.delay = 0 ∧ s.smp.round = [] ∧ s.deaf = false ∧ s.pres.banks.find .ready = none) := by decide

/-- A part whose round is at channel k, with its record. -/
def converting (k : Fin 10) (r : ChannelRec) : State :=
  withSmp { work.smp with round := [k], records := work.smp.records.set k r }

/-- A record in a validity with its counts. -/
def recordIn (v : Validity) (invalid valid : Nat) : ChannelRec :=
  { ChannelRec.reset with validity := v, invalidRun := invalid, validRun := valid, filtered := some 300 }

/-- A part that falls back, at the first frame of its divider. -/
def fallen (divider delay : Nat) (running : Bool) (round : List (Fin 10)) : State :=
  let s := locked delay running round
  { s with
    set := { s.set with trigger := ⟨.sync, divider, delay, 20⟩ },
    smp := { s.smp with trigState := .syncFallback, periodRunning := true } }

theorem witness_RoundsAndFrames_fallback :
    (∀ t ∈ [(2, 2000, false), (16, 0, true)], (fallen t.1 t.2.1 t.2.2 []).deaf = false
      ∧ (fallen t.1 t.2.1 t.2.2 []).pres.banks.find .ready = none
      ∧ (fallen t.1 t.2.1 t.2.2 []).smp.trigState = .syncFallback ∧ 1 < (fallen t.1 t.2.1 t.2.2 []).set.trigger.divider)
    ∧ ((fallen 1 2000 true []).set.trigger.divider = 1 ∧ (fallen 1 2000 true []).smp.delayRunning = true)
    ∧ ((fallen 1 1 false []).smp.delayRunning = false ∧ 0 < (fallen 1 1 false []).set.trigger.delay)
    ∧ ((fallen 1 0 false [3]).set.trigger.delay = 0 ∧ (fallen 1 0 false [3]).smp.round ≠ []) := by decide

theorem witness_TempConversion :
    (converting 6 (recordIn .valid 0 0)).smp.round = 6 :: [] ∧ (6 : Fin 10).val < 7
    ∧ (∀ c ∈ [32, 4063], 32 ≤ c ∧ c ≤ 4063 ∧ c ≤ 4095) ∧ (∀ c ∈ [0, 31, 4064, 4095], (c < 32 ∨ 4063 < c) ∧ c ≤ 4095)
    ∧ ((converting 5 (recordIn .valid 0 0)).smp.records.get 5).validity ≠ .fault
    ∧ (((converting 0 (recordIn .fault 3 3)).smp.records.get 0).validity = .fault
      ∧ ((converting 0 (recordIn .fault 3 3)).smp.records.get 0).validRun = 3)
    ∧ ((converting 0 (recordIn .fault 3 2)).smp.records.get 0).validRun < 3
    ∧ (((converting 0 (recordIn .valid 2 0)).smp.records.get 0).validity ≠ .fault
      ∧ ((converting 0 (recordIn .valid 2 0)).smp.records.get 0).invalidRun = 2)
    ∧ ((converting 0 (recordIn .valid 1 0)).smp.records.get 0).invalidRun < 2 := by decide

/-- A part whose angle windows hold n samples of v. -/
def withWindows (n : Nat) (v : Int) (s : State) : State :=
  { s with att := { s.att with
    windows := { pitch := List.replicate n v, roll := List.replicate n 0, vert := List.replicate n v } } }

/-- A part whose ZOOM is homed and at rest, so that the angle filters are not frozen. -/
def resting (s : State) : State :=
  { s with axes := PerAxis.const { AxisRec.reset with state := .idle, position := 100 } }

theorem witness_TempConversion_segment :
    ∀ t ∈ [((0 : Fin 16), (0 : Nat)), (0, 255), (15, 3840), (15, 4095)],
      256 * t.1.val ≤ t.2 ∧ t.2 < 256 * (t.1.val + 1) := by decide

/-- Each cause alone freezes the filters (02 R20). -/
theorem test_frozen :
    (∀ k ∈ [AxisState.homing, .moving, .jog, .settling],
      frozen ((resting work).setAxis .focus { AxisRec.reset with state := k }) = true)
    ∧ frozen ((resting work).setFan .oe { FanRec.reset with state := .spinup }) = true := by decide

theorem witness_AngleConversion :
    (converting (AngleCh.channel .pitch) (recordIn .new 0 0)).smp.round = AngleCh.channel .pitch :: []
    ∧ ((converting 7 (recordIn .new 0 0)).smp.records.get 7).validity ≠ .fault
    ∧ frozen { work with axes := PerAxis.const { AxisRec.reset with state := .moving } } = true
    ∧ frozen (resting work) = false
    ∧ ((withWindows 14 0 work).att.windows.get .pitch).length < 15
    ∧ ({ work with set := { work.set with orientation := .floor } } : State).set.orientation ≠ .auto := by decide

/-- A part at rest, every angle channel VALID, its windows holding n samples, that converts channel k with the record
given. -/
def readying (n : Nat) (k : Fin 10) (r : ChannelRec) : State :=
  let s := withWindows n 0 (resting work)
  { s with smp := { s.smp with
    round := [k],
    records := (((s.smp.records.set 7 (recordIn .valid 0 9)).set 8 (recordIn .valid 0 9)).set 9 (recordIn .valid 0 9)).set
      k r } }

theorem witness_AngleConversion_decisions :
    (∀ n ∈ [15, 16], 15 ≤ ((readying n 7 (recordIn .valid 0 0)).att.windows.get .pitch).length
      ∧ frozen (readying n 7 (recordIn .valid 0 0)) = false)
    ∧ (readying 15 9 (recordIn .valid 0 0)).set.orientation = .auto
    ∧ (∀ d ∈ [AngleCh.roll, .vert], ((readying 16 7 (recordIn .new 0 0)).att.windows.get d).length = 16
      ∧ ((readying 16 7 (recordIn .new 0 0)).smp.records.get d.channel).validity ≠ .fault)
    ∧ ((readying 15 7 (recordIn .new 0 0)).att.windows.get .roll).length ≠ 16
    ∧ (∀ c ∈ [31, 4064], c < 32 ∨ 4063 < c)
    ∧ ((readying 16 9 (recordIn .fault 3 3)).smp.records.get 9).validity = .fault
    ∧ ((readying 16 9 (recordIn .fault 3 3)).smp.records.get 9).validRun = 3
    ∧ ((readying 16 9 (recordIn .fault 3 2)).smp.records.get 9).validRun < 3
    ∧ ((readying 16 9 (recordIn .valid 2 0)).smp.records.get 9).invalidRun = 2
    ∧ ((readying 16 9 (recordIn .valid 1 0)).smp.records.get 9).invalidRun < 2 := by decide

/-- The example "tilt follow at the shape limit" (03): p_app, refused pitch and follow as given. -/
def following (pApp : Int) (refused : Option Int) (on : Bool) : State :=
  { work with
    set := { work.set with
      geo := { tilted with follow := on, offsets := ⟨⟨14000, 0⟩, ⟨-14000, 0⟩, ⟨0, 0⟩, ⟨0, 0⟩⟩ },
      att := { work.set.att with deadband := 10 } },
    geo := { work.geo with band := 4 },
    att := { work.att with pApp := pApp, refused := refused, effective := .floor } }

/-- The candidate of a followed pitch. -/
def followed (f : Int) (s : State) : Candidate := candidateOf s.set.geo s.geo.band f s.set.pRef s.att.effective

/-- Steps 2, 3, 4, 5 and 7 of the example, and the decision with follow OFF. -/
theorem witness_FollowDecision :
    (¬ (10 ≤ mag (550 - (following 544 none true).att.pApp)))
    ∧ (10 ≤ mag (556 - (following 544 none true).att.pApp) ∧ (following 544 none false).set.geo.follow = false)
    ∧ (10 ≤ mag (560 - (following 544 (some 556) true).att.pApp) ∧ ¬ (10 ≤ mag ((560 : Int) - 556)))
    ∧ (10 ≤ mag (544 - (following 520 none true).att.pApp) ∧ (following 520 none true).att.refused = none
      ∧ shapeOk 3840 2160 (followed 544 (following 520 none true)).corners = true)
    ∧ shapeOk 3840 2160 (followed 556 (following 544 none true)).corners = false
    ∧ 10 ≤ mag ((566 : Int) - 556) := by decide

/-- The thresholds of the default settings, and a reading just beyond each. -/
theorem witness_OrientationAndRoll :
    let t := work.set.att.threshold
    (-t ≤ -t ∧ -t ≤ t ∧ t ≤ t) ∧ 0 ≤ t ∧ t < t + 1 ∧ -t - 1 < -t
    ∧ work.att.effective = .ceiling ∧ (following 0 none true).att.effective = .floor
    ∧ (∀ n ∈ [0, 6], n < 7) ∧ ({ work with att := { work.att with count := 7 } } : State).att.count = 7
    ∧ work.att.rollRaised = false ∧ work.set.att.rollLimit < mag (work.set.att.rollLimit + 1)
    ∧ mag (work.set.att.rollLimit) ≤ work.set.att.rollLimit
    ∧ ({ work with att := { work.att with rollRaised := true } } : State).att.rollRaised = true
    ∧ mag (work.set.att.rollLimit - 51) < work.set.att.rollLimit - 50
    ∧ work.set.att.rollLimit - 50 ≤ mag (work.set.att.rollLimit - 50) := by decide

/-- A part with every angle ready at 3 degrees of pitch. -/
def level : State :=
  let s := withWindows 16 300 work
  { s with smp := { s.smp with
    records := ((s.smp.records.set 7 (recordIn .valid 0 9)).set 8 (recordIn .valid 0 9)).set 9 (recordIn .valid 0 9) } }

theorem witness_AttitudeCommands :
    attitudeValid level = true ∧ meanOf level.att.windows.pitch = some 300
    ∧ shapeOk level.set.geo.width level.set.geo.height
        (candidateOf level.set.geo level.geo.band 300 300 level.att.effective).corners = true
    ∧ (let s : State := { level with set := { level.set with geo := { level.set.geo with
          corners := true, offsets := ⟨⟨15360, 0⟩, ⟨-15360, 0⟩, ⟨15360, 0⟩, ⟨-15361, 0⟩⟩ } } }
      shapeOk s.set.geo.width s.set.geo.height (candidateOf s.set.geo s.geo.band 300 300 s.att.effective).corners = false)
    ∧ attitudeValid work = false ∧ work.att.effective = .ceiling ∧ (following 0 none true).att.effective = .floor
    ∧ (∀ a ∈ [((5 : Int), (-9000 : Int), (1000 : Int), (100 : Int)), (100, 9000, 8000, 3000)],
        5 ≤ a.1 ∧ a.1 ≤ 100 ∧ -9000 ≤ a.2.1 ∧ a.2.1 ≤ 9000 ∧ 1000 ≤ a.2.2.1 ∧ a.2.2.1 ≤ 8000
          ∧ 100 ≤ a.2.2.2 ∧ a.2.2.2 ≤ 3000) := by decide

/-- Port B with the CONFIG right alone can set the attitude parameters (02 R30). -/
theorem witness_AttitudeCommands_config :
    let s : State := { work with set := { work.set with rights := Rights.ofMask 0x08 } }
    mayUse s.set.rights .b .config = true ∧ mayUse s.set.rights .b .geometry = false ∧ s.deaf = false
      ∧ s.port.tx.length < 4 := by decide

theorem witness_GeometryCommands_clip :
    work.geo.clip = .clear ∧ (candidateOf tilted 4 1024 0 .floor).clamp = none
    ∧ (candidateOf { tilted with offsets := ⟨⟨-400, 300⟩, ⟨0, 0⟩, ⟨-300, 200⟩, ⟨0, 0⟩⟩ } 4 1024 0 .ceiling).clamp =
        some (.tr, .x)
    ∧ ({ work with geo := { work.geo with clip := .vertex 16 8 .y } } : State).geo.clip ≠ .clear := by decide

theorem witness_GeometryCommands :
    (∀ p, canUse p .geometry work ∧ canUse p .config work ∧ canUse p .none work)
    ∧ shapeOk 3840 2160 (followed 0 (following 0 none true)).corners = true
    ∧ shapeOk 3840 2160 (followed 556 (following 0 none true)).corners = false
    ∧ (∀ d ∈ [(-30720 : Int), 30720], -30720 ≤ d ∧ d ≤ 30720)
    ∧ (∀ d ∈ [((1280 : Int), (720 : Int)), (4096, 2400)], 1280 ≤ d.1 ∧ d.1 ≤ 4096 ∧ 720 ≤ d.2 ∧ d.2 ≤ 2400)
    ∧ (∀ n ∈ (Vector.replicate 8 1023).toList, n ≤ 1023) :=
  ⟨fun p => ⟨witness_canUse p _ (.inl (by decide)), witness_canUse p _ (.inl (by decide)),
    witness_canUse p _ (.inl (by decide))⟩, by decide, by decide, by decide, by decide, by decide⟩

theorem witness_MeshSpacing :
    (0 : Int) < 1280 ∧ (0 : Int) < 720 ∧ shapeOk 3840 2160 worked = true
    ∧ 0 < worked.tr.x - worked.tl.x ∧ 0 < worked.br.x - worked.bl.x ∧ 0 < worked.bl.y - worked.tl.y
    ∧ 0 < worked.br.y - worked.tr.y ∧ worked.bl.y - worked.tl.y = worked.br.y - worked.tr.y
    ∧ (nominal 1280 720).tr.x - (nominal 1280 720).tl.x = (nominal 1280 720).br.x - (nominal 1280 720).bl.x
    ∧ 16 ≤ 16 ∧ 8 ≤ 8 ∧ 15 < 16 ∧ 7 < 8 := by decide

/-- The worked corners are lawful. -/
theorem worked_lawful : cornersLawful 3840 2160 worked := by
  refine ⟨?_, ?_, ?_, ?_, ?_⟩ <;> first | decide | (unfold inPanel worked; decide)

theorem witness_BaseVertices : cornersLawful 3840 2160 worked ∧ (0 : Int) < 3840 ∧ (0 : Int) < 2160
    ∧ (∀ u ∈ [(0 : Int), 4096], 0 ≤ u ∧ u ≤ 4096) ∧ 16 ≤ 16 ∧ 8 ≤ 8 :=
  ⟨worked_lawful, by decide, by decide, by decide, by decide, by decide⟩

/-- The snapshot of "fine offsets on a ceiling mount" (04). -/
def ceilingSnap : Snapshot :=
  { snapshotOf work with
    corners := ⟨⟨0, 0⟩, ⟨61440, 0⟩, ⟨2560, 34560⟩, ⟨59280, 34260⟩⟩, orient := .ceiling,
    layer := setAt (setAt work.set.layer 0 ⟨40, -24⟩) 152 ⟨300, 300⟩ }

/-- Its two vertices: (16, 8) at (59240, 34284) with no clamp, and (0, 0) clamped in both components. -/
theorem test_ceiling_vertices : vertexOf ceilingSnap 16 8 = ⟨59240, 34284⟩ ∧ vertexOf ceilingSnap 0 0 = ⟨0, 0⟩
    ∧ vertexClamped ceilingSnap 0 0 .x = true ∧ vertexClamped ceilingSnap 16 8 .x = false := by decide

theorem witness_FineWarpVertices : ceilingSnap.fineWarp = true
    ∧ ({ ceilingSnap with fineWarp := false } : Snapshot).fineWarp = false ∧ 0 < ceilingSnap.width
    ∧ 0 < ceilingSnap.height ∧ cornersLawful 3840 2160 worked ∧ firstVertexClamp ceilingSnap = some (0, 0, .x) :=
  ⟨by decide, by decide, by decide, by decide, worked_lawful, by decide +kernel⟩

theorem witness_VertexEdits_range : allComps (within (-4096) 4096) (.x 4097) = false
    ∧ allComps (within (-4096) 4096) (.both 0 (-4097)) = false := by decide

theorem witness_VertexEdits :
    (∀ p, canUse p .geometry work) ∧ 16 ≤ 16 ∧ 8 ≤ 8
    ∧ stale (meshAt work.set.layer 16 8) none = false
    ∧ stale (meshAt work.set.layer 16 8) (some (.x 1)) = true
    ∧ allComps (within (-512) 512) (.both 512 (-512)) = true ∧ allComps (within (-512) 512) (.both 513 0) = false
    ∧ allComps (within (-4096) 4096) (.both 4096 (-4096)) = true :=
  ⟨fun p => witness_canUse p _ (.inl (by decide)), by decide, by decide, by decide, by decide, by decide, by decide,
    by decide⟩

/-- An edit that no form fits, as bytes: selector 3, a flag of 2, and too few bytes (04 R58; 12 R190; log 18). -/
theorem test_editForm :
    commandOf .b 0x42#8 [0x10#8, 0x08#8, 0x03#8, 0x00#8] = .fwZero .b (.noForm 16 8)
    ∧ commandOf .b 0x42#8 [0x10#8, 0x08#8, 0x02#8, 0x02#8] = .fwZero .b (.noForm 16 8)
    ∧ commandOf .b 0x42#8 [0x10#8, 0x08#8, 0x02#8] = .fwZero .b .misfit := by decide

/-- An edit with no known selector reaches the mesh from Port B without any right, on every vertex. -/
theorem witness_VertexEdits_noForm :
    canUse .b .none { work with set := { work.set with rights := Rights.ofMask 0 } } ∧ 16 ≤ 16 ∧ 8 ≤ 8
    ∧ (∀ k ∈ [(0x03#8 : Byte), 0xFF#8], 2 < k.toNat) :=
  ⟨⟨rfl, rfl, fun _ => by decide⟩, by decide, by decide, by decide⟩

/-- The number of entries that a limit brings in. -/
def broughtIn (n : Int) (l : FineLayer) : Nat :=
  (l.toList.filter fun d => !(within (-n) n d.x && within (-n) n d.y)).length

theorem witness_LayerCommands :
    (∀ p, canUse p .geometry work ∧ canUse p .none work) ∧ 2048 ≤ 2048
    ∧ broughtIn 2048 work.set.layer = 0 ∧ 0 < broughtIn 0 ceilingSnap.layer ∧ 8 ≤ 8 :=
  ⟨fun p => ⟨witness_canUse p _ (.inl (by decide)), witness_canUse p _ (.inl (by decide))⟩, by decide,
    by decide +kernel, by decide +kernel, by decide⟩

/-- A part whose engine computes into bank A. -/
def computing (pending : Bool) (restarts : Nat) (video : Bool) : State :=
  { work with
    eng := { work.eng with state := .computing .a ceilingSnap, pendingReq := pending, restarts := restarts },
    pres := { work.pres with video := video, banks := work.pres.banks.setState .a .writing } }

theorem witness_ComputationCompletion :
    work.eng.state = .idle ∧ (computing true 2 true).eng.state = .computing .a ceilingSnap
    ∧ ((computing true 2 true).eng.pendingReq = true ∧ (computing true 2 true).eng.restarts < 3)
    ∧ ((computing true 3 true).eng.pendingReq = true ∧ 3 ≤ (computing true 3 true).eng.restarts
      ∧ (computing true 3 true).pres.video = true)
    ∧ ((computing false 0 false).eng.pendingReq = false ∧ (computing false 0 false).pres.video = false
      ∧ ((computing false 0 false).pres.banks.get (BankId.other .a)).state = .empty) := by
  refine ⟨rfl, rfl, by decide, by decide, by decide⟩

/-- A part whose banks are in two states. -/
def banked (a b : BankState) (video pending : Bool) : State :=
  { work with
    pres := { work.pres with video := video, banks := (work.pres.banks.setState .a a).setState .b b },
    eng := { work.eng with pendingReq := pending }, smp := { work.smp with trigState := .freeRun } }

theorem witness_ComputationCompletion_absent :
    (∀ k ∈ [BankState.empty, .live, .reading], ∀ t ∈ [(false, 0), (true, 3)],
      let s := computing t.1 t.2 false
      let u : State := { s with pres := { s.pres with banks := s.pres.banks.setState .b k } }
      u.pres.video = false ∧ (u.pres.banks.get (BankId.other .a)).state = k
        ∧ (u.eng.pendingReq = false ∨ 3 ≤ u.eng.restarts)) := by decide

/-- The states of the two banks. -/
def bankStates (s : State) : BankState × BankState := (s.pres.banks.a.state, s.pres.banks.b.state)

theorem witness_ComputationCompletion_live :
    (∀ k ∈ [BankState.live, .reading], ((banked k .ready true false).pres.banks.get .a).state = k
      ∧ bankStates (banked .writing k true false) = (.writing, k))
    ∧ bankStates (banked .ready .empty true false) = (.ready, .empty) := by decide

theorem witness_SwapAndRelease_takeBack :
    (∀ p, canUse p .geometry (banked .ready .live true false))
    ∧ (banked .ready .live true false).eng.state = .idle ∧ (banked .ready .live true false).eng.pendingReq = false
    ∧ bankStates (banked .ready .live true false) = (.ready, .live) := by
  refine ⟨fun p => ?_, rfl, rfl, by decide⟩
  cases p <;> exact ⟨rfl, rfl, fun _ => by decide⟩

theorem witness_SwapAndRelease :
    ((banked .live .empty true false).pres.video = true ∧ bankStates (banked .live .empty true false) = (.live, .empty))
    ∧ bankStates (banked .ready .reading true false) = (.ready, .reading)
    ∧ (bankStates (banked .ready .live true false) = (.ready, .live)
      ∧ (banked .ready .live true false).eng.pendingReq = false ∧ (banked .ready .live true false).deaf = false
      ∧ (banked .ready .live true false).smp.trigState = .freeRun)
    ∧ (bankStates (banked .ready .empty true true) = (.ready, .empty)
      ∧ (banked .ready .empty true true).eng.pendingReq = true ∧ (banked .ready .empty true true).eng.state = .idle)
    ∧ bankStates (banked .reading .empty true false) = (.reading, .empty)
    ∧ (bankStates (banked .reading .ready false false) = (.reading, .ready)
      ∧ (banked .reading .ready false false).pres.video = false) := by decide

theorem witness_SwapAndRelease_frame :
    work.deaf = false ∧ (∀ i ∈ [BankId.a, .b], (work.pres.banks.get i).state ≠ .ready)
    ∧ bankStates (banked .reading .ready false true) = (.reading, .ready)
    ∧ (banked .reading .ready false true).eng.pendingReq = true ∧ (banked .reading .ready false true).eng.state = .idle
    ∧ (∀ k ∈ [BankState.reading, .live, .empty], bankStates (banked .ready k true true) = (.ready, k)) := by decide

/-- A part whose Mesh Port transaction stands as given. -/
def selecting (k : Trans) (s : State) : State := { s with pres := { s.pres with trans := k } }

theorem witness_MeshPortCommands_pins :
    (∀ k ∈ [Trans.none, .selected], (selecting k work).held = false ∧ (selecting k State.reset).held = false
      ∧ ((selecting k work).pres.trans = .none ∨ (selecting k work).pres.trans = .selected))
    ∧ (∀ k ∈ [Trans.taken, .ignored], (selecting k work).pres.trans = .taken ∨ (selecting k work).pres.trans = .ignored)
    ∧ ({ work with rstLow := true } : State).held = true
    ∧ ((selecting .none State.reset).store.state = .loading ∧ work.store.state ≠ .loading)
    ∧ (∀ l ∈ [[], [(0x00#8 : Byte)]], l.length < 2)
    ∧ (∀ k ∈ [(1 : Nat), 2], ({ work.pres with miso := [0xFF#8] } : Presentation).miso.length ≤ k)
    ∧ ({ work.pres with miso := [0xFF#8] } : Presentation).miso[0]? = some 0xFF#8 := by decide

/-- MP_READ_ROWS in the load is NO_MESH, after 0xFF for each byte of the command (05 R92; 11 R187; 12 R192). -/
theorem test_mesh_load : (match exec (.mpReadRows (.form ⟨0, 9⟩)) State.reset with
    | .next t => t.pres.miso
    | .fault _ | .refused _ => []) = [0xFF#8, 0xFF#8, 0xFF#8, 0x10#8] := by decide

theorem witness_MeshPortCommands :
    (work.deaf = false ∧ work.pres.trans = .none)
    ∧ ((0x04#8 : Byte) ≠ 0x01#8 ∧ (0x04#8 : Byte) ≠ 0x02#8 ∧ (0x04#8 : Byte) ≠ 0x03#8)
    ∧ (bankStates work = (.empty, .empty) ∧ bankStates (banked .live .empty true false) = (.live, .empty))
    ∧ (∀ a ∈ [((0 : Nat), (1 : Nat)), (8, 9)], a.1 ≤ 8 ∧ 1 ≤ a.2 ∧ a.2 ≤ 9)
    ∧ (∀ a ∈ [((9 : Nat), (1 : Nat)), (0, 0), (0, 10)], 8 < a.1 ∨ a.2 = 0 ∨ 9 < a.2)
    ∧ ({ work with pres := { work.pres with trans := .taken } } : State).pres.trans ≠ .none
    ∧ (computing false 0 true).pres.trans = .none
    ∧ ((banked .ready .live true true).eng.state = .idle
      ∧ (banked .ready .live true true).pres.banks.find .ready = some .a)
    ∧ (work.eng.pendingReq = false ∧ buildBank work.pres.banks = some .a) ∧ 2 ≤ 2 := by decide

/-- NarrowFormat and Crc8 hold a clause with a hypothesis each: a vertex on its grid point, a frame that waits. -/
theorem witness_NarrowFormat :
    meshAt ({ Bank.reset with width := 3840, height := 2160 } : Bank).mesh 0 0 = ⟨(0 : Nat) * 3840, (0 : Nat) * 2 * 2160⟩ := by
  decide

/-- A bank of the default panel size that holds vertex (8, 4) of the worked vertex case (04). -/
def workedBank : Bank :=
  { Bank.reset with mesh := setAt Bank.reset.mesh (17 * 4 + 8) ⟨30720, 16529⟩, width := 3840, height := 2160 }

/-- The worked vertex as it is sent in both formats, and the length of its row (12 R192). -/
theorem test_vertexBytes :
    meshAt workedBank.mesh 8 4 = ⟨30720, 16529⟩
    ∧ vertexBytes .wide workedBank 8 4 = [0x00#8, 0x78#8, 0x00#8, 0x00#8, 0x40#8, 0x91#8]
    ∧ vertexBytes .narrow workedBank 8 4 = [0x00#8, 0x0F#8, 0x44#8]
    ∧ (rowBytes .wide workedBank 4).take 1 = [0x04#8]
    ∧ ((rowBytes .wide workedBank 4).length, (rowBytes .narrow workedBank 4).length) = (103, 52) := by decide +kernel

/-! ### Axes, requests, lens memories (06, 07) -/

/-- A part with one axis changed. -/
def withAxis (r : AxisRec) : State := work.setAxis .zoom r

/-- An axis in a state, at a position on a leg. -/
def axisIn (k : AxisState) (leg : Leg) (position start stop : Int) : AxisRec :=
  { AxisRec.reset with state := k, leg := leg, position := position, legStart := start, legEnd := stop, stopHi := 5 }

theorem witness_StepsAndLegEnds :
    (∀ p ∈ [(0 : Int), 39999], 0 ≤ p + 1 ∧ p + 1 ≤ (work.set.axes.get .zoom).travel)
    ∧ ((axisIn .moving .leg1 0 0 40000).state = .moving ∧ (axisIn .moving .leg1 0 0 40000).position ≠ 40000
      ∧ (axisIn .moving .leg1 0 0 40000).dir = .positive)
    ∧ ((axisIn .jog .run 39999 0 0).state = .jog ∧ (axisIn .jog .run 39999 0 0).dir = (axisIn .jog .run 39999 0 0).jogDir)
    ∧ (∀ k ∈ [AxisState.moving, .jog], (axisIn k .stopping 4 0 9).leg = .stopping
      ∧ mag ((axisIn k .stopping 4 0 9).position - (axisIn k .stopping 4 0 9).legStart) < (axisIn k .stopping 4 0 9).stopHi)
    ∧ ((43998 : Nat) : Int) + 1 < (work.set.axes.get .zoom).travel + (work.set.axes.get .zoom).travel / 10
    ∧ (∀ k ∈ [AxisState.idle, .settling, .unhomed, .lost, .fault], k ≠ .moving ∧ k ≠ .jog ∧ k ≠ .homing)
    ∧ (let r : AxisRec := { axisIn .moving .leg1 70 0 70 with target := some 70 }
      r.position = r.legEnd ∧ r.target = some r.legEnd)
    ∧ (let r : AxisRec := { axisIn .moving .leg1 30 0 30 with target := some 70 }
      r.position = r.legEnd ∧ r.target = some 70 ∧ (70 : Int) ≠ r.legEnd)
    ∧ (∀ p ∈ [(0 : Int), 5], (axisIn .moving .stopping p 0 9).stopLo ≤ mag (p - 0)
      ∧ mag (p - 0) ≤ (axisIn .moving .stopping p 0 9).stopHi) := by decide

/-- A reversing jog ZOOM: 4 steps issued, its deceleration resting on steps 5 to 6. -/
def turning (steps : Int) : AxisRec :=
  { axisIn .jog .run (100 + steps) 100 0 with jogDir := .negative, jogLevel := 4, stopLo := 5, stopHi := 6 }

theorem witness_StepsAndLegEnds_turn :
    ((turning 4).state = .jog ∧ (turning 4).leg = .run ∧ (turning 4).dir ≠ (turning 4).jogDir)
    ∧ (∀ k ∈ [(0 : Int), 5], mag ((turning k).position - (turning k).legStart) < (turning k).stopHi)
    ∧ (turning 6).stopHi ≤ mag ((turning 6).position - (turning 6).legStart)
    ∧ (∀ k ∈ [(5 : Int), 6], (turning k).stopLo ≤ mag ((turning k).position - (turning k).legStart)
      ∧ mag ((turning k).position - (turning k).legStart) ≤ (turning k).stopHi)
    ∧ mag ((turning 4).position - (turning 4).legStart) < (turning 4).stopLo := by decide

/-- A step in the new direction is no turn while the jog can not yet rest, and is one where it can (06 R106). -/
theorem test_turn : ((stepMotion (work.set.axes.get .zoom) .negative (turning 4)).position,
      (stepMotion (work.set.axes.get .zoom) .negative (turning 5)).position,
      (stepMotion (work.set.axes.get .zoom) .negative (turning 5)).dir) = (104, 104, .negative) := by decide

/-- A request of Port A for ZOOM alone, dispatched or not. -/
def asked (k : Kind) (dispatched : Bool) : Request :=
  { newRequest .a k ((PerAxis.const false).set .zoom true) ((PerAxis.const none).set .zoom (some 100)) 0 7 with
    dispatched := dispatched }

/-- A part that holds one request, with ZOOM as given and bound to it. -/
def holding (q : Request) (r : AxisRec) : State :=
  { withAxis { r with running := if q.dispatched then some q.serial else none } with
    mq := { work.mq with requests := [q] } }

theorem witness_SettleAndHoming :
    ((axisIn .settling .none 0 0 0).state = .settling ∧ work.mq.requests = [] ∧ Axis.focus ≠ Axis.zoom)
    ∧ (let s : State := { work with
          axes := (PerAxis.const AxisRec.reset).set .focus { axisIn .settling .none 0 0 0 with running := some 0 },
          mq := { work.mq with requests := [{ asked .move true with axes := (PerAxis.const false).set .focus true }] } }
      (s.axes.get .focus).state = .settling ∧ (s.axes.get .focus).running = some 0
      ∧ (∀ y ∈ [Axis.shiftH, .shiftV, .zoom], (s.axes.get y).running ≠ some 0))
    ∧ ((asked .move true).dispatched = true ∧ (asked .move true).source = .portA ∧ (asked .move true).failed = false
      ∧ (asked .move true).stopped = false)
    ∧ (work.held = false ∧ (axisIn .homing .release 0 0 0).leg = .release ∧ (axisIn .homing .seek 0 0 0).leg = .seek
      ∧ (⟨false, true, 0⟩ : Filtered).raw = false ∧ (⟨false, true, 0⟩ : Filtered).level = true)
    ∧ ((⟨true, false, 0⟩ : Filtered).raw ≠ (⟨true, false, 0⟩ : Filtered).level ∧ (axisIn .idle .none 0 0 0).state ≠ .homing)
    ∧ (work.set.axes.get .zoom).travel + (work.set.axes.get .zoom).travel / 10 ≤ ((43999 : Nat) : Int) + 1
    ∧ ((holding (asked .home true) (axisIn .homing .seek 0 0 0)).mq.requests = [asked .home true]
      ∧ ((holding (asked .home true) (axisIn .homing .seek 0 0 0)).axes.get .zoom).running = some 0
      ∧ (∀ y ∈ [Axis.shiftH, .shiftV, .focus],
          ((holding (asked .home true) (axisIn .homing .seek 0 0 0)).axes.get y).running ≠ some 0)) := by decide

/-- A request that has run with ZOOM as its last axis, in each way that it can end. -/
theorem witness_SettleAndHoming_end :
    ∀ q ∈ [asked .move true, asked .comp true, asked .home true, { asked .move true with failed := true },
        { asked .move true with stopped := true }, { asked .recall true with payload := some (PerCorner.const ⟨0, 0⟩) }],
      (holding q (axisIn .settling .none 0 0 0)).mq.requests = [q] ∧ q.dispatched = true ∧ q.axes.get .zoom = true
      ∧ ((holding q (axisIn .settling .none 0 0 0)).axes.get .zoom).state = .settling
      ∧ ((holding q (axisIn .settling .none 0 0 0)).axes.get .zoom).running = some q.serial
      ∧ ∀ y ∈ [Axis.shiftH, .shiftV, .focus], ((holding q (axisIn .settling .none 0 0 0)).axes.get y).state.busy = false := by
  decide

/-- The arrival that such an end rests on is a next state without the request too. -/
theorem witness_SettleAndHoming_without (q : Request) : ∃ u, exec (.settleTimeExpiry .zoom)
    { holding q (axisIn .settling .none 0 0 0) with mq := { work.mq with requests := [] } } = .next u := ⟨_, rfl⟩

/-- ZOOM under a running request, with requests behind it, on a part whose other axes rest. -/
def crowded (zoom : AxisRec) (l : List Request) : State :=
  { (resting work).setAxis .zoom { zoom with running := some 0 } with
    mq := { work.mq with requests := asked .move true :: l, nextSerial := 9 } }

/-- A WAITING MOVE of a set of axes. -/
def waitingOn (m serial : Nat) : Request := { asked .move false with axes := axesOfMask m, serial := serial }

/-- After the end of a request the one behind it starts when its axes are free, and then holds its axes; one that
waits for SHIFT_V, which jogs, holds back a younger one for ZOOM (07 R117, R119). -/
theorem test_end_then_dispatch :
    let after (s : State) : List (Nat × Bool) := match exec (.settleTimeExpiry .zoom) s with
      | .next t => t.mq.requests.map fun q => (q.serial, q.dispatched)
      | .fault _ | .refused _ => []
    let s := crowded (axisIn .settling .none 0 0 0) [waitingOn 12 1, waitingOn 8 2]
    let t := crowded (axisIn .settling .none 0 0 0) [waitingOn 6 1, waitingOn 4 2]
    after s = [(1, true), (2, false)]
      ∧ after (t.setAxis .shiftV (axisIn .jog .run 9 0 0)) = [(1, false), (2, false)] := by decide

/-- Band 0 ends at 5000 steps of a travel of 40000: floor(5000 x 8 / 40001) is 0, and 5001 gives 1. -/
theorem witness_SettleAndHoming_band :
    ((5000 : Int) * 8 / ((work.set.axes.get .zoom).travel + 1)).toNat = work.geo.band
    ∧ ((5001 : Int) * 8 / ((work.set.axes.get .zoom).travel + 1)).toNat ≠ work.geo.band := by decide

/-- ZOOM moves under a request of all four axes, whose others rest, move or settle. -/
def moving (k : AxisState) : State :=
  let q : Request := { asked .move true with axes := PerAxis.const true }
  let r : AxisRec := { axisIn k .leg1 50 0 900 with running := some 0 }
  { work with
    axes := (PerAxis.const r).set .zoom { axisIn .moving .leg1 50 0 900 with running := some 0 },
    mq := { work.mq with requests := [q] } }

theorem witness_AxisInputs_held :
    ((moving .idle).mq.requests = [{ asked .move true with axes := PerAxis.const true }]
      ∧ ((moving .idle).axes.get .zoom).running = some (asked .move true).serial)
    ∧ (∀ k ∈ [AxisState.idle, .homing, .unhomed, .lost, .fault], ∀ y ∈ [Axis.shiftH, .shiftV, .focus],
      ((moving k).axes.get y).state ≠ .moving ∧ ((moving k).axes.get y).state ≠ .settling
        ∧ ((moving k).axes.get y).state ≠ .jog)
    ∧ (∀ k ∈ [AxisState.moving, .settling], ((moving k).axes.get .focus).state = k)
    ∧ ((∀ q ∈ (moving .moving).mq.requests, q.dispatched = true)
      ∧ ((moving .moving).mq.requests.map Request.serial).Nodup)
    ∧ ((⟨true, false, 0⟩ : Filtered).raw = true ∧ (⟨true, false, 0⟩ : Filtered).level = false) := by decide

theorem witness_AxisInputs :
    work.held = false
    ∧ ((⟨true, false, 425⟩ : Filtered).raw ≠ (⟨true, false, 425⟩ : Filtered).level
      ∧ (work.set.axes.get .zoom).indexTol < mag ((work.set.axes.get .zoom).indexPos + (work.set.axes.get .zoom).indexTol + 1
        - (work.set.axes.get .zoom).indexPos)
      ∧ mag ((work.set.axes.get .zoom).indexPos + (work.set.axes.get .zoom).indexTol - (work.set.axes.get .zoom).indexPos)
        ≤ (work.set.axes.get .zoom).indexTol
      ∧ work.mq.requests = [] ∧ (axisIn .moving .leg1 0 0 9).state = .moving)
    ∧ (State.reset.held = false ∧ State.reset.store.state = .loading ∧ work.store.state ≠ .loading) := by decide

theorem witness_Jogging :
    (∀ p, canUse p .motion work) ∧ axisOf 3 = some .focus ∧ (∀ l ∈ [(1 : Nat), 4], 1 ≤ l ∧ l ≤ 4)
    ∧ (((resting work).axes.get .focus).state = .idle ∧ ((resting work).axes.get .focus).running = none
      ∧ (resting work).mq.requests = [])
    ∧ (∀ x ∈ allAxes, ∃ d ∈ [0, 1, 2, 3, 4, 5, 6, 7], (jogStep x .ceiling d).isSome = true)
    ∧ (let r : AxisRec := { axisIn .jog .run 5 0 0 with jogOwner := some .a, jogTimer := some 300 }
      r.state = .jog ∧ r.jogOwner = some .a ∧ r.jogOwner ≠ some .b ∧ r.leg = .run ∧ r.dir = r.jogDir ∧ r.jogTimer ≠ none)
    ∧ (let r : AxisRec := { axisIn .jog .hold 0 0 0 with jogOwner := some .b, jogTimer := some 300 }
      r.leg = .hold ∧ r.jogTimer ≠ none)
    ∧ ((axisIn .settling .none 0 0 0).state ≠ .jog ∧ (axisIn .settling .none 0 0 0).state ≠ .idle)
    ∧ ((axisIn .jog .run 40000 0 0).position = (work.set.axes.get .zoom).travel ∧ (axisIn .jog .run 0 0 0).dir = .positive)
    ∧ (axisIn .jog .stopping 5 0 0).leg = .stopping :=
  ⟨fun p => witness_canUse p _ (.inl (by decide)), by decide, by decide, by decide, by decide, by decide, by decide,
    by decide, by decide, by decide⟩

theorem witness_Jogging_refresh :
    (∀ k ∈ [Leg.run, .hold, .stopping], (axisIn .jog k 5 0 0).state = .jog ∧ (axisIn .jog k 5 0 0).leg = k)
    ∧ ((turning 4).leg = .run ∧ (turning 4).dir ≠ (turning 4).jogDir)
    ∧ (jogStep .zoom .ceiling 4 = some (turning 4).dir ∧ jogStep .zoom .ceiling 5 = some (turning 4).jogDir)
    ∧ (let s := holding (asked .move true) (axisIn .idle .none 0 0 0)
      (s.axes.get .zoom).state = .idle ∧ (s.axes.get .zoom).running ≠ none)
    ∧ (let s := holding (asked .move false) (axisIn .idle .none 0 0 0)
      (s.axes.get .zoom).state = .idle ∧ ∃ q ∈ s.mq.requests, q.dispatched = false ∧ q.axes.get .zoom = true)
    ∧ (axisOf 2 = some .zoom ∧ (axisIn .moving .leg1 0 0 9).state ≠ .jog) := by decide

theorem witness_Stop_held :
    (∀ k ∈ [AxisState.moving, .settling], ∀ q ∈ (moving k).mq.requests,
      ∃ x ∈ allAxes, q.axes.get x = true ∧ (((moving k).axes.get x).state = .moving ∨ ((moving k).axes.get x).state = .settling))
    ∧ (∀ q ∈ (holding (asked .move false) (axisIn .moving .leg1 0 0 9)).mq.requests, q.dispatched = false)
    ∧ (∀ q ∈ [asked .home true, { asked .home true with failed := true }], q.dispatched = true
      ∧ (axesOfMask 4).get .zoom = true ∧ q.axes.get .zoom = true
      ∧ (holding q (axisIn .homing .seek 0 0 0)).mq.requests = [q]
      ∧ ∀ x ∈ allAxes, q.axes.get x = true → ((holding q (axisIn .homing .seek 0 0 0)).axes.get x).state ≠ .moving
        ∧ ((holding q (axisIn .homing .seek 0 0 0)).axes.get x).state ≠ .settling
        ∧ ((holding q (axisIn .homing .seek 0 0 0)).axes.get x).state ≠ .jog)
    ∧ ((turning 4).leg = .run ∧ (turning 4).dir ≠ (turning 4).jogDir)
    ∧ ((axisIn .jog .run 5 0 0).dir = (axisIn .jog .run 5 0 0).jogDir ∧ (axisIn .jog .hold 5 0 0).leg = .hold) := by
  decide

/-- A jog ZOOM of Port A that runs at 5, in the run 3 of its timeout. -/
def racing : State :=
  withAxis { axisIn .jog .run 5 0 0 with jogOwner := some .a, jogTimer := some 300, jogRun := 3, jogMap := .ceiling }

/-- The leg of ZOOM and the last status at Port A after two commands. -/
def afterBoth (i j : Instr) : Option (Leg × Status) :=
  match exec i racing with
  | .next t => match exec j t with
    | .next u => some ((u.axes.get .zoom).leg, u.port.bufA.status)
    | .fault _ | .refused _ => none
  | .fault _ | .refused _ => none

/-- A refresh and the expiry that came with it: the refresh first restarts the timeout and the jog runs on; the expiry
first ends the jog, and the refresh is BUSY (06 R107, log 36). The expiry of the new run ends it. -/
theorem test_jog_race :
    afterBoth (.jog .a (.form ⟨2, 4, 2⟩)) (.jogTimeoutExpiry ⟨.zoom, 3⟩) = some (.run, .ok)
    ∧ afterBoth (.jogTimeoutExpiry ⟨.zoom, 3⟩) (.jog .a (.form ⟨2, 4, 2⟩)) = some (.stopping, .busy)
    ∧ afterBoth (.jog .a (.form ⟨2, 4, 2⟩)) (.jogTimeoutExpiry ⟨.zoom, 4⟩) = some (.stopping, .ok) := by decide

theorem witness_Jogging_race :
    (∀ p, canUse p .motion racing) ∧ axisOf 2 = some .zoom ∧ jogStep .zoom .ceiling 4 ≠ none
    ∧ 4 ≠ (racing.axes.get .zoom).jogRun ∧ 0 < (racing.set.axes.get .zoom).accel
    ∧ (racing.axes.get .zoom).state = .jog ∧ (racing.axes.get .zoom).jogOwner = some .a
    ∧ (racing.axes.get .zoom).leg = .run ∧ (racing.axes.get .zoom).jogTimer ≠ none
    ∧ (∃ t, exec (.jog .a (.form ⟨2, 4, 2⟩)) racing = .next t) :=
  ⟨fun p => by cases p <;> exact ⟨rfl, rfl, fun _ => by decide⟩, by decide, by decide, by decide, by decide, by decide,
    by decide, by decide, by decide, ⟨_, rfl⟩⟩

/-- A ZOOM jog toward its travel after 5000 steps, at a speed that its profile has reached, with a level in force. -/
def pacing (speed : Int) (level : Nat) : AxisRec :=
  { axisIn .jog .run 5000 0 0 with
    jogLevel := level, jogSlow := speed * speed, jogFast := speed * speed,
    jogLow := levelSpeed (defaultSettings.axes.get .zoom) level,
    jogPeak := levelSpeed (defaultSettings.axes.get .zoom) level }

/-- The rest of a jog that ends is that of its speed, whatever the levels before: at the full speed the ramp of 396
steps, at the start speed at once, and no more than the step in progress beyond (06 R96, R107). -/
theorem test_jog_end :
    ((endJog (work.set.axes.get .zoom) (pacing 4000 4)).stopLo, (endJog (work.set.axes.get .zoom) (pacing 4000 4)).stopHi,
      (endJog (work.set.axes.get .zoom) (pacing 400 1)).stopLo, (endJog (work.set.axes.get .zoom) (pacing 400 1)).stopHi)
      = (5396, 5397, 5000, 5001) := by decide

/-- A step of a jog raised to level 4 adds twice the acceleration to the square of the speed, and one of a jog lowered to
level 1 takes it away (06 R96, R105). -/
theorem test_jog_pace :
    ((stepMotion (work.set.axes.get .zoom) .positive (pacing 400 4)).jogSlow,
      (stepMotion (work.set.axes.get .zoom) .positive (pacing 400 4)).jogFast,
      (stepMotion (work.set.axes.get .zoom) .positive (pacing 4000 1)).jogSlow,
      (stepMotion (work.set.axes.get .zoom) .positive (pacing 4000 1)).jogFast)
      = (200000, 200000, 15960000, 15960000) := by decide

/-- Near the soft limit the speed is that of the deceleration toward it: 10 steps short of it, 400² + 2 × 20000 × 10 (06
R106). -/
theorem test_jog_limit :
    (stepMotion (work.set.axes.get .zoom) .positive { pacing 4000 4 with position := 39989 }).jogFast = 560000 := by decide

theorem witness_Stop :
    (∀ p, canUse p .motion work) ∧ work.mq.requests = [] ∧ (∀ m ∈ [(1 : Nat), 15], 1 ≤ m ∧ m ≤ 15)
    ∧ (axesOfMask 1).get .focus = false ∧ (axesOfMask 15).get .focus = true
    ∧ (∀ k ∈ [AxisState.homing, .jog, .moving, .idle, .settling, .unhomed, .lost, .fault],
        (axisIn k .hold 0 0 0).state = k ∧ (axisIn k .leg2 0 0 0).leg = .leg2) :=
  ⟨fun p => witness_canUse p _ (.inl (by decide)), by decide, by decide, by decide, by decide, by decide⟩

/-- The default parameters of ZOOM as AXIS_SET_PARAMS carries them, with a travel. -/
def zoomArgs (travel : Nat) : AxisArgs := ⟨2, travel, 400, 4000, 20000, 300, 60, 0, 20000, 32, 120⟩

theorem witness_AxisCommands :
    (∀ p, canUse p .config work ∧ canUse p .none work) ∧ axisOf (zoomArgs 40000).axis = some .zoom
    ∧ (∀ a ∈ [zoomArgs 40000, zoomArgs 65000, ⟨2, 1000, 50, 50, 500, 50, 0, 1, 1000, 4, 0⟩,
          ⟨2, 65000, 5000, 20000, 100000, 5000, 255, 0, 0, 255, 1000⟩],
        (1000 ≤ a.travel ∧ a.travel ≤ 65000 ∧ 50 ≤ a.startSpeed ∧ a.startSpeed ≤ 5000 ∧ a.startSpeed ≤ a.maxSpeed
          ∧ a.maxSpeed ≤ 20000 ∧ 500 ≤ a.accel ∧ a.accel ≤ 100000) ∧ 50 ≤ a.homingSpeed ∧ a.homingSpeed ≤ a.startSpeed
          ∧ a.backlash ≤ 255 ∧ a.approach ≤ 1 ∧ a.indexPos ≤ a.travel ∧ 4 ≤ a.indexTol ∧ a.indexTol ≤ 255
          ∧ a.settle ≤ 1000)
    ∧ ((40000 : Int) = (work.set.axes.get .zoom).travel ∧ (65000 : Int) ≠ (work.set.axes.get .zoom).travel)
    ∧ ((work.axes.get .zoom).state.busy = false ∧ (work.axes.get .zoom).running = none ∧ work.mq.requests = [])
    ∧ (axisIn .moving .leg1 0 0 9).state.busy = true ∧ (∀ t ∈ [(100 : Nat), 1000], 100 ≤ t ∧ t ≤ 1000) :=
  ⟨fun p => ⟨witness_canUse p _ (.inl (by decide)), witness_canUse p _ (.inl (by decide))⟩, by decide,
    by decide, by decide, by decide, by decide, by decide⟩

/-- A new travel of 20000 ends the range of the homing count at 22000; one of 65000 leaves a count in range (06 R93). -/
theorem test_newTravel_count :
    let s : State := { work with axes := work.axes.set .zoom { work.axes.get .zoom with homingCount := 30000 } }
    let count (travel : Nat) : Nat := match axisSettingsOf (zoomArgs travel) with
      | some g => ((replaceAxisSettings .zoom g s).axes.get .zoom).homingCount
      | none => 0
    count 20000 = 22000 ∧ count 65000 = 30000 := by decide

/-- A MOVE at the ends of the travel of SHIFT_H, 20000, and of FOCUS, 30000, with comp_applied -20 (07 R115). -/
theorem test_moveClamps :
    let s : State := { work with fc := { work.fc with applied := -20 } }
    ([(-1 : Int), 0, 20000, 20001].map (moveClamps s .shiftH) = [true, false, false, true]
      ∧ [(-1 : Int), 20001].map (heldTarget s .shiftH) = [0, 20000])
    ∧ ([(19 : Int), 20, 30020, 30021].map (moveClamps s .focus) = [true, false, false, true]
      ∧ heldTarget s .focus 30021 = 30021)
    ∧ assignValues (axesOfMask 0x0A) [7, 9] = ⟨none, some 7, none, some 9⟩ := by decide

theorem witness_EnqueueAndRefusals :
    (∀ p, canUse p .motion (resting work)) ∧ (resting work).mq.requests.length < 8 ∧ (resting work).mq.requests = []
    ∧ (∀ x ∈ allAxes, ((resting work).axes.get x).running = none ∧ ((resting work).axes.get x).state.busy = false
      ∧ ((resting work).axes.get x).state ≠ .unhomed ∧ ((resting work).axes.get x).state ≠ .lost
      ∧ ((resting work).axes.get x).state ≠ .fault)
    ∧ ((holding (asked .move true) (axisIn .moving .leg1 0 0 9)).axes.get .zoom).state.busy = true
    ∧ (∀ q ∈ (holding (asked .move true) (axisIn .moving .leg1 0 0 9)).mq.requests, q.dispatched = true)
    ∧ (∀ m ∈ [((1 : Nat), [(0 : Int)]), (15, [0, 65535, 0, 65535])], 1 ≤ m.1 ∧ m.1 ≤ 15 ∧ m.2.length = axisCount m.1
      ∧ ∀ v ∈ m.2, 0 ≤ v ∧ v ≤ 65535)
    ∧ (∀ v ∈ [(-65000 : Int), 65000], -65000 ≤ v ∧ v ≤ 65000) ∧ 9 ≤ 9
    ∧ (∀ m ∈ [(0 : Nat), 16], m = 0 ∨ 16 ≤ m)
    ∧ (let s : State := { work with mq := { work.mq with requests := List.replicate 8 (asked .move true) } }
      8 ≤ s.mq.requests.length ∧ ∀ q ∈ s.mq.requests, q.waitingComp = false)
    ∧ (work.axes.get .zoom).state = .unhomed := by
  refine ⟨fun p => witness_canUse p _ (.inl (by decide)), ?_⟩
  decide

/-- ZOOM moves under a request, and one for ZOOM waits behind it: a MOVE of SHIFT_H is not held back, one of ZOOM is. -/
theorem witness_EnqueueAndRefusals_behind :
    let s := crowded (axisIn .moving .leg1 0 0 9) [waitingOn 4 1]
    heldBefore s 2 ∧ ¬ heldBack s 2 (waitingOn 1 9) ∧ heldBack s 2 (waitingOn 4 9)
    ∧ (∀ q ∈ s.mq.requests, q.serial ≠ s.mq.nextSerial) ∧ (∀ x ∈ allAxes, (s.axes.get x).running ≠ some s.mq.nextSerial) := by
  refine ⟨fun k q hk hq hd => ?_, ?_, ⟨.zoom, rfl, .inr (.inl rfl)⟩, by decide, by decide⟩
  · match k, hk with
    | 0, _ => cases hq; cases hd
    | 1, _ => cases hq; exact ⟨.zoom, rfl, .inr (.inl rfl)⟩
  · rintro ⟨x, hx, h⟩
    cases x <;> cases hx
    rcases h with h | h | ⟨k, r, hk, hr, hd, hx⟩
    · exact h rfl
    · cases h
    · match k, hk with
      | 0, _ => cases hr; cases hd
      | 1, _ => cases hr; cases hx

theorem witness_EnqueueAndRefusals_displaces :
    (let s := (resting work).setAxis .focus (axisIn .moving .leg1 0 0 9)
      let t : State := { s with mq := { s.mq with requests := List.replicate 7 (asked .move true) ++ [asked .comp false] } }
      (t.mq.requests.filter fun q => !(decide (q.kind = .comp) && !q.dispatched)) = List.replicate 7 (asked .move true)
      ∧ (t.axes.get .focus).state.busy = true ∧ (axesOfMask 8).get .focus = true)
    ∧ (∀ t ∈ [(-1 : Int), 65536], t < 0 ∨ 65535 < t) ∧ (∀ t ∈ [(-65001 : Int), 65001], t < -65000 ∨ 65000 < t)
    ∧ [(0 : Int), 0].length ≠ axisCount 1 ∧ 9 < 10
    ∧ (let s : State := { work with mq := { work.mq with requests := List.replicate 8 (asked .move false) } }
      8 ≤ s.mq.requests.length ∧ ∀ q ∈ s.mq.requests, q.dispatched = true ∨ q.kind ≠ .comp)
    ∧ (∀ k ∈ [AxisState.unhomed, .lost, .fault], ((withAxis (axisIn k .none 0 0 0)).axes.get .zoom).state = k
      ∧ (withAxis (axisIn k .none 0 0 0)).mq.requests.length < 8 ∧ (axesOfMask 4).get .zoom = true) := by decide

/-- A part whose axes rest at 100, that holds one request, and with slot 9 as given. -/
def recalling (q : Request) (o : Option SlotRec) : State :=
  { resting work with
    mq := { work.mq with requests := [q] }, set := { work.set with slots := setAt work.set.slots 9 o } }

/-- A RECALL of slot 9. -/
def recall9 : Request := { asked .recall false with axes := PerAxis.const true, slot := 9 }

theorem witness_Dispatch_recall :
    (recalling recall9 none).mq.requests = [recall9] ∧ recall9.dispatched = false ∧ recall9.failed = false
    ∧ recall9.stopped = false
    ∧ (∀ x ∈ allAxes, ((recalling recall9 none).axes.get x).state = .idle
      ∧ ((recalling recall9 none).axes.get x).running ≠ some recall9.serial)
    ∧ (recalling recall9 none).set.slots[(9 : Nat)]?.join = none
    ∧ (let q : SlotRec := ⟨none, 100, 100, 100, 100, some (PerCorner.const ⟨0, 0⟩)⟩
      (recalling recall9 (some q)).set.slots[(9 : Nat)]?.join = some q
      ∧ (∀ x ∈ allAxes, dispatchTarget (recalling recall9 (some q)) recall9 (some q) x =
          ((recalling recall9 (some q)).axes.get x).position)
      ∧ dispatchTarget (recalling recall9 (some { q with zoom := 101 })) recall9 (some { q with zoom := 101 }) .zoom ≠ 100)
    ∧ (∀ k ∈ [Kind.move, .step, .comp],
      let r : Request := { asked k false with targets := (PerAxis.const none).set .zoom (some 0), compTarget := 0 }
      let s : State := { resting work with mq := { work.mq with requests := [r] } }
      k = .move ∨ dispatchTarget s r none .zoom = (s.axes.get .zoom).position)
    ∧ (let s := holding (asked .home false) (axisIn .fault .none 0 0 0)
      let t : State := { s with inputs := { s.inputs with mdflt := ⟨true, true, 0⟩ } }
      t.inputs.mdflt.level = true ∧ ∀ x ∈ allAxes, (t.axes.get x).state.busy = false
        ∧ (t.axes.get x).running ≠ some (asked .home false).serial) := by decide

theorem witness_Dispatch :
    (let s := holding (asked .move false) (axisIn .idle .none 0 0 0);
      s.mq.requests = [asked .move false] ∧ (asked .move false).dispatched = false ∧ (asked .move false).source = .portA
      ∧ (∀ x ∈ allAxes, (asked .move false).axes.get x = true → (s.axes.get x).state = .idle)
      ∧ dispatchTarget s (asked .move false) none .zoom ≠ (s.axes.get .zoom).position)
    ∧ (let s := holding (asked .step false) (axisIn .lost .none 0 0 0);
      (s.axes.get .zoom).state ≠ .idle ∧ ∀ x ∈ allAxes, (s.axes.get x).running ≠ some (asked .step false).serial)
    ∧ (let s := holding (asked .home false) (axisIn .unhomed .none 0 0 0);
      (asked .home false).kind = .home ∧ s.inputs.mdflt.level = false ∧ (asked .home false).axes.get .zoom = true) := by
  decide

/-- A MOVE of SHIFT_H between a running request and one that waits. -/
theorem witness_Dispatch_among :
    let s := crowded (axisIn .moving .leg1 0 0 9) [waitingOn 1 2, waitingOn 4 1]
    s.mq.requests = [asked .move true] ++ waitingOn 1 2 :: [waitingOn 4 1]
    ∧ (∀ q ∈ [asked .move true] ++ [waitingOn 4 1], q.serial ≠ (waitingOn 1 2).serial)
    ∧ (waitingOn 1 2).dispatched = false ∧ (s.axes.get .shiftH).state = .idle
    ∧ (∀ x ∈ allAxes, (s.axes.get x).running ≠ some 2)
    ∧ dispatchTarget s (waitingOn 1 2) none .shiftH ≠ (s.axes.get .shiftH).position := by decide

/-- A HOME of Port B and one of START, each the only request held. -/
theorem witness_Dispatch_home :
    ∀ k ∈ [Source.portB, .start],
      let r : Request := { asked .home false with source := k }
      (holding r (axisIn .unhomed .none 0 0 0)).mq.requests = [r] ∧ r.dispatched = false ∧ r.kind = .home
        ∧ (holding r (axisIn .unhomed .none 0 0 0)).inputs.mdflt.level = false ∧ r.axes.get .zoom = true := by decide

/-- What stays behind a FLUSH of Port A: a request of Port B whose axis is busy, two for one free axis, or one whose axis
is free. -/
theorem witness_QueueMemoryFocus_tested :
    let q : Request := { asked .move false with source := .portB }
    let flushed (l : List Request) : List Request :=
      l.filter fun r => !(!r.dispatched && decide (r.source = .portA ∨ r.source = .start))
    flushed [asked .move false, q] = [q] ∧ flushed [q, q] = [q, q] ∧ q.axes.get .zoom = true
    ∧ ((withAxis (axisIn .moving .leg1 0 0 9)).axes.get .zoom).state.busy = true
    ∧ ((resting work).axes.get .zoom).running = none ∧ ((resting work).axes.get .zoom).state.busy = false
    ∧ ([q].filter fun r => !r.dispatched) = [q]
    ∧ ([asked .comp false, q].filter fun r => !(decide (r.kind = .comp) && !r.dispatched)) = [q] := by decide

theorem witness_QueueMemoryFocus_save :
    ∀ k ∈ [AxisState.lost, .fault, .unhomed], ((withAxis (axisIn k .none 0 0 0)).axes.get .zoom).state = k := by decide

theorem witness_QueueMemoryFocus :
    (∀ p, canUse p .motion (resting work) ∧ canUse p .config work ∧ canUse p .none work)
    ∧ (holding (asked .move false) AxisRec.reset).mq.requests = [asked .move false] ∧ (asked .move false).source = .portA
    ∧ (∀ x ∈ allAxes, ((resting work).axes.get x).state = .idle)
    ∧ (∀ l ∈ [[0x20#8], List.replicate 12 (0x7E#8 : Byte)], 1 ≤ l.length ∧ l.length ≤ 12
      ∧ ∀ c ∈ l, 32 ≤ c.toNat ∧ c.toNat ≤ 126)
    ∧ (work.axes.get .zoom).state = .unhomed
    ∧ (let s := (resting work).setAxis .zoom (axisIn .moving .leg1 0 0 9);
      (s.axes.get .zoom).state = .moving ∧ ∀ x ∈ allAxes, (s.axes.get x).state = .idle ∨ (s.axes.get x).state = .moving)
    ∧ (∀ a ∈ [((-255 : Int), (-400 : Int), (0 : Int), (1 : Int)), (255, 1500, 2000, 255)],
        -255 ≤ a.1 ∧ a.1 ≤ 255 ∧ -400 ≤ a.2.1 ∧ a.2.1 ≤ 1500 ∧ 0 ≤ a.2.2.1 ∧ a.2.2.1 ≤ 2000
          ∧ 1 ≤ a.2.2.2 ∧ a.2.2.2 ≤ 255)
    ∧ (∀ q ∈ [asked .comp false, asked .move true], q.dispatched = false → q.kind = .comp) := by
  refine ⟨fun p => ⟨witness_canUse p _ (.inl (by decide)), witness_canUse p _ (.inl (by decide)),
    witness_canUse p _ (.inl (by decide))⟩, ?_⟩
  decide

/-- A part with Focus Compensation ON at k = 16, FOCUS in a state, and requests held. -/
def compensating (k : AxisState) (l : List Request) : State :=
  { work.setAxis .focus (axisIn k .leg1 0 0 9) with
    set := { work.set with fc := { work.set.fc with enable := true, k := 16, tRef := 200, limit := 2000, deadband := 4 } },
    mq := { work.mq with requests := l } }

theorem witness_FocusEvaluation_dispatched :
    (let s := compensating .idle [{ asked .move true with serial := 5 }];
      (∀ q ∈ s.mq.requests, q.kind ≠ .comp ∧ q.dispatched = true ∧ q.serial ≠ s.mq.nextSerial)
      ∧ s.mq.requests.length < 8 ∧ s.axes.focus.running = none ∧ s.axes.focus.state = .idle
      ∧ clamp 0 s.set.axes.focus.travel (s.axes.focus.position + 4 - s.fc.applied) ≠ s.axes.focus.position)
    ∧ ((converting 6 (recordIn .valid 0 0)).smp.round = 6 :: [] ∧ (recordIn .valid 0 0).validity ≠ .fault) := by decide

theorem witness_FocusEvaluation :
    (work.set.fc.enable = false ∨ (work.axes.focus).state = .unhomed)
    ∧ mag (roundDiv (16 * ((203 : Int) - 200)) 16 - work.fc.applied) < 4
    ∧ 4 ≤ mag (roundDiv (16 * ((204 : Int) - 200)) 16 - work.fc.applied)
    ∧ ((compensating .idle []).set.fc.enable = true ∧ (compensating .idle []).axes.focus.state = .idle)
    ∧ (∃ q ∈ (compensating .idle [asked .comp false]).mq.requests, q.kind = .comp ∧ q.dispatched = false)
    ∧ (∀ q ∈ (compensating .idle [asked .comp true]).mq.requests, q.kind = .comp → q.dispatched = true)
    ∧ (8 ≤ (compensating .idle (List.replicate 8 (asked .move true))).mq.requests.length
      ∧ ∀ q ∈ (compensating .idle (List.replicate 8 (asked .move true))).mq.requests, q.kind ≠ .comp)
    ∧ ((compensating .moving [asked .move true]).mq.requests.length < 8
      ∧ (compensating .moving [asked .move true]).axes.focus.state ≠ .idle
      ∧ ∀ q ∈ (compensating .moving [asked .move true]).mq.requests, q.kind ≠ .comp ∧ q.dispatched = true) := by decide

/-! ### Fans, protection (08, 09) -/

/-- A part with fan EX as given, its periods running. -/
def withFan (r : FanRec) : State := { work.setFan .ex r with fan := { (work.setFan .ex r).fan with running := true } }

/-- A fan in a state with its target, counts and edges. -/
def fanIn (k : FanState) (target : Int) (low restarts edges : Nat) : FanRec :=
  { FanRec.reset with state := k, target := target, lowWindows := low, restarts := restarts, edges := edges }

theorem witness_CurveLookup :
    curveOk [⟨-400, 0⟩, ⟨1500, 1000⟩] = true ∧ curveOk (defaultSettings.fans.get .ls).curve = true
    ∧ (-400 : Int) ≤ -400 ∧ (1500 : Int) ≤ 1500
    ∧ ([⟨500, 300⟩, ⟨650, 550⟩, ⟨750, 1000⟩] : List CurvePoint) = [⟨500, 300⟩] ++ ⟨650, 550⟩ :: ⟨750, 1000⟩ :: []
    ∧ (∀ t ∈ [(651 : Int), 750], 650 < t ∧ t ≤ 750) := by decide

theorem witness_FanPeriod :
    work.fan.running = false ∧ (withFan (fanIn .off 0 0 0 0)).fan.running = true
    ∧ (∀ k ∈ [FanState.off, .running, .spinup, .stalled, .failed],
        ((withFan (fanIn k 0 0 0 0)).fan.fans.get .ex).state = k)
    ∧ 0 < demandOf work (work.set.fans.get .ex)
    ∧ demandOf (converting 5 { recordIn .valid 0 9 with filtered := some 100 }) (work.set.fans.get .ex) = 0 := by
  decide

/-- T_EX gives FAN_EX the lookup of 400, and in FAULT 1000, with the override; with every bound channel NEW, none. -/
theorem test_demand :
    (demandOf work (work.set.fans.get .ex), (overrideOf work (work.set.fans.get .ex)).any) =
      ((work.set.fans.get .ex).spinFloor, false)
    ∧ (demandOf (converting 5 (recordIn .fault 3 0)) (work.set.fans.get .ex),
        (overrideOf (converting 5 (recordIn .fault 3 0)) (work.set.fans.get .ex)).faultChannel) = (1000, true) := by decide

theorem witness_FanPeriod_gives :
    (∀ c ∈ tempChannels, (tempRec work c).validity = .new)
    ∧ ((work.set.fans.get .ex).bound.get 5 = true ∧ (tempRec (converting 5 (recordIn .valid 0 9)) 5).validity = .valid
      ∧ (tempRec (converting 5 (recordIn .valid 0 9)) 5).filtered = some 300
      ∧ ∀ c ∈ tempChannels, c ≠ 5 → (tempRec (converting 5 (recordIn .valid 0 9)) c).validity = .new) := by decide

/-- A window that ended across the restart is discarded, and the next one is judged (08 R141). -/
theorem test_discard :
    let r : FanRec := { fanIn .running 300 2 3 0 with windowWait := 1 }
    let s := tachWindowEnd .ex (withFan r)
    (s.fan.fans.ex.state, (tachWindowEnd .ex s).fan.fans.ex.state) = (.running, .failed) := by decide

theorem witness_FanTimersAndTach_window :
    (∀ n ∈ [(1 : Nat), 4], 0 < ({ fanIn .running 1 0 0 0 with windowWait := n } : FanRec).windowWait)
    ∧ (fanIn .running 1 0 0 0).windowWait = 0 ∧ work.fan.running = false := by decide

theorem witness_FanTimersAndTach :
    (let r := fanIn .spinup 1 0 0 0;
      r.state = .spinup ∧ 0 < r.target)
    ∧ (fanIn .spinup 0 0 0 0).target ≤ 0 ∧ (fanIn .running 1 0 0 0).state ≠ .spinup
    ∧ ((fanIn .stalled 1 0 0 0).state = .stalled ∧ 0 < (fanIn .stalled 1 0 0 0).target)
    ∧ ((fanIn .stalled 0 0 0 0).target ≤ 0 ∧ (fanIn .off 0 0 0 0).state ≠ .stalled)
    ∧ (work.held = false ∧ work.deaf = false ∧ (⟨true, false, 0⟩ : Filtered).raw = true
      ∧ (⟨true, false, 0⟩ : Filtered).level = false ∧ (⟨false, true, 0⟩ : Filtered).raw = false)
    ∧ ((withFan (fanIn .off 0 0 0 9)).fan.running = true ∧ (fanIn .off 0 0 0 9).state ≠ .running)
    ∧ ((work.set.fans.get .ex).stallSpeed ≤ 60 * (((fanIn .running 1 0 0 5).edges : Nat) : Int)
      ∧ 60 * (((fanIn .running 1 0 0 4).edges : Nat) : Int) < (work.set.fans.get .ex).stallSpeed)
    ∧ (∀ n ∈ [0, 1], n < 2) ∧ ((fanIn .running 1 2 2 0).lowWindows = 2 ∧ (fanIn .running 1 2 2 0).restarts < 3)
    ∧ (fanIn .running 1 2 3 0).restarts = 3 := by decide

theorem witness_FanCommands :
    (∀ p, canUse p .cooling work ∧ canUse p .config work ∧ canUse p .none work) ∧ 7 ≤ 7 ∧ fanOf 2 = some .ex
    ∧ curveOk [⟨-400, 0⟩, ⟨1500, 1000⟩] = true
    ∧ (∀ l ∈ [[(6 : Nat)], [0, 1, 2, 3, 4, 5, 6]], l ≠ [] ∧ l.Nodup ∧ ∀ c ∈ l, c ≤ 6)
    ∧ (∀ a ∈ [((150 : Int), (0 : Int), (60 : Int)), (150, 150, 60), (600, 1000, 3000)],
        150 ≤ a.1 ∧ a.1 ≤ 600 ∧ (a.2.1 = 0 ∨ a.1 ≤ a.2.1 ∧ a.2.1 ≤ 1000) ∧ 60 ≤ a.2.2 ∧ a.2.2 ≤ 3000)
    ∧ (∀ v ∈ [(-200 : Int), 200], -200 ≤ v ∧ v ≤ 200) ∧ (∀ v ∈ [(1 : Int), 1000], 1 ≤ v ∧ v ≤ 1000)
    ∧ (∀ k ∈ [FanState.spinup, .stalled, .off, .running, .failed], (fanIn k 0 0 0 0).state = k) := by
  refine ⟨fun p => ⟨witness_canUse p _ (.inl (by decide)), witness_canUse p _ (.inl (by decide)),
    witness_canUse p _ (.inl (by decide))⟩, ?_⟩
  decide

/-- A part whose protection period runs, with a trip and T_LS as given. -/
def protecting (trip : Option TripCause) (t : Int) : State :=
  { work with
    prot := { work.prot with running := true, trip := trip, allowance := if trip.isSome then 0 else 1000 },
    smp := { work.smp with records := work.smp.records.set 0 { recordIn .valid 0 9 with filtered := some t } } }

/-- T_LS at 712 gives the term 413, at 800 the trip, and a lower channel keeps a tie (09 R151, R158). -/
theorem test_term : channelTermOf (protecting none 712) = some (413, 0)
    ∧ tripCondition (protecting none 799) = none ∧ tripCondition (protecting none 800) = some (.channel 0) := by decide

theorem witness_ChannelTerm :
    work.prot.running = false ∧ (protecting none 712).prot.running = true
    ∧ (∀ c ∈ tempChannels, (tempRec work c).validity ≠ .valid)
    ∧ ((tempRec (protecting none 800) 0).validity = .valid
      ∧ (tempRec (protecting none 800) 0).filtered = some ((protecting none 800).set.thresholds.get 0).tt
      ∧ ((protecting none 800).set.thresholds.get 0).ok = true)
    ∧ (∀ c ∈ tempChannels, c ≠ 0 → (tempRec (protecting none 712) c).validity ≠ .valid) := by decide

theorem witness_ProtectionPeriod :
    work.prot.running = false ∧ (protecting (some .tco) 0).prot.trip ≠ none
    ∧ ((protecting none 799).prot.trip = none ∧ tripCondition (protecting none 799) = none)
    ∧ ((protecting none 800).prot.running = true ∧ tripCondition (protecting none 800) = some (.channel 0)) := by decide

/-- A part with two FAILED fans. -/
def failing (s : State) : State :=
  { s with fan := { s.fan with fans := { s.fan.fans with ls := fanIn .failed 0 3 3 0, ex := fanIn .failed 0 3 3 0 } } }

/-- The order of the two condition lists (09 R158, R161): a hot channel before the fans, TCO before DRVFLT. -/
theorem test_conditions :
    tripCondition (failing (protecting none 800)) = some (.channel 0)
    ∧ tripCondition (failing (protecting none 799)) = some .fans
    ∧ hotCondition (protecting (some .tco) 750) = some (.channel 0) ∧ hotCondition (protecting (some .tco) 749) = none
    ∧ hotCondition (failing (protecting (some .tco) 749)) = some .fans := by decide

theorem witness_ProtectionPeriod_hot :
    (∀ c ∈ tempChannels, (tempRec (failing work) c).validity ≠ .valid)
    ∧ (tempRec (protecting none 800) 0).filtered = some 800 ∧ ((protecting none 800).set.thresholds.get 0).tt ≤ 800
    ∧ ((protecting none 750).set.thresholds.get 0).tt - 50 ≤ 750 ∧ ¬ (∃ c : Fin 7, c < 0) := by decide

theorem witness_FaultInputs :
    work.held = false ∧ (⟨true, false, 0⟩ : Filtered).raw = true ∧ (⟨true, false, 0⟩ : Filtered).level = false
    ∧ (⟨false, true, 0⟩ : Filtered).level = true ∧ (work.store.state ≠ .loading ∧ work.prot.trip = none)
    ∧ State.reset.store.state = .loading ∧ (protecting (some .fans) 0).prot.trip ≠ none := by decide

/-- A part whose light is on and whose afterrun timer runs, with some periods of its run to come. -/
def lit (wait : Nat) : State :=
  { work with prot := { work.prot with lightRequest := true, afterrun := some 90, afterrunWait := wait } }

theorem witness_FaultInputs_afterrun :
    (∀ n ∈ [(0 : Nat), 1, 899], (lit n).deaf = false ∧ (lit n).prot.lightRequest = true ∧ (lit n).prot.afterrunWait = n)
    ∧ 1 ≤ work.set.prot.afterrun
    ∧ ∃ t u v, exec (.light .a (.form 0)) (lit 0) = .next t ∧ exec .afterrunTimerExpiry t = .next u
      ∧ exec .afterrunTimerExpiry (lit 0) = .next v :=
  ⟨by decide, by decide, _, _, _, rfl, rfl, rfl⟩

/-- LIGHT OFF and the expiry that it comes with leave the timer at its full time in either order (09 R165), and an expiry
at the end of that run, 10 periods to a second, stops it. -/
theorem test_afterrun :
    let off (s : State) := (requestLight false s).prot.afterrun
    (afterrunExpired (requestLight false (lit 0))).prot.afterrun = some work.set.prot.afterrun
    ∧ off (afterrunExpired (lit 0)) = some work.set.prot.afterrun
    ∧ (requestLight false (lit 0)).prot.afterrunWait = (10 * work.set.prot.afterrun - 1).toNat
    ∧ (afterrunExpired (passPeriod (lit 1))).prot.afterrun = none := by decide

theorem witness_LightAndProtection :
    work.deaf = false ∧ true ≠ work.prot.lightRequest ∧ false = work.prot.lightRequest ∧ work.prot.trip = none
    ∧ ((protecting (some .tco) 600).prot.trip ≠ none ∧ hotCondition (protecting (some .tco) 600) = none)
    ∧ hotCondition (protecting (some .tco) 800) ≠ none
    ∧ (∀ a ∈ [((200 : Int), (10 : Int), (0 : Int), (0 : Int)), (800, 1000, 255, 300)],
        200 ≤ a.1 ∧ a.1 ≤ 800 ∧ 10 ≤ a.2.1 ∧ a.2.1 ≤ 1000 ∧ 0 ≤ a.2.2.1 ∧ a.2.2.1 ≤ 255
          ∧ 0 ≤ a.2.2.2 ∧ a.2.2.2 ≤ 300)
    ∧ (∀ a ∈ [((-400 : Int), (-350 : Int)), (1450, 1500)], -400 ≤ a.1 ∧ a.2 ≤ 1500 ∧ a.1 + 50 ≤ a.2)
    ∧ work.prot.afterrun = none
    ∧ ({ work with prot := { work.prot with afterrun := some 300 } } : State).prot.afterrun = some 300 := by decide

/-! ### Ports and store (10, 11) -/

/-- The answer of a step on work, as a next state. -/
theorem witness_LightAndTripOwners :
    (∃ t, exec (.light .a (.form 1)) work = .next t ∧ t.prot.lightRequest ≠ work.prot.lightRequest)
    ∧ ∃ t, exec (.clearTrip .a (.form ())) (protecting (some .tco) 600) = .next t
      ∧ (protecting (some .tco) 600).prot.trip ≠ none ∧ t.prot.trip ≠ (protecting (some .tco) 600).prot.trip :=
  ⟨⟨_, rfl, by decide⟩, ⟨_, rfl, by decide, by decide⟩⟩

theorem witness_Denied :
    (let s : State := { work with set := defaultSettings };
      mayUse s.set.rights .b .config = false ∧ s.deaf = false ∧ s.port.tx.length < 4)
    ∧ (controlOf (.setAutohome .b (.form 1))).map (fun c => (c.id, c.fits)) = some (0xB1#8, true)
    ∧ (controlOf (.setAutohome .b (.form 1))).map (fun c => (c.port, c.need)) = some (Port.b, Need.config) := by decide

theorem witness_Untaken :
    State.reset.deaf = true ∧ work.deaf = false
    ∧ (controlOf (.light .b .misfit)).map (fun c => (c.fits, c.port)) = some (false, Port.b)
    ∧ (controlOf (.jog .a .misfit)).map (fun c => (c.fits, c.port)) = some (false, Port.a)
    ∧ (∀ n ∈ [0, 3], (List.replicate n (TxFrame.notice none)).length < 4)
    ∧ 4 ≤ ({ work with port := { work.port with tx := List.replicate 4 (.response [] false) } } : State).port.tx.length := by
  decide

theorem witness_Ranges :
    (∀ p, canUse p .config work ∧ canUse p .geometry work ∧ canUse p .motion work ∧ canUse p .cooling work
      ∧ canUse p .none work)
    ∧ (∀ l ∈ [[], List.replicate 17 (0 : Nat), [10]], l = [] ∨ 16 < l.length ∨ ∃ k ∈ l, 9 < k)
    ∧ curveOk [⟨0, 0⟩] = false ∧ curveOk [⟨0, 0⟩, ⟨0, 10⟩] = false ∧ axisOf 4 = none
    ∧ (∀ t ∈ [(999 : Nat), 65001], t < 1000 ∨ 65000 < t)
    ∧ (¬ [(1 : Nat), 1].Nodup) ∧ (∃ c ∈ [(7 : Nat)], 6 < c) ∧ (10 ≠ 255 ∧ 9 < 10) ∧ (254 ≠ 255 ∧ 9 < 254) :=
  ⟨fun p => ⟨witness_canUse p _ (.inl (by decide)), witness_canUse p _ (.inl (by decide)),
    witness_canUse p _ (.inl (by decide)), witness_canUse p _ (.inl (by decide)), witness_canUse p _ (.inl (by decide))⟩,
    by decide, by decide, by decide, by decide,
    by decide, by decide, by decide, by decide, by decide⟩

theorem witness_Ranges_more :
    (∀ t ∈ [((4 : Int), (0 : Int), (1000 : Int), (100 : Int)), (5, 9001, 1000, 100), (5, 0, 999, 100), (5, 0, 1000, 3001)],
      (t.1 < 5 ∨ 100 < t.1) ∨ (t.2.1 < -9000 ∨ 9000 < t.2.1) ∨ (t.2.2.1 < 1000 ∨ 8000 < t.2.2.1)
        ∨ (t.2.2.2 < 100 ∨ 3000 < t.2.2.2))
    ∧ ((2 : Int) < 0 ∨ (1 : Int) < 2) ∧ ((1 : Int) < 2 ∨ (3 : Int) < 1) ∧ ((6 : Int) < 4 ∨ (5 : Int) < 6)
    ∧ ((4097 : Int) < -4096 ∨ (4096 : Int) < 4097) ∧ 16 ≤ 16 ∧ 8 ≤ 8 ∧ 3 < 4
    ∧ (12 < (List.replicate 13 (0x41#8 : Byte)).length ∧ (126 < (0x7F#8 : Byte).toNat)) := by decide

/-- A part with the Port Unit changed in queue and receiver. -/
def withPort (l : List TxFrame) (r : Receiver) : State := { work with port := { work.port with tx := l, rx := r } }

theorem witness_Crc8 :
    (withPort [.response [0x01#8] true] .hunt).port.tx = .response [0x01#8] true :: []
    ∧ (withPort [] (.check 1 [0x10#8])).deaf = false
    ∧ (withPort [] (.check 1 [0x10#8])).port.rx = .check 1 [0x10#8]
    ∧ (withPort (List.replicate 3 (.notice none)) (.check 1 [0x10#8])).port.tx.length < 4
    ∧ (0x64#8 : Byte) ≠ crc8 (BitVec.ofNat 8 1 :: [0x10#8]) := by decide +kernel

/-- The notice of a reset by pin and then CLIP, with MOTION_DONE masked (10 R178; 12 R191). -/
theorem test_noticePayload :
    ({ work.port with events := ⟨⟨[], none⟩, ⟨[.reset, .motionDone, .clip], some .pin⟩⟩, masks := ⟨[], [.motionDone]⟩ }
      : PortUnit).noticePayload = [0x02#8, 0x02#8, 0x0E#8, 0x04#8, 0x02#8] := by decide

theorem witness_Transmitter_notice :
    let u : PortUnit := { work.port with events := ⟨⟨[], none⟩, ⟨[.reset, .motionDone], some .pin⟩⟩ }
    (EventKind.reset ∈ u.events.b.kinds.filter (fun k => decide (k ∉ u.masks.b)) ∧ u.events.b.cause = some .pin)
    ∧ EventKind.reset ∉ work.port.events.b.kinds := by decide

theorem witness_Transmitter :
    work.port.tx = [] ∧ (withPort [.response [] true] .hunt).port.tx = .response [] true :: []
    ∧ (withPort [.notice (some [])] .hunt).port.tx = .notice (some []) :: []
    ∧ (withPort [.notice none] .hunt).port.tx = .notice none :: [] ∧ work.deaf = false
    ∧ knownId 0x00#8 = false ∧ knownId 0xFF#8 = false ∧ canUse .b .none work :=
  ⟨by decide, by decide, by decide, by decide, by decide, by decide, by decide, witness_canUse _ _ (.inl (by decide))⟩

theorem witness_Replies :
    (∀ n ∈ [0, 3], (withPort (List.replicate n (.notice none)) .hunt).port.tx.length < 4)
    ∧ ((withPort [.response [] true, .response [] false, .response [] false, .notice none] .hunt).port.tx.length = 4
      ∧ ∃ f ∈ (withPort [.response [] true, .response [] false, .response [] false, .notice none] .hunt).port.tx,
        f.waitingNotice = true)
    ∧ (State.reset.deaf = true ∧ work.deaf = false)
    ∧ ((controlOf (.reset .a .misfit)).map Control.port = some .a ∧ Instr.reset .a .misfit ≠ .reset .a (.form ()))
    ∧ (controlOf (.ident .a (.form ()))).map Control.id = some 0xA2#8 := by decide

/-- A read of the buffer after a reset: sequence number 0, no identifier, NOT_READY, no data, then 0xFF (10 R169). -/
theorem test_systemRead :
    systemRead 5 { work with port := PortUnit.reset } = some [0x00#8, 0x00#8, 0x06#8, 0x00#8, 0xFF#8] := by decide

/-- Commands as bytes: GEO_SET_CORNER BR, -2, 256; MQ_STEP of SHIFT_V and FOCUS by -1 and 65536; a MEM_SAVE with a
label; a FAN_SET_CURVE whose count does not match (12 R190). -/
theorem test_commandOf :
    commandOf .b 0x30#8 [0x03#8, 0xFF#8, 0xFE#8, 0x01#8, 0x00#8] = .geoSetCorner .b (.form ⟨3, ⟨-2, 256⟩⟩)
    ∧ commandOf .b 0x61#8 [0x0A#8, 0x07#8, 0xFF#8, 0xFF#8, 0xFF#8, 0x01#8, 0x00#8, 0x00#8]
      = .mqStep .b (.form ⟨10, 7, [-1, 65536]⟩)
    ∧ commandOf .a 0x70#8 [0x09#8, 0x02#8, 0x01#8, 0x41#8] = .memSave .a (.form ⟨9, 2, [0x41#8]⟩)
    ∧ commandOf .a 0x82#8 [0x00#8, 0x02#8, 0x00#8, 0x00#8, 0x00#8, 0x00#8] = .fanSetCurve .a .misfit := by decide

/-- Identifiers at the ends of the table, and numbers of bytes beside those of the forms. -/
theorem witness_ReceiverStates_forms :
    ((0x0F#8 : Byte).toNat < 0x10 ∧ 0xB4 ≤ (0xB4#8 : Byte).toNat)
    ∧ (∀ k ∈ [(0x10#8 : Byte), 0xB3#8], ¬ (k.toNat < 0x10) ∧ ¬ 0xB4 ≤ k.toNat)
    ∧ (∀ n ∈ [0, 2], (List.replicate n (0x00#8 : Byte)).length ≠ 1)
    ∧ ((List.range 4).filter fun k => (0xFA#8 : Byte).getLsbD k).length = 2
    ∧ ((0x01#8 : Byte).getLsbD 1 = false ∧ (0x03#8 : Byte).getLsbD 1 = true)
    ∧ ((0x02#8 : Byte).toNat ≤ 2 ∧ (0x01#8 : Byte).toNat ≤ 1 ∧ 1 < (0x02#8 : Byte).toNat) := by decide

theorem witness_ReceiverStates :
    work.deaf = false ∧ State.reset.deaf = true ∧ work.port.rx = .hunt ∧ (0xA4#8 : Byte) ≠ 0xA5#8
    ∧ (withPort [] .length).port.rx = .length
    ∧ (∀ b ∈ [(0x01#8 : Byte), 0x3C#8], 1 ≤ b.toNat ∧ b.toNat ≤ 60)
    ∧ (∀ b ∈ [(0x00#8 : Byte), 0x3D#8], b.toNat = 0 ∨ 60 < b.toNat)
    ∧ (withPort (List.replicate 3 (.notice none)) .length).port.tx.length < 4
    ∧ (withPort (List.replicate 4 (.notice none)) .length).port.tx.length = 4
    ∧ (withPort [] (.payload 2 [])).port.rx = .payload 2 [] ∧ ([] : List Byte).length + 1 < 2
    ∧ ([0x10#8] : List Byte).length + 1 = 2
    ∧ (withPort [] (.check 1 [0xA2#8])).port.rx = .check 1 (0xA2#8 :: [])
    ∧ crc8 (BitVec.ofNat 8 1 :: 0x10#8 :: []) = 0x65#8 := by decide +kernel

/-- Two events pending at each port, the second masked at Port B, with the notice that the first made. -/
def eventful : State :=
  { work with
    set := { work.set with rights := ⟨true, true, true, true, true⟩ },
    port := { work.port with
      events := ⟨⟨[.clip, .motionDone], none⟩, ⟨[.clip, .motionDone], none⟩⟩, masks := ⟨[], [.motionDone]⟩,
      attnA := true, tx := [.notice none] } }

/-- The first unmasked event asserts ATTN_A and makes a notice due: it joins the queue, or is owed when 4 frames wait;
the next one makes none (10 R177, R178). -/
theorem test_raise :
    (let u := work.port.raise .both .clip
     u.attnA = true ∧ u.tx = [.notice none] ∧ u.raise .both .fanFault = { u with
        events := ⟨⟨[.clip, .fanFault], none⟩, ⟨[.clip, .fanFault], none⟩⟩ })
    ∧ ((withPort (List.replicate 4 (.response [] false)) .hunt).port.raise (.port .b) .clip).owed = true := by decide

theorem witness_EventsAndIdentity :
    PortLaw eventful.port ∧ PortLaw work.port ∧ canUse .a .none eventful ∧ canUse .b .none eventful ∧ 16383 < 16384
    ∧ eventful.port.unmaskedB ≠ [] ∧ work.port.unmaskedB = [] ∧ 31 ≤ 31 := by
  refine ⟨?_, ?_, ⟨rfl, rfl, fun _ => by decide⟩, ⟨rfl, rfl, fun _ => by decide⟩, by decide, by decide, by decide,
    by decide⟩ <;> (unfold PortLaw; decide)

/-- A save in progress. -/
def saving : State :=
  { work with store := { work.store with state := .busy, gathered := some ⟨work.set, 1, .b⟩ } }

theorem witness_Saving :
    (∀ p, canUse p .store work ∧ canUse p .store saving ∧ canUse p .config work ∧ canUse p .none saving)
    ∧ work.store.state = .idle ∧ saving.store.state = .busy ∧ saving.store.gathered = some ⟨work.set, 1, .b⟩
    ∧ work.store.state ≠ .busy := by
  refine ⟨fun p => ?_, rfl, rfl, rfl, by decide⟩
  cases p <;> exact ⟨⟨rfl, rfl, fun _ => by decide⟩, ⟨rfl, rfl, fun _ => by decide⟩, ⟨rfl, rfl, fun _ => by decide⟩,
    ⟨rfl, rfl, fun _ => by decide⟩⟩

theorem witness_Resets : work.deaf = false ∧ work.port.tx.length < 4 ∧ work.pres.trans = .none := by decide

/-- A part with an image as given, and the raw levels of TCO, DRVFLT and MDFLT. -/
def storing (i : Image) (tco drvflt mdflt : Bool) : State :=
  { work with
    store := { work.store with image := i },
    inputs := { work.inputs with tco := ⟨tco, tco, 0⟩, drvflt := ⟨drvflt, drvflt, 0⟩, mdflt := ⟨mdflt, mdflt, 0⟩ } }

/-- An image with a matching check word over given contents. -/
def imageOf (g : Settings) : Image := ⟨g, 1, some (crc32 (Config.imageBytes g 1))⟩

theorem witness_LoadCompletion :
    (∀ c, (resetPart c (storing Image.blank false false false)).held = false)
    ∧ (imageOf defaultSettings).word = some (crc32 (Config.imageBytes (imageOf defaultSettings).contents 1))
    ∧ (imageOf { defaultSettings with autoHome := false }).contents.autoHome = false
    ∧ defaultSettings.autoHome = true ∧ ({ defaultSettings with slew := 0 } : Settings).sound = false
    ∧ defaultSettings.sound = true ∧ Image.blank.word ≠ some (crc32 (Config.imageBytes defaultSettings 0))
    ∧ (resetPart .pin (storing Image.blank true false false)).inputs.tco.level = true
    ∧ (resetPart .pin (storing Image.blank false true false)).inputs.drvflt.level = true
    ∧ (resetPart .pin (storing Image.blank false false true)).inputs.mdflt.level = true := by
  refine ⟨fun c => rfl, rfl, rfl, ?_, ?_, ?_, ?_, rfl, rfl, rfl⟩
  · decide
  · decide +kernel
  · decide +kernel
  · intro h; cases h

theorem witness_LoadCompletion_requests :
    (imageOf { defaultSettings with powerOn := some 9 }).contents.powerOn = some 9
    ∧ (imageOf defaultSettings).contents.powerOn = none ∧ (imageOf defaultSettings).contents.autoHome = true
    ∧ (resetPart .pin (storing (imageOf { defaultSettings with powerOn := some 9 }) false false true)).inputs.mdflt.level
      = true := by
  refine ⟨rfl, ?_, ?_, rfl⟩ <;> decide

/-! ### The laws: each holds of a part at work, which takes a step -/

/-- A part at work with an arrival in its queue takes a step. -/
theorem work_steps : ∃ t, step { work with pending := [.frameStart] } = .next t := ⟨_, rfl⟩

theorem witness_SettingsStaySound : SettingsSound { work with pending := [.frameStart] } :=
  ⟨by decide +kernel, by intro r h; cases h⟩

theorem witness_LightStaysGated : LightGated { work with pending := [.frameStart] } := by unfold LightGated; decide

theorem work_quiet : LoadQuiet { work with pending := [.frameStart] } := by intro h; cases h

theorem witness_AllowanceStaysBounded : AllowanceLaw { work with pending := [.frameStart] } :=
  ⟨by decide, by show (350 : Int) ≤ 350 ∧ (350 : Int) ≤ 1000; decide, work_quiet⟩

theorem witness_DutiesStayLawful : FanLaw { work with pending := [.frameStart] } :=
  ⟨by decide, fun f => by cases f <;> rfl⟩

theorem witness_BanksStayLawful : BankLaw { work with pending := [.frameStart] } := by
  refine ⟨⟨fun h => ?_, fun ⟨_, h⟩ => ?_⟩, ⟨fun h => ?_, fun ⟨_, h⟩ => ?_⟩, by decide, by decide, fun i m h => ?_,
    ⟨fun h => absurd rfl h, fun ⟨i, h⟩ => ?_⟩, fun _ h => ?_⟩
  all_goals first | cases h | (cases i <;> cases h)

theorem witness_QueueStaysBounded : QueueLaw { work with pending := [.frameStart] } :=
  ⟨by decide, by decide, by decide, by decide, work_quiet⟩

theorem witness_PortStaysLawful : PortLaw ({ work with pending := [.frameStart] } : State).port := by
  unfold PortLaw; decide

theorem witness_AxesStayInTravel : AxisLaw { resting work with pending := [.frameStart] } := by
  refine ⟨fun h => (by cases h), fun x => ?_⟩
  cases x <;> exact ⟨by decide, by unfold axisRanges; decide, And.intro (by decide) (by decide)⟩

theorem witness_MeshesStayInPanel : MeshLaw { work with pending := [.frameStart] } := by
  refine ⟨⟨by decide, ?_, ?_, ?_, ?_, by decide⟩, trivial, trivial, trivial⟩ <;> (unfold inPanel; decide)

theorem witness_RecordsStayLawful : SamplingLaw { work with pending := [.frameStart] } := by
  refine ⟨fun k => ?_, by decide, by decide, by decide⟩
  have h : (work.smp.records.get k) = ChannelRec.reset := by
    simp [work, State.reset, Sampling.reset, Vector.get_eq_getElem]
  show recordLawful (work.smp.records.get k)
  rw [h]; unfold recordLawful; decide

theorem witness_WindowsStayLawful : AttitudeLaw { work with pending := [.frameStart] } :=
  ⟨fun c => by cases c <;> exact ⟨by decide, by intro v h; cases h⟩, by decide⟩

/-- Each of the five resets answers a next state. -/
theorem witness_ResetLawful :
    State.reset.pending = [] ∧ work.deaf = false
    ∧ ∀ i ∈ [Instr.powerOnReset, .powerLoss, .rstnLow, .rstnRise, .reset .a (.form ())], ∃ t, exec i work = .next t := by
  refine ⟨rfl, by decide, fun i hi => ?_⟩
  simp only [List.mem_cons, List.not_mem_nil, or_false] at hi
  rcases hi with rfl | rfl | rfl | rfl | rfl <;> exact ⟨_, rfl⟩

end Sys2Proof.Tests
end

section
/-! The spacing of columns and rows and the base vertices (04 R54, R55). Both fractions of 04 R54 are one rounded
quotient, `edgeFraction`, of the two edges that the lines run between; what holds of it is said once. -/

namespace Sys2Proof.Machine

/-! ## Rounding -/

/-- A division that comes out whole is exact: no rounding applies (04 R54). -/
theorem roundDiv_mul_self (q d : Int) (hd : 0 < d) : roundDiv (q * d) d = q := by
  obtain ⟨hlow, hhigh⟩ := roundDiv_range (q * d) d q q hd le_rfl le_rfl
  exact le_antisymm hhigh hlow

/-- Rounding keeps the order of two quotients, given by their cross products. -/
theorem roundDiv_le_roundDiv (n d m e : Int) (hd : 0 < d) (he : 0 < e) (h : n * e ≤ m * d) :
    roundDiv n d ≤ roundDiv m e := by
  have hq : roundDiv n d * (2 * d) ≤ 2 * n + d := Int.ediv_mul_le _ (by omega)
  refine (Int.le_ediv_iff_mul_le (by omega)).mpr (le_of_mul_le_mul_right ?_ (show 0 < 2 * d by omega))
  calc roundDiv n d * (2 * e) * (2 * d) = roundDiv n d * (2 * d) * (2 * e) := by ring
    _ ≤ (2 * n + d) * (2 * e) := mul_le_mul_of_nonneg_right hq (by omega)
    _ ≤ (2 * m + e) * (2 * d) := by linarith

/-! ## The fraction of a line between two edges (04 R54) -/

/-- The fraction of line i of n between a first edge of length a and a last edge of length b. -/
def edgeFraction (n : Nat) (a b : Int) (i : Nat) : Int :=
  roundDiv (4096 * i * a) (i * a + (n - i) * b)

theorem colFraction_eq (c : PerCorner Pt) (i : Nat) :
    colFraction c i = edgeFraction 16 (edgeLeft c) (edgeRight c) i := rfl

theorem rowFraction_eq (c : PerCorner Pt) (j : Nat) :
    rowFraction c j = edgeFraction 8 (edgeTop c) (edgeBottom c) j := rfl

section
variable {n i : Nat} {a b : Int}

/-- No denominator of 04 R54 is 0. -/
theorem edgeFraction_den_pos (ha : 0 < a) (hb : 0 < b) (hn : 0 < n) (hi : i ≤ n) :
    0 < (i : Int) * a + (n - i) * b := by
  rcases Nat.eq_zero_or_pos i with rfl | hpos
  · simpa using mul_pos (Int.natCast_pos.mpr hn) hb
  · have hrest : (0 : Int) ≤ (n - i) * b := mul_nonneg (by omega) hb.le
    have hline : (0 : Int) < i * a := mul_pos (Int.natCast_pos.mpr hpos) ha
    omega

theorem edgeFraction_bounds (ha : 0 < a) (hb : 0 < b) (hn : 0 < n) (hi : i ≤ n) :
    0 ≤ edgeFraction n a b i ∧ edgeFraction n a b i ≤ 4096 := by
  have hline : (0 : Int) ≤ i * a := mul_nonneg (Int.natCast_nonneg i) ha.le
  have hrest : (0 : Int) ≤ (n - i) * b := mul_nonneg (by omega) hb.le
  exact roundDiv_range _ _ 0 4096 (edgeFraction_den_pos ha hb hn hi) (by linarith) (by linarith)

theorem edgeFraction_zero (hb : 0 < b) (hn : 0 < n) : edgeFraction n a b 0 = 0 := by
  have hden : ((0 : Nat) : Int) * a + (n - (0 : Nat)) * b = n * b := by push_cast; ring
  have hnum : 4096 * ((0 : Nat) : Int) * a = 0 * (n * b) := by push_cast; ring
  rw [edgeFraction, hden, hnum]
  exact roundDiv_mul_self _ _ (mul_pos (Int.natCast_pos.mpr hn) hb)

theorem edgeFraction_last (ha : 0 < a) (hn : 0 < n) : edgeFraction n a b n = 4096 := by
  have hden : (n : Int) * a + (n - n) * b = n * a := by ring
  rw [edgeFraction, hden, mul_assoc]
  exact roundDiv_mul_self _ _ (mul_pos (Int.natCast_pos.mpr hn) ha)

/-- Equal edges give uniform spacing: a step of k where 4096 is n steps. -/
theorem edgeFraction_of_eq_edges (k : Int) (ha : 0 < a) (hk : k * n = 4096) : edgeFraction n a a i = k * i := by
  have hn : (0 : Int) < n := by
    have : n ≠ 0 := by rintro rfl; simp at hk
    omega
  have hden : (i : Int) * a + (n - i) * a = n * a := by ring
  have hnum : 4096 * (i : Int) * a = k * i * (n * a) := by rw [← hk]; ring
  rw [edgeFraction, hden, hnum]
  exact roundDiv_mul_self _ _ (mul_pos hn ha)

/-- The fractions do not decrease from one line to the next: the cross products differ by 4096 * n * a * b. -/
theorem edgeFraction_le_succ (ha : 0 < a) (hb : 0 < b) (hi : i < n) :
    edgeFraction n a b i ≤ edgeFraction n a b (i + 1) := by
  refine roundDiv_le_roundDiv _ _ _ _ (edgeFraction_den_pos ha hb (by omega) hi.le)
    (edgeFraction_den_pos ha hb (by omega) hi) ?_
  have hgap : (0 : Int) ≤ 4096 * n * (a * b) := mul_nonneg (by omega) (mul_pos ha hb).le
  push_cast
  linarith

end

/-! ## Corners with positive edges (04 R54) -/

/-- Every edge of a set of corners is positive. -/
structure PositiveEdges (c : PerCorner Pt) : Prop where
  top : 0 < edgeTop c
  bottom : 0 < edgeBottom c
  left : 0 < edgeLeft c
  right : 0 < edgeRight c

/-- Every edge of an accepted composition is at least half the panel (03 R40). -/
theorem positiveEdges_of_shapeOk {w h : Int} {c : PerCorner Pt} (hw : 0 < w) (hh : 0 < h)
    (hc : shapeOk w h c = true) : PositiveEdges c := by
  obtain ⟨htop, hbottom, hleft, hright⟩ := of_decide_eq_true hc
  constructor <;> omega

theorem positiveEdges_of_cornersLawful {w h : Int} {c : PerCorner Pt} (hw : 0 < w) (hh : 0 < h)
    (hlaw : cornersLawful w h c) : PositiveEdges c := by
  obtain ⟨-, -, -, -, hshape⟩ := hlaw
  exact positiveEdges_of_shapeOk hw hh hshape

theorem shapeOk_nominal {w h : Int} (hw : 0 < w) (hh : 0 < h) : shapeOk w h (nominal w h) = true := by
  apply decide_eq_true
  simp only [edgeTop, edgeBottom, edgeLeft, edgeRight, nominal]
  omega

section
variable {c : PerCorner Pt} {i j : Nat}

theorem colFraction_bounds (hc : PositiveEdges c) (hi : i ≤ 16) : 0 ≤ colFraction c i ∧ colFraction c i ≤ 4096 :=
  edgeFraction_bounds (n := 16) hc.left hc.right (by norm_num) hi

theorem rowFraction_bounds (hc : PositiveEdges c) (hj : j ≤ 8) : 0 ≤ rowFraction c j ∧ rowFraction c j ≤ 4096 :=
  edgeFraction_bounds (n := 8) hc.top hc.bottom (by norm_num) hj

theorem colFraction_zero (hc : PositiveEdges c) : colFraction c 0 = 0 :=
  edgeFraction_zero (n := 16) hc.right (by norm_num)

theorem rowFraction_zero (hc : PositiveEdges c) : rowFraction c 0 = 0 :=
  edgeFraction_zero (n := 8) hc.bottom (by norm_num)

theorem colFraction_last (hc : PositiveEdges c) : colFraction c 16 = 4096 :=
  edgeFraction_last (n := 16) hc.left (by norm_num)

theorem rowFraction_last (hc : PositiveEdges c) : rowFraction c 8 = 4096 :=
  edgeFraction_last (n := 8) hc.top (by norm_num)

theorem colFraction_of_eq_edges (hc : PositiveEdges c) (heq : edgeLeft c = edgeRight c) (i : Nat) :
    colFraction c i = 256 * i := by
  rw [colFraction_eq, ← heq]
  exact edgeFraction_of_eq_edges 256 hc.left (by norm_num)

theorem rowFraction_of_eq_edges (hc : PositiveEdges c) (heq : edgeTop c = edgeBottom c) (j : Nat) :
    rowFraction c j = 512 * j := by
  rw [rowFraction_eq, ← heq]
  exact edgeFraction_of_eq_edges 512 hc.top (by norm_num)

end

/-- Settles O10: each clause is the clause of `edgeFraction` for the columns and for the rows. -/
theorem meshSpacing : Obligations.MeshSpacing := by
  refine ⟨?_, ?_⟩
  · intro w h c hw hh hcorners
    have hshape : shapeOk w h c = true := by
      rcases hcorners with hshape | rfl
      · exact hshape
      · exact shapeOk_nominal hw hh
    have hc := positiveEdges_of_shapeOk hw hh hshape
    exact ⟨hc.top, hc.bottom, hc.left, hc.right⟩
  · intro c lt lb ll lr hlt hlb hll hlr
    have hc : PositiveEdges c := ⟨hlt, hlb, hll, hlr⟩
    refine ⟨fun i hi => ?_, fun j hj => ?_, colFraction_zero hc, rowFraction_zero hc, colFraction_last hc,
      rowFraction_last hc, fun i hi => edgeFraction_le_succ (n := 16) hll hlr hi,
      fun j hj => edgeFraction_le_succ (n := 8) hlt hlb hj⟩
    · obtain ⟨hlow, hhigh⟩ := colFraction_bounds hc hi
      exact ⟨rfl, hlow, hhigh, fun heq => colFraction_of_eq_edges hc heq i⟩
    · obtain ⟨hlow, hhigh⟩ := rowFraction_bounds hc hj
      exact ⟨rfl, hlow, hhigh, fun heq => rowFraction_of_eq_edges hc heq j⟩

/-! ## The blend (04 R55) -/

/-- The four weights of the blend at fractions from 0 to 4096: none is negative, and they sum to 4096 * 4096. -/
theorem blend_weights {u v : Int} (hu : 0 ≤ u ∧ u ≤ 4096) (hv : 0 ≤ v ∧ v ≤ 4096) :
    0 ≤ (4096 - u) * (4096 - v) ∧ 0 ≤ u * (4096 - v) ∧ 0 ≤ (4096 - u) * v ∧ 0 ≤ u * v
      ∧ (4096 - u) * (4096 - v) + u * (4096 - v) + (4096 - u) * v + u * v = 16777216 := by
  obtain ⟨hu0, hu1⟩ := hu
  obtain ⟨hv0, hv1⟩ := hv
  have hu' : 0 ≤ 4096 - u := by omega
  have hv' : 0 ≤ 4096 - v := by omega
  exact ⟨mul_nonneg hu' hv', mul_nonneg hu0 hv', mul_nonneg hu' hv0, mul_nonneg hu0 hv0, by ring⟩

/-- The blend is a weighted mean: it stays within every bounds that hold of the four corners. -/
theorem blend_bounds {u v tl tr bl br lo hi : Int} (hu : 0 ≤ u ∧ u ≤ 4096) (hv : 0 ≤ v ∧ v ≤ 4096)
    (htl : lo ≤ tl ∧ tl ≤ hi) (htr : lo ≤ tr ∧ tr ≤ hi) (hbl : lo ≤ bl ∧ bl ≤ hi) (hbr : lo ≤ br ∧ br ≤ hi) :
    lo ≤ blend u v tl tr bl br ∧ blend u v tl tr bl br ≤ hi := by
  obtain ⟨wtl, wtr, wbl, wbr, hsum⟩ := blend_weights hu hv
  refine roundDiv_range _ _ lo hi (by norm_num) ?_ ?_
  · rw [mul_comm, ← hsum]
    linarith [mul_le_mul_of_nonneg_left htl.1 wtl, mul_le_mul_of_nonneg_left htr.1 wtr,
      mul_le_mul_of_nonneg_left hbl.1 wbl, mul_le_mul_of_nonneg_left hbr.1 wbr]
  · rw [mul_comm hi, ← hsum]
    linarith [mul_le_mul_of_nonneg_left htl.2 wtl, mul_le_mul_of_nonneg_left htr.2 wtr,
      mul_le_mul_of_nonneg_left hbl.2 wbl, mul_le_mul_of_nonneg_left hbr.2 wbr]

/-- The blend lies between the least and the greatest of the four corners. -/
theorem blend_min_max {u v : Int} (hu : 0 ≤ u ∧ u ≤ 4096) (hv : 0 ≤ v ∧ v ≤ 4096) (tl tr bl br : Int) :
    min (min tl tr) (min bl br) ≤ blend u v tl tr bl br
      ∧ blend u v tl tr bl br ≤ max (max tl tr) (max bl br) :=
  blend_bounds hu hv (by omega) (by omega) (by omega) (by omega)

/-- A blend whose weighted sum is a multiple of the weight is exact. -/
theorem blend_of_weighted_sum {u v tl tr bl br q : Int}
    (h : (4096 - u) * (4096 - v) * tl + u * (4096 - v) * tr + (4096 - u) * v * bl + u * v * br = q * 16777216) :
    blend u v tl tr bl br = q := by
  rw [blend, h]
  exact roundDiv_mul_self q _ (by norm_num)

section
variable (tl tr bl br : Int)

@[simp] theorem blend_topLeft : blend 0 0 tl tr bl br = tl := blend_of_weighted_sum (by ring)

@[simp] theorem blend_topRight : blend 4096 0 tl tr bl br = tr := blend_of_weighted_sum (by ring)

@[simp] theorem blend_bottomLeft : blend 0 4096 tl tr bl br = bl := blend_of_weighted_sum (by ring)

@[simp] theorem blend_bottomRight : blend 4096 4096 tl tr bl br = br := blend_of_weighted_sum (by ring)

end

/-! ## The base vertices (04 R55) -/

section
variable {c : PerCorner Pt}

/-- At the four corners of the mesh the blend returns the corners themselves. -/
theorem baseVertex_corners (hc : PositiveEdges c) :
    baseVertex c 0 0 = c.tl ∧ baseVertex c 16 0 = c.tr ∧ baseVertex c 0 8 = c.bl ∧ baseVertex c 16 8 = c.br := by
  simp [baseVertex, colFraction_zero hc, rowFraction_zero hc, colFraction_last hc, rowFraction_last hc]

/-- Corners in the panel give base vertices in the panel: the panel bounds each component of the four corners. -/
theorem baseVertex_inPanel {w h : Int} {i j : Nat} (hw : 0 < w) (hh : 0 < h) (hlaw : cornersLawful w h c)
    (hi : i ≤ 16) (hj : j ≤ 8) : inPanel w h (baseVertex c i j) := by
  have hc := positiveEdges_of_cornersLawful hw hh hlaw
  have hu := colFraction_bounds hc hi
  have hv := rowFraction_bounds hc hj
  obtain ⟨⟨tlx0, tlx1, tly0, tly1⟩, ⟨trx0, trx1, try0, try1⟩, ⟨blx0, blx1, bly0, bly1⟩, ⟨brx0, brx1, bry0, bry1⟩, -⟩ :=
    hlaw
  obtain ⟨hx0, hx1⟩ := blend_bounds hu hv ⟨tlx0, tlx1⟩ ⟨trx0, trx1⟩ ⟨blx0, blx1⟩ ⟨brx0, brx1⟩
  obtain ⟨hy0, hy1⟩ := blend_bounds hu hv ⟨tly0, tly1⟩ ⟨try0, try1⟩ ⟨bly0, bly1⟩ ⟨bry0, bry1⟩
  exact ⟨hx0, hx1, hy0, hy1⟩

end

/-- The nominal corners give the uniform grid: their edges are equal in pairs, and every blend comes out whole. -/
theorem baseVertex_nominal {w h : Int} (hw : 0 < w) (hh : 0 < h) (i j : Nat) :
    baseVertex (nominal w h) i j = ⟨i * w, j * 2 * h⟩ := by
  have hc : PositiveEdges (nominal w h) := positiveEdges_of_shapeOk hw hh (shapeOk_nominal hw hh)
  have hu : colFraction (nominal w h) i = 256 * i :=
    colFraction_of_eq_edges hc (by simp [edgeLeft, edgeRight, nominal]) i
  have hv : rowFraction (nominal w h) j = 512 * j :=
    rowFraction_of_eq_edges hc (by simp [edgeTop, edgeBottom, nominal]) j
  simp only [baseVertex, hu, hv, Pt.mk.injEq]
  exact ⟨blend_of_weighted_sum (by simp only [nominal]; ring), blend_of_weighted_sum (by simp only [nominal]; ring)⟩

/-- Settles O11: the blend is a weighted mean of the corners, exact at the corners and for the nominal ones. -/
theorem baseVertices : Obligations.BaseVertices := by
  refine ⟨fun u v hu0 hu1 hv0 hv1 => blend_weights ⟨hu0, hu1⟩ ⟨hv0, hv1⟩, ?_,
    fun w h i j hw hh _ _ => baseVertex_nominal hw hh i j,
    baseVertex_nominal (w := 3840) (h := 2160) (by norm_num) (by norm_num) 8 4⟩
  intro w h c i j hlaw hw hh hi hj u v b
  have hc : PositiveEdges c := positiveEdges_of_cornersLawful hw hh hlaw
  have hu : 0 ≤ u ∧ u ≤ 4096 := colFraction_bounds hc hi
  have hv : 0 ≤ v ∧ v ≤ 4096 := rowFraction_bounds hc hj
  obtain ⟨hxmin, hxmax⟩ := blend_min_max hu hv c.tl.x c.tr.x c.bl.x c.br.x
  obtain ⟨hymin, hymax⟩ := blend_min_max hu hv c.tl.y c.tr.y c.bl.y c.br.y
  exact ⟨rfl, rfl, hxmin, hxmax, hymin, hymax, baseVertex_inPanel hw hh hlaw hi hj, baseVertex_corners hc⟩

end Sys2Proof.Machine
end

section
/-! The NARROW vertex format (05 R89; 12 R192). A vertex goes out as two 12-bit words in three bytes, `packPair`; what
it says of the offsets is said of `narrow`. -/

namespace Sys2Proof.Machine

/-! ## The NARROW value of an offset (05 R89) -/

theorem narrow_eq_clamp_div (d : Int) : narrow d = clamp (-2048) 2047 ((d + 2) / 4) := by
  have hquarter : quarter d = (d + 2) / 4 := by
    unfold quarter roundDiv
    omega
  rw [narrow, hquarter]

theorem narrow_bounds (d : Int) : -2048 ≤ narrow d ∧ narrow d ≤ 2047 :=
  clamp_range _ _ _ (by norm_num)

theorem narrow_of_ge {d : Int} (h : 8190 ≤ d) : narrow d = 2047 := by
  rw [narrow_eq_clamp_div, clamp]
  split <;> omega

theorem narrow_of_le {d : Int} (h : d ≤ -8194) : narrow d = -2048 := by
  rw [narrow_eq_clamp_div, clamp]
  split <;> omega

theorem narrow_of_unsaturated {d : Int} (hlow : -8194 ≤ d) (hhigh : d < 8190) : narrow d = (d + 2) / 4 := by
  rw [narrow_eq_clamp_div]
  exact clamp_of_within _ _ _ (by omega)

/-! ## Two 12-bit words in three bytes (12 R192) -/

/-- The high byte of x, its low four bits before the high four of y, and the low byte of y. -/
def packPair (x y : BitVec 12) : List Byte :=
  [BitVec.extractLsb' 4 8 x, BitVec.extractLsb' 0 4 x ++ BitVec.extractLsb' 8 4 y, BitVec.extractLsb' 0 8 y]

/-- The quotients and remainders that the model sends are the bit fields of the two words. -/
theorem u8_fields_eq_packPair (x y : BitVec 12) :
    u8 (x.toNat / 16) ++ u8 (x.toNat % 16 * 16 + y.toNat / 256) ++ u8 y.toNat = packPair x y := by
  have hhigh : BitVec.ofNat 8 (x.toNat / 16) = BitVec.extractLsb' 4 8 x := by
    rw [BitVec.extractLsb', Nat.shiftRight_eq_div_pow]
  have hmiddle : BitVec.ofNat 8 (x.toNat % 16 * 16 + y.toNat / 256)
      = BitVec.extractLsb' 0 4 x ++ BitVec.extractLsb' 8 4 y := by
    apply BitVec.eq_of_toNat_eq
    have hy : y.toNat / 256 < 2 ^ 4 := by omega
    rw [BitVec.toNat_append, BitVec.extractLsb'_toNat, BitVec.extractLsb'_toNat, Nat.shiftRight_eq_div_pow,
      Nat.shiftRight_eq_div_pow, Nat.mod_eq_of_lt (b := 2 ^ 4) hy, ← Nat.shiftLeft_add_eq_or_of_lt hy, Nat.shiftLeft_eq,
      BitVec.toNat_ofNat]
    omega
  have hlow : BitVec.ofNat 8 y.toNat = BitVec.extractLsb' 0 8 y := by
    rw [BitVec.extractLsb', Nat.shiftRight_zero]
  simp only [u8, hhigh, hmiddle, hlow, packPair, List.cons_append, List.nil_append]

/-! ## The bytes of a vertex -/

theorem vertexBytes_narrow (b : Bank) (i j : Nat) :
    vertexBytes .narrow b i j
      = packPair (BitVec.ofInt 12 (narrow (gridOffset b i j).x)) (BitVec.ofInt 12 (narrow (gridOffset b i j).y)) := by
  rw [← u8_fields_eq_packPair, BitVec.toNat_ofInt, BitVec.toNat_ofInt]
  rfl

theorem gridOffset_of_vertex {b : Bank} {i j : Nat} {p : Pt} (h : meshAt b.mesh i j = p) :
    gridOffset b i j = ⟨p.x - i * b.width, p.y - j * 2 * b.height⟩ := by
  rw [gridOffset, h]

/-- A vertex on its grid point is sent as zeros, as every vertex of the nominal mesh is. -/
theorem vertexBytes_narrow_onGrid {b : Bank} {i j : Nat}
    (h : meshAt b.mesh i j = ⟨i * b.width, j * 2 * b.height⟩) :
    vertexBytes .narrow b i j = [0x00#8, 0x00#8, 0x00#8] := by
  have hoffset : gridOffset b i j = ⟨0, 0⟩ := by
    simp only [gridOffset_of_vertex h, sub_self]
  rw [vertexBytes_narrow, hoffset]
  decide

/-- The worked vertex of 12 R192: an offset of (0, -751) sixteenths, sent as (0, -188). -/
theorem vertexBytes_narrow_worked {b : Bank} (h : meshAt b.mesh 8 4 = ⟨30720, 16529⟩) (hw : b.width = 3840)
    (hh : b.height = 2160) : vertexBytes .narrow b 8 4 = [0x00#8, 0x0F#8, 0x44#8] := by
  have hoffset : gridOffset b 8 4 = ⟨0, -751⟩ := by
    rw [gridOffset_of_vertex h, hw, hh]
    norm_num
  rw [vertexBytes_narrow, hoffset]
  decide

/-- Settles O18: the packing by the bit fields of the two saturated words, the saturation by the bounds of `narrow`. -/
theorem narrowFormat : Obligations.NarrowFormat := by
  refine ⟨fun b i j => ?_, fun d => ⟨narrow_of_ge, narrow_of_le, narrow_of_unsaturated⟩,
    fun b i j => vertexBytes_narrow_onGrid, fun b => vertexBytes_narrow_worked⟩
  intro value x y
  obtain ⟨hxlow, hxhigh⟩ := narrow_bounds (gridOffset b i j).x
  obtain ⟨hylow, hyhigh⟩ := narrow_bounds (gridOffset b i j).y
  exact ⟨vertexBytes_narrow b i j, hxlow, hxhigh, hylow, hyhigh⟩

end Sys2Proof.Machine
end

section
/-! The lookup of a fan curve (08 R134). Within a segment it is `interpolate`, the rounded line between the segment's two
duties; the points below the temperature do not matter, `lookup_append`, which brings every segment to the front. -/

namespace Sys2Proof.Machine

/-! ## What a curve is (08 R134) -/

theorem increasing_cons_cons (p q : CurvePoint) (rest : List CurvePoint) :
    increasing (p :: q :: rest) = true ↔ p.t < q.t ∧ increasing (q :: rest) = true := by
  rw [increasing, Bool.and_eq_true, decide_eq_true_iff]

theorem increasing_iff_isChain (c : List CurvePoint) :
    increasing c = true ↔ c.IsChain fun p q => p.t < q.t := by
  induction c using List.twoStepInduction with
  | nil => simp [increasing]
  | singleton p => simp [increasing]
  | cons_cons p q rest _ ih => rw [increasing_cons_cons, ih, List.isChain_cons_cons]

theorem increasing_iff_consecutive (c : List CurvePoint) :
    increasing c = true ↔ ∀ pre a b post, c = pre ++ a :: b :: post → a.t < b.t := by
  rw [increasing_iff_isChain, List.isChain_iff_forall_rel_of_append_cons_cons]
  exact ⟨fun h _ _ _ _ hc => h hc, fun h _ _ _ _ hc => h _ _ _ _ hc⟩

theorem increasing_iff_pairwise (c : List CurvePoint) :
    increasing c = true ↔ c.Pairwise fun p q => p.t < q.t := by
  rw [increasing_iff_isChain, ← List.isChain_map CurvePoint.t (R := (· < ·)), List.isChain_iff_pairwise,
    List.pairwise_map]

theorem within_iff (a b x : Int) : within a b x = true ↔ a ≤ x ∧ x ≤ b := decide_eq_true_iff

theorem curveOk_iff (c : List CurvePoint) :
    curveOk c = true ↔ 2 ≤ c.length ∧ c.length ≤ 6
      ∧ (∀ p ∈ c, -400 ≤ p.t ∧ p.t ≤ 1500 ∧ 0 ≤ p.d ∧ p.d ≤ 1000) ∧ increasing c = true := by
  simp only [curveOk, tempOk, within_iff, Bool.and_eq_true, decide_eq_true_iff, List.all_eq_true, and_assoc]

/-! ## The duty within a segment -/

/-- The duty of temperature t in the segment from a to b. -/
def interpolate (a b : CurvePoint) (t : Int) : Int :=
  a.d + roundDiv ((b.d - a.d) * (t - a.t)) (b.t - a.t)

theorem interpolate_right {a b : CurvePoint} (hab : a.t < b.t) : interpolate a b b.t = b.d := by
  rw [interpolate, roundDiv_mul_self _ _ (by omega)]
  omega

/-- Any bounds of the two duties of a segment bound the duties within it. -/
theorem interpolate_bounds {a b : CurvePoint} {t lo hi : Int} (hat : a.t < t) (htb : t ≤ b.t)
    (ha : lo ≤ a.d ∧ a.d ≤ hi) (hb : lo ≤ b.d ∧ b.d ≤ hi) :
    lo ≤ interpolate a b t ∧ interpolate a b t ≤ hi := by
  obtain ⟨hloa, hhia⟩ := ha
  obtain ⟨hlob, hhib⟩ := hb
  have hlow : (lo - a.d) * (b.t - a.t) ≤ (b.d - a.d) * (t - a.t) := calc
    (lo - a.d) * (b.t - a.t) ≤ (lo - a.d) * (t - a.t) := mul_le_mul_of_nonpos_left (by omega) (by omega)
    _ ≤ (b.d - a.d) * (t - a.t) := mul_le_mul_of_nonneg_right (by omega) (by omega)
  have hhigh : (b.d - a.d) * (t - a.t) ≤ (hi - a.d) * (b.t - a.t) := calc
    (b.d - a.d) * (t - a.t) ≤ (hi - a.d) * (t - a.t) := mul_le_mul_of_nonneg_right (by omega) (by omega)
    _ ≤ (hi - a.d) * (b.t - a.t) := mul_le_mul_of_nonneg_left (by omega) (by omega)
  obtain ⟨hge, hle⟩ := roundDiv_range _ _ _ _ (by omega) hlow hhigh
  unfold interpolate
  omega

/-! ## The branches of the lookup -/

section
variable {p q : CurvePoint} {rest : List CurvePoint} {t : Int}

theorem lookup_of_le_first (h : t ≤ p.t) : lookup (p :: rest) t = p.d := if_pos h

theorem lookup_singleton (p : CurvePoint) (t : Int) : lookup [p] t = p.d := ite_self _

theorem lookup_first_segment (hpt : p.t < t) (htq : t ≤ q.t) : lookup (p :: q :: rest) t = interpolate p q t := by
  rw [lookup, if_neg (by omega), lookupFrom, if_pos htq, interpolate]

/-- A first point does not matter from the second one on; at the second, the first segment ends with its duty. -/
theorem lookup_of_second_le (hpq : p.t < q.t) (hqt : q.t ≤ t) : lookup (p :: q :: rest) t = lookup (q :: rest) t := by
  rcases hqt.eq_or_lt with rfl | hlt
  · rw [lookup_first_segment hpq le_rfl, interpolate_right hpq, lookup_of_le_first le_rfl]
  · simp only [lookup, lookupFrom]
    rw [if_neg (by omega), if_neg (by omega), if_neg (by omega)]

end

/-! ## The lookup in a curve -/

/-- The points before one that the temperature has reached do not matter. -/
theorem lookup_append {pre post : List CurvePoint} {a : CurvePoint} {t : Int}
    (hinc : increasing (pre ++ a :: post) = true) (hat : a.t ≤ t) :
    lookup (pre ++ a :: post) t = lookup (a :: post) t := by
  induction pre with
  | nil => rfl
  | cons p pre ih =>
    cases pre with
    | nil =>
      obtain ⟨hpa, -⟩ := (increasing_cons_cons ..).mp hinc
      exact lookup_of_second_le hpa hat
    | cons q pre =>
      obtain ⟨hpq, htail⟩ := (increasing_cons_cons ..).mp hinc
      have hqa : q.t < a.t := List.rel_of_pairwise_cons ((increasing_iff_pairwise _).mp htail) (by simp)
      exact (lookup_of_second_le hpq (by omega)).trans (ih htail)

theorem lookup_segment {pre post : List CurvePoint} {a b : CurvePoint} {t : Int}
    (hinc : increasing (pre ++ a :: b :: post) = true) (hat : a.t < t) (htb : t ≤ b.t) :
    lookup (pre ++ a :: b :: post) t = interpolate a b t :=
  (lookup_append hinc hat.le).trans (lookup_first_segment hat htb)

theorem lookup_of_last_le {c : List CurvePoint} {p : CurvePoint} {t : Int} (hinc : increasing c = true)
    (hlast : c.getLast? = some p) (hpt : p.t ≤ t) : lookup c t = p.d := by
  obtain ⟨pre, rfl⟩ := List.getLast?_eq_some_iff.mp hlast
  exact (lookup_append hinc hpt).trans (lookup_singleton p t)

/-- Any bounds of the duties of a curve bound its lookup. -/
theorem lookup_bounds {c : List CurvePoint} {t lo hi : Int} (hne : c ≠ []) (hinc : increasing c = true)
    (hd : ∀ p ∈ c, lo ≤ p.d ∧ p.d ≤ hi) : lo ≤ lookup c t ∧ lookup c t ≤ hi := by
  induction c using List.twoStepInduction with
  | nil => exact absurd rfl hne
  | singleton p =>
    rw [lookup_singleton]
    exact hd p (by simp)
  | cons_cons p q rest _ ih =>
    obtain ⟨hpq, htail⟩ := (increasing_cons_cons ..).mp hinc
    have hp := hd p (by simp)
    rcases le_or_gt t p.t with hle | hpt
    · rwa [lookup_of_le_first hle]
    rcases le_or_gt t q.t with htq | hqt
    · rw [lookup_first_segment hpt htq]
      exact interpolate_bounds hpt htq hp (hd q (by simp))
    · rw [lookup_of_second_le hpq hqt.le]
      exact ih q (by simp) htail fun r hr => hd r (List.mem_cons_of_mem p hr)

/-- Settles O29: each segment is brought to the front by `lookup_append`, and within it the lookup is `interpolate`. -/
theorem curveLookup : Obligations.CurveLookup := by
  refine ⟨fun c => ?_, fun c t hc => ?_, by decide⟩
  · rw [curveOk_iff, increasing_iff_consecutive]
  obtain ⟨hmin, -, hpts, hinc⟩ := (curveOk_iff c).mp hc
  have hne : c ≠ [] := List.ne_nil_of_length_pos (by omega)
  refine ⟨fun p hhead hle => ?_, fun p hlast hpt => lookup_of_last_le hinc hlast hpt, ?_, ?_⟩
  · obtain ⟨rest, rfl⟩ := List.head?_eq_some_iff.mp hhead
    exact lookup_of_le_first hle
  · rintro pre a b post rfl hat htb
    rw [lookup_segment hinc hat htb]
    refine ⟨rfl, ?_, ?_⟩
    · rintro rfl
      exact interpolate_right hat
    · exact interpolate_bounds hat htb ⟨min_le_left .., le_max_left ..⟩ ⟨min_le_right .., le_max_right ..⟩
  · refine lookup_bounds hne hinc fun p hp => ?_
    obtain ⟨-, -, hlow, hhigh⟩ := hpts p hp
    exact ⟨hlow, hhigh⟩

end Sys2Proof.Machine
end

section
/-! The channel term of an evaluation (09 R151). The scan over the TEMP channels keeps the first greatest of their
derates; the trip test before it and the move of the allowance after it leave what it reads and what it writes alone. -/

namespace Sys2Proof.Machine

/-! ## The scan for the first greatest value -/

/-- One step of the scan: a later channel takes over only with a greater value. -/
def keepGreatest (f : Fin 7 → Option Int) (best : Option (Int × Fin 7)) (c : Fin 7) : Option (Int × Fin 7) :=
  match f c, best with
  | none, _ => best
  | some d, none => some (d, c)
  | some d, some b => if b.1 < d then some (d, c) else best

/-- Of the channels of l that have a value, c has the greatest, d, and is the lowest with it. -/
structure FirstGreatest (f : Fin 7 → Option Int) (l : List (Fin 7)) (d : Int) (c : Fin 7) : Prop where
  mem : c ∈ l
  value : f c = some d
  bound : ∀ c' ∈ l, ∀ d', f c' = some d' → d' ≤ d ∧ (d' = d → c ≤ c')

namespace FirstGreatest

variable {f : Fin 7 → Option Int} {l : List (Fin 7)} {d d' : Int} {c c' e : Fin 7}

theorem unique (h : FirstGreatest f l d c) (h' : FirstGreatest f l d' c') : d = d' ∧ c = c' := by
  obtain ⟨hle, hlow⟩ := h.bound c' h'.mem d' h'.value
  obtain ⟨hle', hlow'⟩ := h'.bound c h.mem d h.value
  have hd : d = d' := le_antisymm hle' hle
  exact ⟨hd, le_antisymm (hlow hd.symm) (hlow' hd)⟩

/-- A later channel without a greater value changes nothing. -/
theorem keep (h : FirstGreatest f l d c) (hce : c ≤ e) (he : ∀ x, f e = some x → x ≤ d) :
    FirstGreatest f (l ++ [e]) d c where
  mem := List.mem_append_left _ h.mem
  value := h.value
  bound c' hc' x hx := by
    rcases List.mem_append.mp hc' with hl | hlast
    · exact h.bound c' hl x hx
    · obtain rfl := List.mem_singleton.mp hlast
      exact ⟨he x hx, fun _ => hce⟩

/-- A channel whose value is above all before it takes over. -/
theorem replace (he : f e = some d) (hlt : ∀ c' ∈ l, ∀ x, f c' = some x → x < d) :
    FirstGreatest f (l ++ [e]) d e where
  mem := List.mem_append_right _ (List.mem_singleton_self e)
  value := he
  bound c' hc' x hx := by
    rcases List.mem_append.mp hc' with hl | hlast
    · have hxd := hlt c' hl x hx
      exact ⟨hxd.le, fun heq => absurd heq hxd.ne⟩
    · obtain rfl := List.mem_singleton.mp hlast
      obtain rfl : d = x := Option.some.inj (he.symm.trans hx)
      exact ⟨le_rfl, fun _ => le_rfl⟩

end FirstGreatest

/-- In ascending order of the channels the scan finds the first greatest value, and nothing when there is no value. -/
theorem foldl_keepGreatest_cases (f : Fin 7 → Option Int) (l : List (Fin 7)) (hl : l.Pairwise (· < ·)) :
    ((∀ c ∈ l, f c = none) ∧ l.foldl (keepGreatest f) none = none)
      ∨ ∃ d c, FirstGreatest f l d c ∧ l.foldl (keepGreatest f) none = some (d, c) := by
  induction l using List.reverseRecOn with
  | nil => exact .inl ⟨by simp, rfl⟩
  | append_singleton l e ih =>
    obtain ⟨hpre, -, hlt⟩ := List.pairwise_append.mp hl
    simp only [List.foldl_append, List.foldl_cons, List.foldl_nil]
    rcases ih hpre with ⟨hnone, hfold⟩ | ⟨d, c, hbest, hfold⟩
    · cases he : f e with
      | none => exact .inl ⟨by simpa [or_imp, forall_and, he] using hnone, by simp [keepGreatest, hfold, he]⟩
      | some x =>
        have htake : FirstGreatest f (l ++ [e]) x e := .replace he fun c' hc' y hy => by simp [hnone c' hc'] at hy
        exact .inr ⟨x, e, htake, by simp [keepGreatest, hfold, he]⟩
    · have hce : c ≤ e := (hlt c hbest.mem e (List.mem_singleton_self e)).le
      cases he : f e with
      | none => exact .inr ⟨d, c, hbest.keep hce (by simp [he]), by simp [keepGreatest, hfold, he]⟩
      | some x =>
        rcases lt_or_ge d x with hdx | hxd
        · have htake : FirstGreatest f (l ++ [e]) x e :=
            .replace he fun c' hc' y hy => (hbest.bound c' hc' y hy).1.trans_lt hdx
          exact .inr ⟨x, e, htake, by simp [keepGreatest, hfold, he, hdx]⟩
        · exact .inr ⟨d, c, hbest.keep hce (by simpa [he] using hxd), by simp [keepGreatest, hfold, he, hxd]⟩

/-! ## The derate of a channel and the channel term -/

/-- The derate that a TEMP channel gives: only a VALID channel gives one (09 R151). -/
def derateOf (s : State) (c : Fin 7) : Option Int := (validTemp s c).map (channelDerate (s.set.thresholds.get c))

theorem mem_tempChannels (c : Fin 7) : c ∈ tempChannels := by revert c; decide

theorem tempChannels_ascending : tempChannels.Pairwise (· < ·) := by decide

theorem channelTermOf_eq_foldl (s : State) :
    channelTermOf s = tempChannels.foldl (keepGreatest (derateOf s)) none := by
  unfold channelTermOf
  congr 1
  funext best c
  cases h : validTemp s c with
  | none => simp [keepGreatest, derateOf, h]
  | some t => cases best <;> simp [keepGreatest, derateOf, h]

theorem channelTermOf_of_no_derate {s : State} (h : ∀ c, derateOf s c = none) : channelTermOf s = none := by
  rw [channelTermOf_eq_foldl]
  rcases foldl_keepGreatest_cases (derateOf s) tempChannels tempChannels_ascending with
    ⟨-, hfold⟩ | ⟨d, c, hbest, -⟩
  · exact hfold
  · exact absurd ((h c).symm.trans hbest.value) (by simp)

theorem channelTermOf_of_firstGreatest {s : State} {d : Int} {c : Fin 7}
    (h : FirstGreatest (derateOf s) tempChannels d c) : channelTermOf s = some (d, c) := by
  rw [channelTermOf_eq_foldl]
  rcases foldl_keepGreatest_cases (derateOf s) tempChannels tempChannels_ascending with
    ⟨hnone, -⟩ | ⟨d', c', hbest, hfold⟩
  · exact absurd ((hnone c h.mem).symm.trans h.value) (by simp)
  · obtain ⟨rfl, rfl⟩ := hbest.unique h
    exact hfold

/-- Lawful thresholds keep the denominator positive, so the quotient at Tt comes out whole (09 R151). -/
theorem channelDerate_at_trip {g : Threshold} (h : g.ok = true) : channelDerate g g.tt = 1000 := by
  have hgap : 50 ≤ g.tt - g.ts := by
    simp only [Threshold.ok, Bool.and_eq_true, decide_eq_true_eq] at h
    exact h.2
  rw [channelDerate, if_neg (by omega), roundDiv_mul_self 1000 _ (by omega), min_self]

/-! ## One evaluation -/

/-- A VALID channel at its trip threshold is a condition for the trip test to find (09 R158). -/
theorem tripCondition_ne_none {s : State} {c : Fin 7} {t : Int} (hv : validTemp s c = some t)
    (ht : (s.set.thresholds.get c).tt ≤ t) : tripCondition s ≠ none := by
  unfold tripCondition
  split
  · simp
  · rename_i hfind
    have hcold := List.find?_eq_none.mp hfind c (mem_tempChannels c)
    simp [hv, ht] at hcold

theorem testTrip_frame (s : State) : ∃ q u, testTrip s = { s with prot := q, port := u } := by
  unfold testTrip
  split
  · exact ⟨s.prot, s.port, rfl⟩
  · rename_i k _
    rcases latchTrip_cases k s with ⟨-, hsame⟩ | ⟨-, u, hnew⟩
    · exact ⟨s.prot, s.port, hsame⟩
    · exact ⟨_, u, hnew⟩

theorem testTrip_latches {s : State} (h : tripCondition s ≠ none) : (testTrip s).prot.trip ≠ none := by
  obtain ⟨k, hk⟩ := Option.ne_none_iff_exists'.mp h
  have htest : testTrip s = latchTrip k s := by simp [testTrip, hk]
  rw [htest]
  rcases latchTrip_cases k s with ⟨hlatched, hsame⟩ | ⟨-, u, hnew⟩
  · rwa [hsame]
  · simp [hnew]

theorem moveAllowance_frame (s : State) :
    ∃ a u, moveAllowance s = { s with prot := { s.prot with allowance := a }, port := u } := by
  unfold moveAllowance
  split
  · exact ⟨s.prot.allowance, s.port, rfl⟩
  · exact ⟨_, setAllowance_frame _ s⟩

/-- An evaluation keeps the term of the records and thresholds as it finds them, with the channel that gave it, and has
the trip latched when a condition holds (09 R150, R151, R158). -/
theorem evaluate_keeps_term {s : State} (h : s.prot.running = true) :
    (evaluate s).prot.channelTerm = ((channelTermOf s).map Prod.fst).getD 0
      ∧ (evaluate s).prot.termChannel = (channelTermOf s).map Prod.snd
      ∧ (tripCondition s ≠ none → (evaluate s).prot.trip ≠ none) := by
  obtain ⟨a, u, hmove⟩ := moveAllowance_frame (formRaw (testTrip (passPeriod s)))
  have hterm : channelTermOf (testTrip (passPeriod s)) = channelTermOf s := by
    obtain ⟨q, v, htest⟩ := testTrip_frame (passPeriod s)
    rw [htest]
    rfl
  rw [evaluate, if_pos h, hmove, ← hterm]
  exact ⟨rfl, rfl, fun hcond => testTrip_latches (s := passPeriod s) hcond⟩

/-- Settles O33: the term that an evaluation keeps is that of `channelTermOf`, the first greatest of the derates. -/
theorem channelTerm : Obligations.ChannelTerm := by
  intro s derate kept
  have hderate : derate = derateOf s := by
    funext c
    simp only [derate, derateOf, validTemp]
    split <;> rfl
  have hkept : ∀ o, channelTermOf s = o → kept ((o.map Prod.fst).getD 0) (o.map Prod.snd) := by
    rintro o rfl hrun
    obtain ⟨hvalue, hchannel, -⟩ := evaluate_keeps_term hrun
    exact ⟨_, rfl, hvalue, hchannel⟩
  rw [hderate]
  refine ⟨fun hnone => hkept none (channelTermOf_of_no_derate hnone), fun c d hc hbound => ?_,
    fun c hok hvalid hat => ?_, by decide⟩
  · exact hkept (some (d, c)) (channelTermOf_of_firstGreatest ⟨mem_tempChannels c, hc, fun c' _ => hbound c'⟩)
  · have htemp : validTemp s c = some (s.set.thresholds.get c).tt := by rw [validTemp, if_pos hvalid, hat]
    refine ⟨by rw [derateOf, htemp, Option.map_some, channelDerate_at_trip hok], fun hrun => ?_⟩
    obtain ⟨-, -, htrip⟩ := evaluate_keeps_term hrun
    exact ⟨_, rfl, htrip (tripCondition_ne_none htemp le_rfl)⟩

end Sys2Proof.Machine
end

section
/-! The CRC-8 of a Port B frame (10 R171): its recurrence, what a sent frame ends with, and what a frame with another
check byte does. -/

namespace Sys2Proof.Machine

/-! ## The recurrence -/

/-- The bit that a step shifts out is bit 7, the most significant. -/
theorem crc8Shift_eq (c : BitVec 8) :
    crc8Shift c = if c.getLsbD 7 then (c <<< 1) ^^^ 0x07#8 else c <<< 1 := by
  rw [crc8Shift, BitVec.msb_eq_getLsbD_last]

@[simp] theorem crc8_nil : crc8 [] = 0x00#8 := rfl

theorem crc8_concat (l : List Byte) (b : Byte) : crc8 (l ++ [b]) = Nat.repeat crc8Shift 8 (crc8 l ^^^ b) :=
  List.foldl_concat crc8Byte 0#8 b l

/-- The nine bytes of the characters 1 to 9. -/
theorem crc8_one_to_nine :
    crc8 [0x31#8, 0x32#8, 0x33#8, 0x34#8, 0x35#8, 0x36#8, 0x37#8, 0x38#8, 0x39#8] = 0xF4#8 := by
  simp [crc8, crc8Byte, Nat.repeat, crc8Shift_eq]

/-! ## The transmitter (10 R172) -/

/-- The payload with which a frame at the head of u's queue is sent: that of a notice not begun is taken from u. -/
def TxFrame.payloadSent (u : PortUnit) : TxFrame → List Byte
  | .response p _ => p
  | .notice o => o.getD u.noticePayload

/-- The head of the queue leaves as a whole frame, and an owed notice joins. -/
theorem sendHead_cons {u : PortUnit} {f : TxFrame} {rest : List TxFrame} (h : u.tx = f :: rest) :
    u.sendHead = { u with
      tx := if u.owed then rest ++ [.notice none] else rest
      owed := false
      lastSent := frameBytes (f.payloadSent u) } := by
  obtain ⟨bufA, rx, frameCount, tx, owed, events, masks, attnA, asel, lastSent⟩ := u
  obtain rfl : tx = f :: rest := h
  cases f with
  | response p begun => cases begun <;> cases owed <;> rfl
  | notice o => cases o <;> cases owed <;> rfl

/-! ## The receiver (10 R170) -/

@[simp] theorem setReceiver_frameCount (r : Receiver) (s : State) :
    (setReceiver r s).port.frameCount = s.port.frameCount := rfl

@[simp] theorem PortUnit.join_frameCount (f : TxFrame) (u : PortUnit) : (u.join f).frameCount = u.frameCount := by
  rw [PortUnit.join]
  split <;> rfl

@[simp] theorem placeB_frameCount (l : List Byte) (s : State) :
    (placeB l s).port.frameCount = s.port.frameCount := by
  simp only [placeB, PortUnit.join_frameCount]
  split
  · rfl
  · split <;> rfl

/-- An abandoned frame is not counted. -/
theorem badFrame_frameCount (s : State) : (badFrame s).port.frameCount = s.port.frameCount := by
  rw [badFrame]
  split
  · rw [placeB_frameCount, setReceiver_frameCount]
  · rw [setReceiver_frameCount]

/-- A check byte other than the CRC-8 of length and payload abandons the frame. -/
theorem byteReceived_of_crc8_ne {s : State} {b : Byte} {n : Nat} {got : List Byte} (hdeaf : s.deaf = false)
    (hrx : s.port.rx = .check n got) (hne : b ≠ crc8 (BitVec.ofNat 8 n :: got)) :
    byteReceived b true s = .next (badFrame s) := by
  have hcheck : checkFrame n got b s = .next (badFrame s) := if_neg hne.symm
  rw [byteReceived, hdeaf, takeByte, hrx, ← hcheck]
  rfl

/-- Settles O41: the recurrence by the last byte of the run, the sent frame by `sendHead_cons`, the frame with another
check byte by `byteReceived_of_crc8_ne`. -/
theorem crc8OfFrames : Obligations.Crc8 := by
  unfold Obligations.Crc8
  intro bit
  have hbit : crc8Shift = bit := funext crc8Shift_eq
  refine ⟨crc8_nil, fun l b => ?_, crc8_one_to_nine, by decide, by decide, fun s f rest htx => ?_,
    fun s b n got hdeaf hrx hne => ?_⟩
  · rw [crc8_concat, hbit]
    rfl
  · refine ⟨frameSent s, f.payloadSent s.port, rfl, ?_⟩
    rw [frameSent, sendHead_cons htx]
    rfl
  · exact ⟨badFrame s, byteReceived_of_crc8_ne hdeaf hrx hne, badFrame_frameCount s⟩

end Sys2Proof.Machine
end

section
/-! What one step can do, said once: a control-port command is its unit's answer with the reply placed, or is refused
before its unit; every other arrival has its own meaning; and a byte of Port B can complete the frame of a command. A law
that survives each of these is kept by every step. -/

namespace Sys2Proof.Machine

/-- The answer of the owning unit to a control-port command whose parameters it can read. -/
def answerOf : Instr → State → Answer
  | .smpSetRound _ (.form a) => smpSetRound a
  | .smpSetTrigger _ (.form a) => smpSetTrigger a
  | .smpSetTable _ (.form a) => smpSetTable a
  | .smpSetChannel _ (.form a) => smpSetChannel a
  | .smpClearPeak _ (.form a) => smpClearPeak a
  | .smpReadChannel _ (.form a) => smpReadChannel a
  | .smpStatus _ (.form a) => smpStatus a
  | .captureLevel p (.form a) => captureLevel p a
  | .attSetOrientation p (.form a) => attSetOrientation p a
  | .attSetParams _ (.form a) => attSetParams a
  | .attStatus _ (.form a) => attStatus a
  | .geoSetCorner p (.form a) => geoSetCorner p a
  | .geoSetCorners p (.form a) => geoSetCorners p a
  | .geoNudgeCorner p (.form a) => geoNudgeCorner p a
  | .geoZeroCorners p (.form a) => geoZeroCorners p a
  | .geoSetMode p (.form a) => geoSetMode p a
  | .geoSetFollow _ (.form a) => geoSetFollow a
  | .geoSetPanel p (.form a) => geoSetPanel p a
  | .geoSetZoomTable p (.form a) => geoSetZoomTable p a
  | .geoClearClip _ (.form a) => geoClearClip a
  | .geoStatus _ (.form a) => geoStatus a
  | .fwSet _ (.form a) => fwSet a
  | .fwSet _ (.noForm i j) => rangeReply i j
  | .fwNudge _ (.form a) => fwNudge a
  | .fwNudge _ (.noForm i j) => rangeReply i j
  | .fwZero _ (.form a) => fwZero a
  | .fwZero _ (.noForm i j) => rangeReply i j
  | .fwZeroAll _ (.form a) => fwZeroAll a
  | .fwSetLimit _ (.form a) => fwSetLimit a
  | .fwEnable _ (.form a) => fwEnable a
  | .fwRead _ (.form a) => fwRead a
  | .meshStatus _ (.form a) => meshStatus a
  | .jog p (.form a) => jogCommand p a
  | .jogEnd p (.form a) => jogEndCommand p a
  | .stop _ (.form a) => stopCommand a
  | .axisSetParams _ (.form a) => axisSetParams a
  | .axisSetJog _ (.form a) => axisSetJog a
  | .axisStatus _ (.form _) => fun s => reply s (axisStatusData s)
  | .axisReadParams _ (.form a) => axisReadParams a
  | .mqMove p (.form a) => mqMove p a
  | .mqStep p (.form a) => mqStep p a
  | .mqHome p (.form a) => mqHome p a
  | .mqRecall p (.form a) => mqRecall p a
  | .flush p (.form a) => flushCommand p a
  | .mqStatus _ (.form _) => fun s => reply s (mqStatusData s)
  | .mqOutcomes p (.form a) => mqOutcomes p a
  | .memSave _ (.form a) => memSave a
  | .memDelete _ (.form a) => memDelete a
  | .memRead _ (.form a) => memRead a
  | .memSetPoweron _ (.form a) => memSetPoweron a
  | .fcSet _ (.form a) => fcSet a
  | .fcStatus _ (.form _) => fun s => reply s (fcStatusData s)
  | .fanSetQuiet _ (.form a) => fanSetQuiet a
  | .fanClear _ (.form a) => fanClear a
  | .fanSetCurve _ (.form a) => fanSetCurve a
  | .fanSetBinding _ (.form a) => fanSetBinding a
  | .fanSetParams _ (.form a) => fanSetParams a
  | .fanSetOffsets _ (.form a) => fanSetOffsets a
  | .fanSetSlew _ (.form a) => fanSetSlew a
  | .fanStatus _ (.form a) => fanStatus a
  | .fanReadSettings _ (.form a) => fanReadSettings a
  | .light _ (.form a) => lightCommand a
  | .clearTrip _ (.form a) => clearTripCommand a
  | .protSetParams _ (.form a) => protSetParams a
  | .protSetThresholds _ (.form a) => protSetThresholds a
  | .protReadSettings _ (.form a) => protReadSettings a
  | .protStatus _ (.form a) => protStatus a
  | .readEvents p (.form a) => readEvents p a
  | .setEventMask p (.form a) => setEventMask p a
  | .ident _ (.form a) => ident a
  | .portStatus p (.form a) => portStatus p a
  | .setRights _ (.form a) => setRights a
  | .saveSettings p (.form a) => saveSettings p a
  | .storeStatus _ (.form a) => storeStatus a
  | .setAutohome _ (.form a) => setAutohome a
  | _ => accept

/-- The meaning of an arrival that reaches no unit through the checks of 10 R173. -/
def arrivalOf : Instr → State → State
  | .conversionCompletion code => conversionCompleted code
  | .frameStart => frameStart
  | .delayTimerExpiry => delayExpired
  | .periodTimerExpiry => periodExpired
  | .smpVideoWatchExpiry => smpVideoExpired
  | .computationCompletion => computationCompleted
  | .presVideoWatchExpiry => presVideoExpired
  | .mpStatus => mpStatus
  | .mpReadRows v => mpReadRows v
  | .mpSetFormat v => mpSetFormat v
  | .mpUnknownCommand cmd => mpUnknown cmd
  | .mcsnRelease => mcsnReleased
  | .legEnd x => legEnded x
  | .stopDecelerationEnd x => stopDecelerationEnded x
  | .settleTimeExpiry x => settleExpired x
  | .homeSwitchEdge x => homeEdge x
  | .homeTimeout x => homeTimeout x
  | .indexEdge x => indexEdge x
  | .mdfltActivation => mdfltActivated
  | .mdfltDeassertion => mdfltDeasserted
  | .jogSoftLimitReached x => jogLimitReached x
  | .jogTimeoutExpiry e => jogTimedOut e
  | .jogStopEnd x => jogStopped x
  | .fanControlPeriod => controlPeriod
  | .spinupTimerExpiry f => spinupExpired f
  | .tachEdge f => tachEdge f
  | .tachWindowEnd f => tachWindowEnd f
  | .stopTimerExpiry f => stopExpired f
  | .protectionPeriodExpiry => evaluate
  | .tcoActivation => tcoActivated
  | .drvfltActivation => drvfltActivated
  | .tcoDeassertion => tcoDeasserted
  | .drvfltDeassertion => drvfltDeasserted
  | .afterrunTimerExpiry => afterrunExpired
  | .i2cWriteOverflow => writeOverflow
  | .interbyteGapExpiry => gapExpired
  | .txFrameSent => frameSent
  | .unknownCommand p id => unknownTaken p id
  | .saveCompletion => saveCompleted
  | .reset p v => resetCommand p v
  | .powerOnReset => powerOnReset
  | .powerLoss => powerLost
  | .rstnLow => rstnLow
  | .rstnRise => rstnRise
  | .loadCompletion => loadCompleted
  | .rawLevelChange pin level => changeInput pin level
  | .stepIssued x d => stepIssued x d
  | _ => id

/-- A command with a form is its unit's answer behind the checks of 10 R173. -/
theorem command_form_eq {α : Type} (p : Port) (id : Byte) (need : Need) (a : α) (unit : α → State → Answer) (s : State) :
    command p id need (.form a) unit s = .next (answerTo p id (checked p need (.form ()) fun _ => unit a) s) := rfl

/-- A command without a form never reaches its unit. -/
theorem command_misfit_eq {α : Type} (p : Port) (id : Byte) (need : Need) (unit : α → State → Answer)
    (unit' : Unit → State → Answer) (s : State) :
    command p id need .misfit unit s = .next (answerTo p id (checked p need .misfit unit') s) := rfl

/-- A control-port command is handed to its unit's answer behind the checks of 10 R173. -/
theorem exec_eq_answerTo {i : Instr} {c : Control} (hc : controlOf i = some c) (hr : ∀ p v, i ≠ .reset p v) (s : State) :
    exec i s = .next (answerTo c.port c.id
      (checked c.port c.need (if c.fits then .form () else .misfit) fun _ => answerOf i) s) := by
  cases i <;> first
    | (cases hc; done)
    | exact absurd rfl (hr _ _)
    | (rename_i v; cases hc; cases v <;> first
        | exact command_form_eq _ _ _ _ _ s
        | exact command_misfit_eq _ _ _ _ _ s)

/-- An arrival that is no control-port command, but for a byte of Port B, has its own meaning. -/
theorem exec_eq_arrival {i : Instr} (hc : controlOf i = none ∨ ∃ p v, i = .reset p v)
    (hb : ∀ b k, i ≠ .uartByteReceived b k) (s : State) : exec i s = .next (arrivalOf i s) := by
  cases i <;> first
    | rfl
    | exact absurd rfl (hb _ _)
    | (rcases hc with hc | ⟨p, v, hc⟩ <;> cases hc)

/-- The command that a good frame carries is that command's own row, or none that a port sends (10 R170, R173). -/
theorem frameCommand_cases (i : Instr) (s : State) :
    frameCommand i s = .next s
      ∨ (frameCommand i s = exec i s ∧ (controlOf i ≠ none ∨ ∃ p id, i = .unknownCommand p id)) := by
  cases i <;> first
    | exact .inl rfl
    | exact .inr ⟨rfl, .inr ⟨_, _, rfl⟩⟩
    | exact .inr ⟨rfl, .inl (by simp [controlOf])⟩

/-- A law that every operation of a step keeps. -/
structure Kept (P : State → Prop) : Prop where
  pending : ∀ s l, P s → P { s with pending := l }
  begin : ∀ s, P s → P (beginFrame s)
  placeA : ∀ s i k d, P s → P (placeA i k d s)
  placeB : ∀ s l, P s → P (placeB l s)
  countFrame : ∀ s, P s → P (countFrame s)
  setReceiver : ∀ s r, P s → P (setReceiver r s)
  answer : ∀ i s, s.deaf = false → P s → P (answerOf i s).st
  arrival : ∀ i s, P s → P (arrivalOf i s)

namespace Kept
variable {P : State → Prop} {s t : State}

theorem answerTo (hP : Kept P) (p : Port) (id : Byte) (unit : State → Answer)
    (hunit : ∀ s, s.deaf = false → P s → P (unit s).st) (h : P s) : P (answerTo p id unit s) := by
  unfold Machine.answerTo
  cases hd : s.deaf with
  | true => exact h
  | false =>
    cases p with
    | a => exact hP.placeA _ _ _ _ (hunit s hd h)
    | b =>
      have hcount := hP.countFrame s h
      simp only [Bool.false_eq_true, if_false]
      split
      · exact hP.placeB _ _ (hunit _ hd hcount)
      · exact hcount

theorem checked {α : Type} (p : Port) (need : Need) (v : Params α) (unit : α → State → Answer)
    (hunit : ∀ a, P s → P (unit a s).st) (h : P s) : P (checked p need v unit s).st := by
  unfold Machine.checked
  split
  · exact h
  · split
    · exact hunit _ h
    · exact h

/-- Every arrival but a byte of Port B keeps the law. -/
theorem exec_of_ne_byte (hP : Kept P) {i : Instr} (hb : ∀ b k, i ≠ .uartByteReceived b k) (h : P s)
    (hst : exec i s = .next t) : P t := by
  by_cases hr : ∃ p v, i = .reset p v
  · rw [exec_eq_arrival (.inr hr) hb] at hst
    cases hst
    exact hP.arrival i s h
  · cases hc : controlOf i with
    | none =>
      rw [exec_eq_arrival (.inl hc) hb] at hst
      cases hst
      exact hP.arrival i s h
    | some c =>
      rw [exec_eq_answerTo hc (fun p v e => hr ⟨p, v, e⟩)] at hst
      cases hst
      exact hP.answerTo _ _ _ (fun u hd hu => Kept.checked _ _ _ _ (fun _ => hP.answer i u hd) hu) h

theorem badFrame (hP : Kept P) (h : P s) : P (badFrame s) := by
  unfold Machine.badFrame
  dsimp only
  split
  · exact hP.placeB _ _ (hP.setReceiver _ _ h)
  · exact hP.setReceiver _ _ h

/-- The command of a frame is never a byte of Port B itself. -/
theorem frameCommand (hP : Kept P) {i : Instr} (h : P s) (hst : frameCommand i s = .next t) : P t := by
  rcases frameCommand_cases i s with e | ⟨e, hi⟩
  · rw [e] at hst
    cases hst
    exact h
  · rw [e] at hst
    refine hP.exec_of_ne_byte (fun b k hb => ?_) h hst
    subst hb
    rcases hi with hi | ⟨_, _, hi⟩
    · exact hi rfl
    · cases hi

theorem takeByte (hP : Kept P) {b : Byte} (h : P s) (hst : takeByte b s = .next t) : P t := by
  unfold Machine.takeByte at hst
  split at hst
  · cases hst
    split
    · exact hP.setReceiver _ _ h
    · exact h
  · cases hst
    split
    · exact hP.setReceiver _ _ h
    · exact hP.badFrame h
  · cases hst
    unfold keepByte
    split <;> exact hP.setReceiver _ _ h
  · unfold checkFrame at hst
    split at hst
    · exact hP.frameCommand h hst
    · cases hst
      exact hP.badFrame h

theorem exec (hP : Kept P) {i : Instr} (h : P s) (hst : exec i s = .next t) : P t := by
  by_cases hb : ∃ b k, i = .uartByteReceived b k
  · obtain ⟨b, k, rfl⟩ := hb
    change byteReceived b k s = .next t at hst
    unfold byteReceived at hst
    split at hst
    · cases hst
      exact h
    · split at hst
      · exact hP.takeByte h hst
      · cases hst
        exact hP.setReceiver _ _ h
  · exact hP.exec_of_ne_byte (fun b k e => hb ⟨b, k, e⟩) h hst

/-- A law that survives every operation of a step is kept by every step. -/
theorem step (hP : Kept P) (h : P s) (hst : step s = .next t) : P t := by
  unfold Machine.step at hst
  split at hst
  · cases hst
    exact hP.begin s h
  · exact hP.exec (hP.pending s _ h) hst

end Kept

end Sys2Proof.Machine
end

section
/-! Which parts of the state each command and each arrival can reach: a table, `touched`, and the proof that everything
else stays. A law then needs a proof of its own only where the table names a part that it looks at. -/

namespace Sys2Proof.Machine

/-! ## Parts of the state -/

/-- The parts of the state that the laws of the units look at; the settings in six pieces, the attitude record without
the refused pitch. -/
inductive Part where
  | round | record | axisSet | fanSet | protSet | restSet
  | smp | att | geo | eng | pres | axes | mq | fan | prot | port | store

/-- A part of the state is the same in s and t. -/
def Same (s t : State) : Part → Prop
  | .round => t.set.round = s.set.round
  | .record => t.set.geo = s.set.geo
  | .axisSet => t.set.axes = s.set.axes
  | .fanSet => t.set.fans = s.set.fans ∧ t.set.slew = s.set.slew ∧ t.set.quiet = s.set.quiet
  | .protSet => t.set.prot = s.set.prot
  | .restSet => t.set = { s.set with
      round := t.set.round, geo := t.set.geo, axes := t.set.axes, fans := t.set.fans, slew := t.set.slew,
      quiet := t.set.quiet, prot := t.set.prot }
  | .smp => t.smp = s.smp
  | .att => t.att = { s.att with refused := t.att.refused }
  | .geo => t.geo = s.geo
  | .eng => t.eng = s.eng
  | .pres => t.pres = s.pres
  | .axes => t.axes = s.axes
  | .mq => t.mq = s.mq
  | .fan => t.fan = s.fan
  | .prot => t.prot = s.prot
  | .port => t.port = s.port
  | .store => t.store = s.store

theorem Same.refl (s : State) (p : Part) : Same s s p := by
  cases p <;> first | rfl | exact ⟨rfl, rfl, rfl⟩

theorem Same.trans {s t u : State} {p : Part} (h : Same s t p) (k : Same t u p) : Same s u p := by
  cases p with
  | fanSet => exact ⟨k.1.trans h.1, k.2.1.trans h.2.1, k.2.2.trans h.2.2⟩
  | restSet | att =>
    dsimp only [Same] at *
    rw [k, h]
  | _ => exact Eq.trans k h

/-- t differs from s in the listed parts alone. -/
def Frame (l : List Part) (s t : State) : Prop := ∀ p, p ∈ l ∨ Same s t p

namespace Frame
variable {l m : List Part} {s t u : State}

theorem same (h : Frame l s t) {p : Part} (hp : p ∉ l) : Same s t p := (h p).resolve_left hp

theorem refl (l : List Part) (s : State) : Frame l s s := fun p => .inr (Same.refl s p)

theorem trans (h : Frame l s t) (k : Frame l t u) : Frame l s u := fun p =>
  (h p).elim .inl fun hs => (k p).imp_right hs.trans

theorem mono (h : Frame l s t) (hlm : l ⊆ m) : Frame m s t := fun p => (h p).imp_left (@hlm p)

/-- The whole of the settings is untouched. -/
theorem set_eq (h : Frame l s t)
    (hl : .round ∉ l ∧ .record ∉ l ∧ .axisSet ∉ l ∧ .fanSet ∉ l ∧ .protSet ∉ l ∧ .restSet ∉ l) : t.set = s.set := by
  obtain ⟨h1, h2, h3, h4, h5, h6⟩ := hl
  have k1 : t.set.round = s.set.round := h.same h1
  have k2 : t.set.geo = s.set.geo := h.same h2
  have k3 : t.set.axes = s.set.axes := h.same h3
  obtain ⟨k4, k4', k4''⟩ : Same s t .fanSet := h.same h4
  have k5 : t.set.prot = s.set.prot := h.same h5
  have k6 : t.set = _ := h.same h6
  rw [k6, k1, k2, k3, k4, k4', k4'', k5]

end Frame

/-! ## What the shared operations reach -/

/-- What a composition can change. -/
def composeParts : List Part := [.record, .geo, .eng, .pres, .port]

/-- What the end or the dispatch of a request can change. -/
def motionParts : List Part := .axes :: .mq :: composeParts

theorem MeshFrame.frame {s t : State} (h : MeshFrame s t) : Frame [.eng, .pres] s t := by
  obtain ⟨e, q, rfl⟩ := h
  intro p
  cases p <;> first | exact .inr rfl | exact .inr ⟨rfl, rfl, rfl⟩ | exact .inl (by simp)

theorem ComposeFrame.frame {s t : State} (h : ComposeFrame s t) : Frame composeParts s t := by
  obtain ⟨geo, ref, g, e, q, u, rfl⟩ := h
  intro p
  cases p <;> first | exact .inr rfl | exact .inr ⟨rfl, rfl, rfl⟩ | exact .inl (by simp [composeParts])

theorem MotionFrame.frame {s t : State} (h : MotionFrame s t) : Frame motionParts s t := by
  obtain ⟨ax, mq, fc, geo, ref, g, e, q, u, rfl⟩ := h
  intro p
  cases p <;> first | exact .inr rfl | exact .inr ⟨rfl, rfl, rfl⟩ | exact .inl (by simp [motionParts, composeParts])

/-! ## What a write of one field reaches -/

section
variable (s : State)

theorem frame_smp (x : Sampling) : Frame [.smp] s { s with smp := x } := by intro p; cases p <;> simp [Same]
theorem frame_att (x : Attitude) : Frame [.att] s { s with att := x } := by intro p; cases p <;> simp [Same]
theorem frame_geo (x : Geometry) : Frame [.geo] s { s with geo := x } := by intro p; cases p <;> simp [Same]
theorem frame_eng (x : Engine) : Frame [.eng] s { s with eng := x } := by intro p; cases p <;> simp [Same]
theorem frame_pres (x : Presentation) : Frame [.pres] s { s with pres := x } := by intro p; cases p <;> simp [Same]
theorem frame_axes (x : PerAxis AxisRec) : Frame [.axes] s { s with axes := x } := by intro p; cases p <;> simp [Same]
theorem frame_mq (x : Queue) : Frame [.mq] s { s with mq := x } := by intro p; cases p <;> simp [Same]
theorem frame_fan (x : FanController) : Frame [.fan] s { s with fan := x } := by intro p; cases p <;> simp [Same]
theorem frame_prot (x : Protection) : Frame [.prot] s { s with prot := x } := by intro p; cases p <;> simp [Same]
theorem frame_port (x : PortUnit) : Frame [.port] s { s with port := x } := by intro p; cases p <;> simp [Same]
theorem frame_store (x : Store) : Frame [.store] s { s with store := x } := by intro p; cases p <;> simp [Same]
theorem frame_inputs (x : Inputs) : Frame [] s { s with inputs := x } := by intro p; cases p <;> simp [Same]
theorem frame_freeCount (n : Nat) : Frame [] s { s with freeCount := n } := by intro p; cases p <;> simp [Same]
theorem frame_round (l : List (Fin 10)) : Frame [.round] s { s with set := { s.set with round := l } } := by
  intro p; cases p <;> simp [Same]
theorem frame_record (g : GeoRecord) : Frame [.record] s { s with set := { s.set with geo := g } } := by
  intro p; cases p <;> simp [Same]
theorem frame_axisSet (g : PerAxis AxisSettings) : Frame [.axisSet] s { s with set := { s.set with axes := g } } := by
  intro p; cases p <;> simp [Same]
theorem frame_fanSet (g : PerFan FanSettings) (v : Int) (q : Bool) :
    Frame [.fanSet] s { s with set := { s.set with fans := g, slew := v, quiet := q } } := by
  intro p; cases p <;> simp [Same]
theorem frame_protSet (g : ProtSettings) : Frame [.protSet] s { s with set := { s.set with prot := g } } := by
  intro p; cases p <;> simp [Same]

theorem frame_refused (o : Option Int) : Frame [] s { s with att := { s.att with refused := o } } := by
  intro p; cases p <;> simp [Same]

/-- A write of the settings that no law but their own looks at. -/
theorem frame_restSet (g : Settings)
    (h : g.round = s.set.round ∧ g.geo = s.set.geo ∧ g.axes = s.set.axes ∧ g.fans = s.set.fans ∧ g.slew = s.set.slew
      ∧ g.quiet = s.set.quiet ∧ g.prot = s.set.prot) : Frame [.restSet] s { s with set := g } := by
  intro p; cases p <;> simp [Same, h]

end

theorem frame_raise (d : Dest) (k : EventKind) (s : State) : Frame [.port] s (raise d k s) := frame_port s _

theorem frame_setAxis (s : State) (x : Axis) (r : AxisRec) : Frame [.axes] s (s.setAxis x r) := frame_axes s _

theorem frame_setFan (s : State) (f : Fan) (r : FanRec) : Frame [.fan] s (s.setFan f r) := frame_fan s _

/-- Two changes one after the other. -/
theorem Frame.append {l m : List Part} {s t u : State} (h : Frame l s t) (k : Frame m t u) : Frame (l ++ m) s u :=
  (h.mono (List.subset_append_left l m)).trans (k.mono (List.subset_append_right l m))

/-- A change that a test can leave out. -/
theorem Frame.ite {l : List Part} {s t u : State} {c : Prop} [Decidable c] (h : Frame l s t) (k : Frame l s u) :
    Frame l s (if c then t else u) := by
  split
  · exact h
  · exact k

end Sys2Proof.Machine
end

section
/-! The table of what each command and each arrival can reach, and its proof. -/

namespace Sys2Proof.Machine

/-! ## The units' answers -/

section
variable (s : State)

theorem refuse_frame (l : List Part) (k : Status) : Frame l s (refuse s k).st := Frame.refl l s

theorem smpSetRound_frame (l : List Nat) : Frame [.round] s (smpSetRound l s).st := by
  unfold smpSetRound
  split
  · exact Frame.refl _ s
  · split
    · exact frame_round s _
    · exact Frame.refl _ s

theorem smpSetTrigger_frame (a : TriggerArgs) : Frame [.restSet, .smp] s (smpSetTrigger a s).st := by
  unfold smpSetTrigger
  split
  · exact Frame.refl _ s
  · split
    · intro p; cases p <;> simp [Same, accept, applyTrigger]
    · exact Frame.refl _ s

theorem smpSetTable_frame (a : TableArgs) : Frame [.restSet] s (smpSetTable a s).st := by
  unfold smpSetTable
  split
  · exact Frame.refl _ s
  · split
    · exact frame_restSet s { s.set with tables := _ } (by simp)
    · exact Frame.refl _ s

theorem smpSetChannel_frame (a : ChannelArgs) : Frame [.restSet] s (smpSetChannel a s).st := by
  unfold smpSetChannel
  split
  · split
    · split
      · exact frame_restSet s { s.set with tempTable := _ } (by simp)
      · exact Frame.refl _ s
    · exact Frame.refl _ s
  · split
    · split
      · exact Frame.refl _ s
      · split
        · exact frame_restSet s { s.set with angle := _ } (by simp)
        · exact Frame.refl _ s
    · exact Frame.refl _ s

theorem smpClearPeak_frame (m : Nat) : Frame [.smp] s (smpClearPeak m s).st := by
  unfold smpClearPeak
  split
  · exact frame_smp s _
  · exact Frame.refl _ s

theorem smpReadChannel_frame (n : Nat) : Frame [] s (smpReadChannel n s).st := by
  unfold smpReadChannel
  split <;> exact Frame.refl _ s

theorem setPitch_frame (app ref : Int) : Frame [.att, .restSet] s (setPitch app ref s) := by
  intro p; cases p <;> simp [Same, setPitch]

theorem captureLevel_frame (p : Port) (u : Unit) :
    Frame (.restSet :: .att :: composeParts) s (captureLevel p u s).st := by
  have hset : ∀ t app ref, Frame (.restSet :: .att :: composeParts) t (setPitch app ref t) := fun t app ref =>
    (setPitch_frame t app ref).mono (by simp)
  have hcompose : ∀ t g d, Frame (.restSet :: .att :: composeParts) t (compose g d t).1 := fun t g d =>
    (compose_frame g d t).frame.mono (by simp)
  unfold captureLevel
  split
  · exact Frame.refl _ s
  · split
    · dsimp only
      split
      · exact (hset s _ _).trans (hcompose _ _ _)
      · exact ((hset s _ _).trans (hcompose _ _ _)).trans (hset _ _ _)
    · exact Frame.refl _ s

theorem changeOrientation_frame (o : Orientation) (d : Dest) :
    Frame (.att :: composeParts) s (changeOrientation o d s) := by
  unfold changeOrientation
  exact ((((frame_att s _).mono (by simp)).trans ((frame_raise _ _ _).mono (by simp [composeParts]))).trans
    ((composeOrHold_frame d _).frame.mono (by simp))).trans ((frame_refused _ _).mono (by simp))

theorem attSetOrientation_frame (p : Port) (a : Nat) :
    Frame (.restSet :: .att :: composeParts) s (attSetOrientation p a s).st := by
  have hset : ∀ g, Frame (.restSet :: .att :: composeParts) s (setOrientation g s) := fun g q => by
    cases q <;> simp [Same, setOrientation, composeParts]
  have hname : ∀ o t, Frame (.restSet :: .att :: composeParts) t (nameOrientation p o t) := fun o t => by
    unfold nameOrientation
    split
    · exact Frame.refl _ t
    · exact (changeOrientation_frame t _ _).mono (by simp)
  unfold attSetOrientation
  split
  · exact (hset _).trans (hname _ _)
  · exact (hset _).trans (hname _ _)
  · exact hset _
  · exact Frame.refl _ s

theorem attSetParams_frame (a : AttArgs) : Frame [.restSet, .att] s (attSetParams a s).st := by
  unfold attSetParams
  dsimp only
  split
  · intro p; cases p <;> simp [Same, accept]
  · exact Frame.refl _ s

theorem tryRecord_frame (p : Port) (g : GeoRecord) (k : Status) : Frame composeParts s (tryRecord p g k s).st := by
  unfold tryRecord
  dsimp only
  split <;> exact (compose_frame _ _ s).frame

theorem geoSetCorner_frame (p : Port) (a : CornerArgs) : Frame composeParts s (geoSetCorner p a s).st := by
  unfold geoSetCorner
  split
  · exact Frame.refl _ s
  · exact tryRecord_frame s p _ _

theorem geoNudgeCorner_frame (p : Port) (a : CornerArgs) : Frame composeParts s (geoNudgeCorner p a s).st := by
  unfold geoNudgeCorner
  split
  · exact Frame.refl _ s
  · split
    · exact tryRecord_frame s p _ _
    · exact Frame.refl _ s

theorem geoSetMode_frame (p : Port) (m : Nat) : Frame composeParts s (geoSetMode p m s).st := by
  unfold geoSetMode
  split
  · exact tryRecord_frame s p _ _
  · exact tryRecord_frame s p _ _
  · exact Frame.refl _ s

theorem geoSetFollow_frame (m : Nat) : Frame [.record] s (geoSetFollow m s).st := by
  have hset : ∀ on, Frame [.record] s (setFollow on s) := fun on p => by
    cases p <;> simp only [Same, setFollow] <;> (try split) <;> simp
  unfold geoSetFollow
  split
  · exact hset _
  · exact hset _
  · exact Frame.refl _ s

theorem geoSetPanel_frame (p : Port) (a : Pt) : Frame composeParts s (geoSetPanel p a s).st := by
  unfold geoSetPanel
  split
  · exact tryRecord_frame s p _ _
  · exact Frame.refl _ s

theorem geoSetZoomTable_frame (p : Port) (l : List Nat) : Frame composeParts s (geoSetZoomTable p l s).st := by
  unfold geoSetZoomTable
  split
  · exact Frame.refl _ s
  · split
    · exact tryRecord_frame s p _ _
    · exact Frame.refl _ s

theorem rebuildIfWarped_frame : Frame [.eng, .pres] s (rebuildIfWarped s) := by
  unfold rebuildIfWarped
  split
  · exact (rebuild_frame false s).frame
  · exact Frame.refl _ s

theorem acceptEdit_frame (i j : Nat) (d : Pt) (k : Status) :
    Frame [.restSet, .eng, .pres] s (acceptEdit i j d k s).st :=
  (frame_restSet s { s.set with layer := _ } (by simp)).append (rebuildIfWarped_frame _)

theorem rangeReply_frame (l : List Part) (i j : Nat) : Frame l s (rangeReply i j s).st := by
  unfold rangeReply
  split <;> exact Frame.refl _ s

theorem editChecks_frame {l : List Part} (i j : Nat) (ok : Bool) (e : Option Comps) (edit : State → Answer)
    (h : Frame l s (edit s).st) : Frame l s (editChecks i j ok e edit s).st := by
  unfold editChecks
  split
  · split
    · exact Frame.refl _ s
    · exact h
  · exact rangeReply_frame s l i j

theorem fwSet_frame (a : EditArgs) : Frame [.restSet, .eng, .pres] s (fwSet a s).st := by
  refine editChecks_frame s _ _ _ _ _ ?_
  split
  · exact acceptEdit_frame s _ _ _ _
  · exact Frame.refl _ s

theorem fwNudge_frame (a : EditArgs) : Frame [.restSet, .eng, .pres] s (fwNudge a s).st :=
  editChecks_frame s _ _ _ _ _ (acceptEdit_frame s _ _ _ _)

theorem fwZero_frame (a : ZeroArgs) : Frame [.restSet, .eng, .pres] s (fwZero a s).st :=
  editChecks_frame s _ _ _ _ _ (acceptEdit_frame s _ _ _ _)

theorem fwZeroAll_frame (u : Unit) : Frame [.restSet, .eng, .pres] s (fwZeroAll u s).st :=
  (frame_restSet s { s.set with layer := _ } (by simp)).append (rebuildIfWarped_frame _)

theorem applyLimit_frame (n : Int) : Frame [.record, .restSet] s (applyLimit n s) := by
  intro p; cases p <;> simp [Same, applyLimit]

theorem fwSetLimit_frame (n : Nat) : Frame [.record, .restSet, .eng, .pres] s (fwSetLimit n s).st := by
  unfold fwSetLimit
  split
  · dsimp only
    split
    · exact (applyLimit_frame s _).append (rebuildIfWarped_frame _)
    · exact (applyLimit_frame s _).mono (by simp)
  · exact Frame.refl _ s

theorem fwEnable_frame (a : Nat) : Frame [.record, .eng, .pres] s (fwEnable a s).st := by
  have h : ∀ on, Frame [.record, .eng, .pres] s (rebuild false (setFineWarp on s)) := fun on =>
    (frame_record s _).append (rebuild_frame _ _).frame
  unfold fwEnable
  split
  · exact h _
  · exact h _
  · exact Frame.refl _ s

theorem fwRead_frame (j : Nat) : Frame [] s (fwRead j s).st := by
  unfold fwRead
  split <;> exact Frame.refl _ s

theorem jogCommand_frame (p : Port) (a : JogArgs) : Frame [.axes] s (jogCommand p a s).st := by
  unfold jogCommand
  split
  · exact Frame.refl _ s
  · dsimp only
    split
    · exact Frame.refl _ s
    · split
      · split
        · split
          · exact frame_axes s _
          · exact Frame.refl _ s
        · split
          · exact frame_axes s _
          · exact Frame.refl _ s
      · exact Frame.refl _ s

theorem jogEndCommand_frame (p : Port) (a : Nat) : Frame [.axes] s (jogEndCommand p a s).st := by
  unfold jogEndCommand
  split
  · exact Frame.refl _ s
  · dsimp only
    split
    · split
      · exact frame_axes s _
      · exact Frame.refl _ s
    · exact Frame.refl _ s

theorem stopCommand_frame (m : Nat) : Frame motionParts s (stopCommand m s).st := by
  unfold stopCommand
  split
  · exact Frame.refl _ s
  · exact (stopNamed_frame _ s).frame

theorem axisSetParams_frame (a : AxisArgs) : Frame (.axisSet :: motionParts) s (axisSetParams a s).st := by
  have hset : ∀ x g, Frame (.axisSet :: motionParts) s (replaceAxisSettings x g s) := fun x g => by
    unfold replaceAxisSettings
    dsimp only
    split
    · exact ((((frame_axisSet s _).append (frame_axes _ _)).append (settleQueue_frame _).frame)).mono
        (by simp [motionParts])
    · exact (frame_axisSet s _).mono (by simp)
  unfold axisSetParams
  split
  · split
    · split
      · exact Frame.refl _ s
      · exact hset _ _
    · exact Frame.refl _ s
  · exact Frame.refl _ s

theorem axisSetJog_frame (n : Nat) : Frame [.restSet] s (axisSetJog n s).st := by
  unfold axisSetJog
  split
  · exact frame_restSet s { s.set with jogTimeout := _ } (by simp)
  · exact Frame.refl _ s

theorem axisReadParams_frame (a : Nat) : Frame [] s (axisReadParams a s).st := by
  unfold axisReadParams
  split <;> exact Frame.refl _ s

theorem mqMove_frame (p : Port) (a : MoveArgs) : Frame motionParts s (mqMove p a s).st := by
  unfold mqMove
  dsimp only
  split
  · exact (tryEnqueue_frame _ _ s).frame
  · exact Frame.refl _ s

theorem mqStep_frame (p : Port) (a : MoveArgs) : Frame motionParts s (mqStep p a s).st := by
  unfold mqStep
  dsimp only
  split
  · exact (tryEnqueue_frame _ _ s).frame
  · exact Frame.refl _ s

theorem mqHome_frame (p : Port) (a : TaggedArgs) : Frame motionParts s (mqHome p a s).st := by
  unfold mqHome
  split
  · exact (tryEnqueue_frame _ _ s).frame
  · exact Frame.refl _ s

theorem mqRecall_frame (p : Port) (a : TaggedArgs) : Frame motionParts s (mqRecall p a s).st := by
  unfold mqRecall
  split
  · exact (tryEnqueue_frame _ _ s).frame
  · exact Frame.refl _ s

theorem flushCommand_frame (p : Port) (u : Unit) : Frame motionParts s (flushCommand p u s).st :=
  ((frame_mq s _).mono (by simp [motionParts])).trans (dispatchPass_frame _ _).frame

theorem setSlot_frame (i : Nat) (o : Option SlotRec) : Frame [.restSet] s (setSlot i o s) :=
  frame_restSet s { s.set with slots := _ } (by simp)

theorem memSave_frame (a : SaveArgs) : Frame [.restSet] s (memSave a s).st := by
  unfold memSave
  split
  · exact Frame.refl _ s
  · split
    · exact Frame.refl _ s
    · split
      · exact Frame.refl _ s
      · split
        · exact Frame.refl _ s
        · exact setSlot_frame s _ _

theorem memDelete_frame (i : Nat) : Frame [.restSet] s (memDelete i s).st := by
  unfold memDelete
  split
  · exact Frame.refl _ s
  · exact setSlot_frame s _ _

theorem memRead_frame (i : Nat) : Frame [] s (memRead i s).st := by
  unfold memRead
  split <;> exact Frame.refl _ s

theorem memSetPoweron_frame (v : Nat) : Frame [.restSet] s (memSetPoweron v s).st := by
  unfold memSetPoweron
  split
  · exact frame_restSet s { s.set with powerOn := _ } (by simp)
  · split
    · exact frame_restSet s { s.set with powerOn := _ } (by simp)
    · exact Frame.refl _ s

theorem fcSet_frame (a : FcArgs) : Frame (.restSet :: motionParts) s (fcSet a s).st := by
  unfold fcSet
  split
  · exact Frame.refl _ s
  · rename_i g _
    have hset : Frame (.restSet :: motionParts) s { s with set := { s.set with fc := g } } :=
      (frame_restSet s { s.set with fc := g } (by simp)).mono (by simp)
    split
    · dsimp only
      split
      · exact hset
      · exact hset.trans (((frame_mq _ _).mono (by simp [motionParts])).trans
          ((dispatchPass_frame _ _).frame.mono (by simp)))
    · exact Frame.refl _ s

theorem fanSetQuiet_frame (a : Nat) : Frame [.fanSet, .fan] s (fanSetQuiet a s).st := by
  have hset : ∀ q, Frame [.fanSet, .fan] s { s with set := { s.set with quiet := q } } := fun q =>
    (frame_fanSet s s.set.fans s.set.slew q).mono (by simp)
  unfold fanSetQuiet
  split
  · exact hset _
  · exact (hset _).trans ((frame_fan _ _).mono (by simp))
  · exact Frame.refl _ s

theorem fanClear_frame (m : Nat) : Frame [.fan] s (fanClear m s).st := by
  unfold fanClear
  split
  · exact frame_fan s _
  · exact Frame.refl _ s

theorem setFanSettings_frame (f : Fan) (g : FanSettings) : Frame [.fanSet] s (setFanSettings f g s) :=
  frame_fanSet s _ s.set.slew s.set.quiet

theorem fanSetCurve_frame (a : CurveArgs) : Frame [.fanSet] s (fanSetCurve a s).st := by
  unfold fanSetCurve
  split
  · exact Frame.refl _ s
  · split
    · exact setFanSettings_frame s _ _
    · exact Frame.refl _ s

theorem fanSetBinding_frame (a : BindingArgs) : Frame [.fanSet] s (fanSetBinding a s).st := by
  unfold fanSetBinding
  split
  · exact Frame.refl _ s
  · split
    · exact setFanSettings_frame s _ _
    · exact Frame.refl _ s

theorem fanSetParams_frame (a : FanArgs) : Frame [.fanSet, .fan] s (fanSetParams a s).st := by
  unfold fanSetParams
  split
  · exact Frame.refl _ s
  · split
    · exact (setFanSettings_frame s _ _).append (frame_setFan _ _ _)
    · exact Frame.refl _ s

theorem fanSetOffsets_frame (a : OffsetArgs) : Frame [.restSet] s (fanSetOffsets a s).st := by
  unfold fanSetOffsets
  split
  · exact frame_restSet s { s.set with offsets := _ } (by simp)
  · exact Frame.refl _ s

theorem fanSetSlew_frame (v : Int) : Frame [.fanSet] s (fanSetSlew v s).st := by
  unfold fanSetSlew
  split
  · exact frame_fanSet s s.set.fans v s.set.quiet
  · exact Frame.refl _ s

theorem phaseLeft_frame (r : FanRec) : Frame [] s (phaseLeft r s).2 := by
  unfold phaseLeft
  split
  · exact Frame.refl _ s
  · exact frame_freeCount s _

theorem fanStatus_frame (u : Unit) : Frame [] s (fanStatus u s).st :=
  ((phaseLeft_frame s _).trans (phaseLeft_frame _ _)).trans (phaseLeft_frame _ _)

theorem fanReadSettings_frame (a : Nat) : Frame [] s (fanReadSettings a s).st := by
  unfold fanReadSettings
  split <;> exact Frame.refl _ s

theorem requestLight_frame (on : Bool) : Frame [.prot] s (requestLight on s) := by
  unfold requestLight
  split
  · exact Frame.refl _ s
  · exact frame_prot s _

theorem lightCommand_frame (a : Nat) : Frame [.prot] s (lightCommand a s).st := by
  unfold lightCommand
  split
  · exact requestLight_frame s _
  · exact requestLight_frame s _
  · exact Frame.refl _ s

theorem clearTripCommand_frame (u : Unit) : Frame [.prot] s (clearTripCommand u s).st := by
  unfold clearTripCommand
  split
  · exact Frame.refl _ s
  · split
    · exact Frame.refl _ s
    · exact frame_prot s _

theorem setAllowance_parts (a : Int) : Frame [.prot, .port] s (setAllowance a s) := by
  obtain ⟨u, hu⟩ := setAllowance_frame a s
  rw [hu]
  intro p; cases p <;> simp [Same]

theorem protSetParams_frame (a : ProtArgs) : Frame [.protSet, .prot, .port] s (protSetParams a s).st := by
  have hlift : ∀ t, Frame [.prot, .port] t (liftToFloor t) := fun t => by
    unfold liftToFloor
    split
    · exact setAllowance_parts t _
    · exact Frame.refl _ t
  unfold protSetParams
  split
  · exact (frame_protSet s _).append (hlift _)
  · exact Frame.refl _ s

theorem protSetThresholds_frame (a : ThresholdArgs) : Frame [.restSet] s (protSetThresholds a s).st := by
  unfold protSetThresholds
  split
  · exact frame_restSet s { s.set with thresholds := _ } (by simp)
  · exact Frame.refl _ s

theorem protStatus_frame (u : Unit) : Frame [] s (protStatus u s).st := by
  unfold protStatus
  split
  · exact Frame.refl _ s
  · exact frame_freeCount s _

theorem setEventMask_frame (p : Port) (m : Nat) : Frame [.port] s (setEventMask p m s).st := by
  unfold setEventMask
  split
  · exact frame_port s _
  · exact Frame.refl _ s

theorem setRights_frame (m : Nat) : Frame [.restSet] s (setRights m s).st := by
  unfold setRights
  split
  · exact frame_restSet s { s.set with rights := _ } (by simp)
  · exact Frame.refl _ s

theorem saveSettings_frame (p : Port) (u : Unit) : Frame [.store] s (saveSettings p u s).st := by
  unfold saveSettings
  split
  · exact Frame.refl _ s
  all_goals exact frame_store s _

theorem storeStatus_frame (u : Unit) : Frame [] s (storeStatus u s).st := by
  unfold storeStatus
  split
  · exact frame_freeCount s _
  all_goals exact Frame.refl _ s

theorem setAutohome_frame (a : Nat) : Frame [.restSet] s (setAutohome a s).st := by
  unfold setAutohome
  split
  · exact frame_restSet s { s.set with autoHome := _ } (by simp)
  · exact frame_restSet s { s.set with autoHome := _ } (by simp)
  · exact Frame.refl _ s

end

/-- The parts that the answer of a command's unit can reach. -/
def reach : Instr → List Part
  | .smpSetRound _ _ => [.round]
  | .smpSetTrigger _ _ => [.restSet, .smp]
  | .smpSetTable _ _ | .smpSetChannel _ _ | .axisSetJog _ _ | .memSave _ _ | .memDelete _ _ | .memSetPoweron _ _
  | .fanSetOffsets _ _ | .protSetThresholds _ _ | .setRights _ _ | .setAutohome _ _ => [.restSet]
  | .smpClearPeak _ _ | .smpStatus _ _ => [.smp]
  | .captureLevel _ _ | .attSetOrientation _ _ => .restSet :: .att :: composeParts
  | .attSetParams _ _ => [.restSet, .att]
  | .geoSetCorner _ _ | .geoSetCorners _ _ | .geoNudgeCorner _ _ | .geoZeroCorners _ _ | .geoSetMode _ _
  | .geoSetPanel _ _ | .geoSetZoomTable _ _ => composeParts
  | .geoSetFollow _ _ => [.record]
  | .geoClearClip _ _ => [.geo]
  | .fwSet _ _ | .fwNudge _ _ | .fwZero _ _ | .fwZeroAll _ _ => [.restSet, .eng, .pres]
  | .fwSetLimit _ _ => [.record, .restSet, .eng, .pres]
  | .fwEnable _ _ => [.record, .eng, .pres]
  | .jog _ _ | .jogEnd _ _ => [.axes]
  | .stop _ _ | .mqMove _ _ | .mqStep _ _ | .mqHome _ _ | .mqRecall _ _ | .flush _ _ => motionParts
  | .axisSetParams _ _ => .axisSet :: motionParts
  | .mqOutcomes _ _ => [.mq]
  | .fcSet _ _ => .restSet :: motionParts
  | .fanSetQuiet _ _ | .fanSetParams _ _ => [.fanSet, .fan]
  | .fanClear _ _ => [.fan]
  | .fanSetCurve _ _ | .fanSetBinding _ _ | .fanSetSlew _ _ => [.fanSet]
  | .light _ _ | .clearTrip _ _ => [.prot]
  | .protSetParams _ _ => [.protSet, .prot, .port]
  | .readEvents _ _ | .setEventMask _ _ => [.port]
  | .saveSettings _ _ => [.store]
  | _ => []

/-- A command reaches no other part than the table says. -/
theorem answerOf_frame (i : Instr) (s : State) : Frame (reach i) s (answerOf i s).st := by
  cases i
  case smpSetRound v => cases v <;> [exact smpSetRound_frame s _; exact Frame.refl _ s]
  case smpSetTrigger v => cases v <;> [exact smpSetTrigger_frame s _; exact Frame.refl _ s]
  case smpSetTable v => cases v <;> [exact smpSetTable_frame s _; exact Frame.refl _ s]
  case smpSetChannel v => cases v <;> [exact smpSetChannel_frame s _; exact Frame.refl _ s]
  case smpClearPeak v => cases v <;> [exact smpClearPeak_frame s _; exact Frame.refl _ s]
  case smpReadChannel v => cases v <;> [exact smpReadChannel_frame s _; exact Frame.refl _ s]
  case smpStatus v => cases v <;> [exact frame_smp s _; exact Frame.refl _ s]
  case captureLevel v => cases v <;> [exact captureLevel_frame s _ (); exact Frame.refl _ s]
  case attSetOrientation v => cases v <;> [exact attSetOrientation_frame s _ _; exact Frame.refl _ s]
  case attSetParams v => cases v <;> [exact attSetParams_frame s _; exact Frame.refl _ s]
  case geoSetCorner v => cases v <;> [exact geoSetCorner_frame s _ _; exact Frame.refl _ s]
  case geoSetCorners v => cases v <;> [exact tryRecord_frame s _ _ _; exact Frame.refl _ s]
  case geoNudgeCorner v => cases v <;> [exact geoNudgeCorner_frame s _ _; exact Frame.refl _ s]
  case geoZeroCorners v => cases v <;> [exact tryRecord_frame s _ _ _; exact Frame.refl _ s]
  case geoSetMode v => cases v <;> [exact geoSetMode_frame s _ _; exact Frame.refl _ s]
  case geoSetFollow v => cases v <;> [exact geoSetFollow_frame s _; exact Frame.refl _ s]
  case geoSetPanel v => cases v <;> [exact geoSetPanel_frame s _ _; exact Frame.refl _ s]
  case geoSetZoomTable v => cases v <;> [exact geoSetZoomTable_frame s _ _; exact Frame.refl _ s]
  case geoClearClip v => cases v <;> [exact frame_geo s _; exact Frame.refl _ s]
  case fwSet v => cases v <;> [exact fwSet_frame s _; exact rangeReply_frame s _ _ _; exact Frame.refl _ s]
  case fwNudge v => cases v <;> [exact fwNudge_frame s _; exact rangeReply_frame s _ _ _; exact Frame.refl _ s]
  case fwZero v => cases v <;> [exact fwZero_frame s _; exact rangeReply_frame s _ _ _; exact Frame.refl _ s]
  case fwZeroAll v => cases v <;> [exact fwZeroAll_frame s (); exact Frame.refl _ s]
  case fwSetLimit v => cases v <;> [exact fwSetLimit_frame s _; exact Frame.refl _ s]
  case fwEnable v => cases v <;> [exact fwEnable_frame s _; exact Frame.refl _ s]
  case fwRead v => cases v <;> [exact fwRead_frame s _; exact Frame.refl _ s]
  case jog v => cases v <;> [exact jogCommand_frame s _ _; exact Frame.refl _ s]
  case jogEnd v => cases v <;> [exact jogEndCommand_frame s _ _; exact Frame.refl _ s]
  case stop v => cases v <;> [exact stopCommand_frame s _; exact Frame.refl _ s]
  case axisSetParams v => cases v <;> [exact axisSetParams_frame s _; exact Frame.refl _ s]
  case axisSetJog v => cases v <;> [exact axisSetJog_frame s _; exact Frame.refl _ s]
  case axisReadParams v => cases v <;> [exact axisReadParams_frame s _; exact Frame.refl _ s]
  case mqMove v => cases v <;> [exact mqMove_frame s _ _; exact Frame.refl _ s]
  case mqStep v => cases v <;> [exact mqStep_frame s _ _; exact Frame.refl _ s]
  case mqHome v => cases v <;> [exact mqHome_frame s _ _; exact Frame.refl _ s]
  case mqRecall v => cases v <;> [exact mqRecall_frame s _ _; exact Frame.refl _ s]
  case flush v => cases v <;> [exact flushCommand_frame s _ (); exact Frame.refl _ s]
  case mqOutcomes v => cases v <;> [exact frame_mq s _; exact Frame.refl _ s]
  case memSave v => cases v <;> [exact memSave_frame s _; exact Frame.refl _ s]
  case memDelete v => cases v <;> [exact memDelete_frame s _; exact Frame.refl _ s]
  case memRead v => cases v <;> [exact memRead_frame s _; exact Frame.refl _ s]
  case memSetPoweron v => cases v <;> [exact memSetPoweron_frame s _; exact Frame.refl _ s]
  case fcSet v => cases v <;> [exact fcSet_frame s _; exact Frame.refl _ s]
  case fanSetQuiet v => cases v <;> [exact fanSetQuiet_frame s _; exact Frame.refl _ s]
  case fanClear v => cases v <;> [exact fanClear_frame s _; exact Frame.refl _ s]
  case fanSetCurve v => cases v <;> [exact fanSetCurve_frame s _; exact Frame.refl _ s]
  case fanSetBinding v => cases v <;> [exact fanSetBinding_frame s _; exact Frame.refl _ s]
  case fanSetParams v => cases v <;> [exact fanSetParams_frame s _; exact Frame.refl _ s]
  case fanSetOffsets v => cases v <;> [exact fanSetOffsets_frame s _; exact Frame.refl _ s]
  case fanSetSlew v => cases v <;> [exact fanSetSlew_frame s _; exact Frame.refl _ s]
  case fanStatus v => cases v <;> [exact fanStatus_frame s (); exact Frame.refl _ s]
  case fanReadSettings v => cases v <;> [exact fanReadSettings_frame s _; exact Frame.refl _ s]
  case light v => cases v <;> [exact lightCommand_frame s _; exact Frame.refl _ s]
  case clearTrip v => cases v <;> [exact clearTripCommand_frame s (); exact Frame.refl _ s]
  case protSetParams v => cases v <;> [exact protSetParams_frame s _; exact Frame.refl _ s]
  case protSetThresholds v => cases v <;> [exact protSetThresholds_frame s _; exact Frame.refl _ s]
  case protStatus v => cases v <;> [exact protStatus_frame s (); exact Frame.refl _ s]
  case readEvents v => cases v <;> [exact frame_port s _; exact Frame.refl _ s]
  case setEventMask v => cases v <;> [exact setEventMask_frame s _ _; exact Frame.refl _ s]
  case setRights v => cases v <;> [exact setRights_frame s _; exact Frame.refl _ s]
  case saveSettings v => cases v <;> [exact saveSettings_frame s _ (); exact Frame.refl _ s]
  case storeStatus v => cases v <;> [exact storeStatus_frame s (); exact Frame.refl _ s]
  case setAutohome v => cases v <;> [exact setAutohome_frame s _; exact Frame.refl _ s]
  case attStatus v | geoStatus v | meshStatus v | axisStatus v | mqStatus v | fcStatus v | protReadSettings v | ident v
     | portStatus v => cases v <;> exact Frame.refl _ s
  all_goals exact Frame.refl _ s

end Sys2Proof.Machine
end

section
/-! The table of what each arrival can reach, but for the resets and the load completion, which reach every part. -/

namespace Sys2Proof.Machine

section
variable (s : State)

/-! ## Sampling and attitude -/

theorem roundTrigger_frame : Frame [.smp] s (roundTrigger s) := by
  unfold roundTrigger
  split <;> exact frame_smp s _

theorem qualified_frame : Frame [.smp] s (qualified s) := by
  unfold qualified
  split
  · exact frame_smp s _
  · split
    · exact roundTrigger_frame s
    · exact frame_smp s _

theorem countFrameStart_frame : Frame [.smp] s (countFrameStart s) := by
  unfold countFrameStart
  split
  · exact (frame_smp s { s.smp with divCount := 0 }).trans (qualified_frame _)
  · exact frame_smp s _

theorem frameToSampling_frame : Frame [.smp] s (frameToSampling s) := by
  have hv : Frame [.smp] s { s with smp := { s.smp with video := true } } := frame_smp s _
  unfold frameToSampling
  dsimp only
  split
  · exact hv
  · exact (hv.trans (frame_smp _ _)).trans (countFrameStart_frame _)
  · exact hv.trans (countFrameStart_frame _)

theorem frameStart_frame : Frame [.smp, .eng, .pres] s (frameStart s) := by
  unfold frameStart
  split
  · exact Frame.refl _ s
  · exact (frameToSampling_frame s).append
      (((frame_pres _ _).mono (by simp)).trans (trySwap_frame _).frame)

theorem delayExpired_frame : Frame [.smp] s (delayExpired s) := by
  unfold delayExpired
  split
  · exact (frame_smp s { s.smp with delayRunning := false }).trans (roundTrigger_frame _)
  · exact Frame.refl _ s

theorem periodExpired_frame : Frame [.smp] s (periodExpired s) := by
  unfold periodExpired
  split
  · exact Frame.refl _ s
  · split
    · exact roundTrigger_frame s
    · exact Frame.refl _ s

theorem smpVideoExpired_frame : Frame [.smp] s (smpVideoExpired s) := by
  unfold smpVideoExpired
  split
  · have hv : Frame [.smp] s { s with smp := { s.smp with video := false } } := frame_smp s _
    dsimp only
    split
    · exact hv.trans (frame_smp _ _)
    · exact hv
    · exact hv
  · exact Frame.refl _ s

theorem follow_frame (f : Int) : Frame (.att :: composeParts) s (follow f s) := by
  have hp : Frame (.att :: composeParts) s (setPitch f s.set.pRef s) :=
    (frame_att s { s.att with pApp := f }).mono (by simp)
  have hc : Frame (.att :: composeParts) s (compose s.set.geo .both (setPitch f s.set.pRef s)).1 :=
    hp.trans ((compose_frame _ _ _).frame.mono (by simp))
  unfold follow
  dsimp only
  split
  · exact hc
  · rename_i hr
    obtain ⟨k, u, hk⟩ : ∃ k u, (compose s.set.geo .both (setPitch f s.set.pRef s)).1 =
        { setPitch f s.set.pRef s with geo := { s.geo with clip := k }, port := u } := by
      cases h : shapeOk s.set.geo.width s.set.geo.height (candidate s.set.geo (setPitch f s.set.pRef s)).corners with
      | true => exact absurd (compose_accepted _ _ _ h).1 hr
      | false => exact (compose_refused _ _ _ h).2
    rw [hk]
    intro p; cases p <;> simp [Same, composeParts, raise, setPitch]

theorem followDecision_frame (f : Int) : Frame (.att :: composeParts) s (followDecision f s) := by
  unfold followDecision
  split
  · exact (frame_att s _).mono (by simp)
  · split
    · exact follow_frame s f
    · exact Frame.refl _ s

theorem detectOrientation_frame (f : Int) : Frame (.att :: composeParts) s (detectOrientation f s) := by
  have ha : ∀ x, Frame (.att :: composeParts) s { s with att := x } := fun x => (frame_att s x).mono (by simp)
  unfold detectOrientation
  split
  · exact ha _
  · split
    · exact ha _
    · split
      · exact (ha _).trans (changeOrientation_frame _ _ _)
      · exact ha _

theorem rollTest_frame (f : Int) : Frame (.att :: composeParts) s (rollTest f s) := by
  have ha : ∀ x, Frame (.att :: composeParts) s { s with att := x } := fun x => (frame_att s x).mono (by simp)
  unfold rollTest
  split
  · split
    · exact ha _
    · exact Frame.refl _ s
  · split
    · exact (ha _).trans ((frame_raise _ _ _).mono (by simp [composeParts]))
    · exact Frame.refl _ s

theorem angleDecision_frame (c : AngleCh) : Frame (.att :: composeParts) s (angleDecision c s) := by
  unfold angleDecision
  split
  · exact Frame.refl _ s
  · split <;> split <;>
      first
        | exact Frame.refl _ s
        | exact followDecision_frame s _
        | exact rollTest_frame s _
        | exact detectOrientation_frame s _

theorem offerAngle_frame (c : AngleCh) (v : Int) : Frame (.att :: composeParts) s (offerAngle c v s) := by
  unfold offerAngle
  split
  · exact Frame.refl _ s
  · exact ((frame_att s _).mono (by simp)).trans (angleDecision_frame _ c)

theorem handAccepted_frame (k : Fin 10) (o : Option Int) : Frame (.att :: motionParts) s (handAccepted k o s) := by
  unfold handAccepted
  split
  · exact (offerAngle_frame s _ _).mono (by simp [motionParts, composeParts])
  · split
    · exact (evaluateComp_frame _ s).frame.mono (by simp)
    · exact Frame.refl _ s
  · exact Frame.refl _ s

theorem handFault_frame (k : Fin 10) : Frame [.att, .port] s (handFault k s) := by
  have hr : Frame [.att, .port] s (raise .both .sensorFault s) := (frame_raise _ _ s).mono (by simp)
  unfold handFault
  dsimp only
  split
  · exact hr.trans ((frame_att _ _).mono (by simp))
  · exact hr

theorem judgeStartup_frame : Frame [.prot] s (judgeStartup s) := by
  unfold judgeStartup
  split
  · exact Frame.refl _ s
  · split
    · exact frame_prot s _
    · exact Frame.refl _ s

theorem handValidity_frame (k : Fin 10) (v w : Validity) : Frame [.prot] s (handValidity k v w s) := by
  unfold handValidity
  split
  · split
    · exact Frame.refl _ s
    · exact judgeStartup_frame s
  · exact Frame.refl _ s

/-- The record of a channel takes a value. -/
def putRecord (k : Fin 10) (r : ChannelRec) : State :=
  { s with smp := { s.smp with records := s.smp.records.set k r } }

/-- What a judged sample is handed on to (01 R15). -/
def handOn (k : Fin 10) (q : ChannelRec × Judgement) : State :=
  match q.2 with
  | .accepted => handAccepted k q.1.filtered s
  | .discarded => s
  | .enteredFault => handFault k s

theorem deliverCode_eq (k : Fin 10) (code : Nat) :
    deliverCode k code s =
      let q := takeSample (acceptCode s k code) code (s.smp.records.get k)
      handValidity k (s.smp.records.get k).validity q.1.validity (handOn (putRecord s k q.1) k q) := rfl

theorem handOn_frame (k : Fin 10) (q : ChannelRec × Judgement) : Frame (.att :: motionParts) s (handOn s k q) := by
  unfold handOn
  split
  · exact handAccepted_frame s _ _
  · exact Frame.refl _ _
  · exact (handFault_frame s _).mono (by simp [motionParts, composeParts])

theorem endConversion_frame (rest : List (Fin 10)) : Frame [.smp] s (endConversion rest s) := by
  unfold endConversion
  split <;> exact frame_smp s _

/-- What a conversion can reach. -/
def conversionParts : List Part := .smp :: .prot :: .att :: motionParts

theorem conversionCompleted_frame (code : Nat) : Frame conversionParts s (conversionCompleted code s) := by
  have hsmp : ∀ (t : State) x, Frame conversionParts t { t with smp := x } := fun t x =>
    (frame_smp t x).mono (by simp [conversionParts])
  unfold conversionCompleted
  split
  · exact Frame.refl _ s
  · rename_i k rest _
    have hd : Frame conversionParts s (deliverCode k (code % 4096) s) := by
      rw [deliverCode_eq]
      dsimp only
      generalize takeSample (acceptCode s k (code % 4096)) (code % 4096) (s.smp.records.get k) = q
      have hput : Frame conversionParts s (putRecord s k q.1) := hsmp s _
      exact (hput.trans ((handOn_frame _ k q).mono (by simp [conversionParts]))).trans
        ((handValidity_frame _ _ _ _).mono (by simp [conversionParts]))
    exact hd.trans ((endConversion_frame _ rest).mono (by simp [conversionParts]))

/-! ## Mesh Engine and Mesh Port -/

theorem reportClip_parts (w : ClipWatch) (d : Dest) : Frame [.geo, .port] s (reportClip w d s) := by
  obtain ⟨c, u, h⟩ := reportClip_frame w d s
  rw [h]
  intro p; cases p <;> simp [Same]

/-- What the completion of a computation can reach. -/
def completionParts : List Part := [.geo, .eng, .pres, .port]

theorem finishComputation_frame (i : BankId) : Frame completionParts s (finishComputation i s) := by
  have h : ∀ e u, Frame completionParts s { s with eng := e, pres := u } := fun e u p => by
    cases p <;> simp [Same, completionParts]
  unfold finishComputation
  dsimp only
  split
  · exact h _ _
  · exact (h _ _).trans ((trySwap_frame _).frame.mono (by simp [completionParts]))

/-- A finished computation has put its mesh, with its panel size and its dirty rows, into the build bank (04 R69). -/
def meshStored (i : BankId) (snap : Snapshot) : State :=
  { s with
    pres := { s.pres with banks := s.pres.banks.set i { s.pres.banks.get i with
      mesh := meshOf snap, width := snap.width, height := snap.height,
      dirty := dirtyRows (meshOf snap) (liveMesh s.pres.banks) } },
    eng := { s.eng with clampCount := clampCountOf snap } }

/-- The first clamp of a computation goes to the clip watch (04 R57; 03 R45). -/
def reportVertexClip (snap : Snapshot) : State :=
  match firstVertexClamp snap with
  | none => s
  | some t => reportClip (.vertex t.1 t.2.1 t.2.2) .both s

/-- A computation starts again in its bank (04 R71). -/
def restartComputation (i : BankId) : State :=
  beginComputation i { s with eng := { s.eng with pendingReq := false, restarts := s.eng.restarts + 1 } }

theorem completeComputation_eq (i : BankId) (snap : Snapshot) :
    completeComputation i snap s =
      let t := reportVertexClip (meshStored s i snap) snap
      if t.eng.pendingReq && decide (t.eng.restarts < 3) then restartComputation t i else finishComputation i t := rfl

theorem reportVertexClip_parts (snap : Snapshot) : Frame [.geo, .port] s (reportVertexClip s snap) := by
  unfold reportVertexClip
  split
  · exact Frame.refl _ s
  · exact reportClip_parts s _ _

theorem completeComputation_frame (i : BankId) (snap : Snapshot) :
    Frame completionParts s (completeComputation i snap s) := by
  have hstored : Frame completionParts s (meshStored s i snap) := fun p => by
    cases p <;> simp [Same, completionParts, meshStored]
  have hclip := hstored.trans ((reportVertexClip_parts _ snap).mono (by simp [completionParts]))
  rw [completeComputation_eq]
  dsimp only
  split
  · exact hclip.trans ((frame_eng _ _).mono (by simp [completionParts]))
  · exact hclip.trans (finishComputation_frame _ i)

theorem computationCompleted_frame : Frame completionParts s (computationCompleted s) := by
  unfold computationCompleted
  split
  · exact Frame.refl _ s
  · exact completeComputation_frame s _ _

theorem presVideoExpired_frame : Frame [.eng, .pres] s (presVideoExpired s) := by
  unfold presVideoExpired
  split
  · exact ((frame_pres s _).mono (by simp)).trans (trySwap_frame _).frame
  · exact Frame.refl _ s

theorem takeMesh_frame (n : Nat) (l : List Byte) : Frame [.pres] s (takeMesh n l s) := frame_pres s _

theorem ignoreMesh_frame : Frame [.pres] s (ignoreMesh s) := by
  unfold ignoreMesh
  split
  · exact frame_pres s _
  · exact Frame.refl _ s

theorem mpStatus_frame : Frame [.pres] s (mpStatus s) := by
  unfold mpStatus
  split
  · exact frame_pres s _
  · exact ignoreMesh_frame s

theorem beginRead_frame : Frame [.pres] s (beginRead s) := by
  unfold beginRead
  split
  · exact Frame.refl _ s
  · exact frame_pres s _

theorem mpReadRows_frame (v : Params ReadArgs) : Frame [.pres] s (mpReadRows v s) := by
  unfold mpReadRows
  split
  · dsimp only
    split <;> exact (beginRead_frame s).trans (takeMesh_frame _ _ _)
  · exact ignoreMesh_frame s

theorem selectFormat_frame (f : Format) : Frame [.eng, .pres] s (selectFormat f s) := by
  have hp : Frame [.eng, .pres] s { s with pres := { s.pres with selected := f } } := (frame_pres s _).mono (by simp)
  unfold selectFormat
  dsimp only
  split
  · exact hp.trans ((frame_eng _ _).mono (by simp))
  · exact hp.trans (rebuild_frame _ _).frame

theorem mpSetFormat_frame (v : Params Nat) : Frame [.eng, .pres] s (mpSetFormat v s) := by
  have ht : ∀ t n l, Frame [.eng, .pres] t (takeMesh n l t) := fun t n l => (takeMesh_frame t n l).mono (by simp)
  unfold mpSetFormat
  split
  · split
    · exact ht _ _ _
    · exact (selectFormat_frame s _).trans (ht _ _ _)
    · exact (selectFormat_frame s _).trans (ht _ _ _)
    · exact ht _ _ _
  · exact (ignoreMesh_frame s).mono (by simp)

theorem mpUnknown_frame (b : Byte) : Frame [.pres] s (mpUnknown b s) := by
  unfold mpUnknown
  split
  · exact takeMesh_frame s _ _
  · exact ignoreMesh_frame s

theorem endRead_frame : Frame [.eng, .pres] s (endRead s) := by
  have hp : ∀ u, Frame [.eng, .pres] s { s with pres := u } := fun u => (frame_pres s u).mono (by simp)
  unfold endRead
  split
  · exact Frame.refl _ _
  · dsimp only
    split
    · exact hp _
    · exact (hp _).trans (trySwap_frame _).frame

theorem mcsnReleased_frame : Frame [.eng, .pres] s (mcsnReleased s) :=
  ((frame_pres s { s.pres with trans := .none, miso := [] }).mono (by simp)).trans (endRead_frame _)

/-! ## Axes -/

theorem homeTimedOut_parts (x : Axis) : Frame motionParts s (homeTimedOut x s) := (homeTimedOut_frame x s).frame

theorem stepIssued_frame (x : Axis) (d : StepDir) : Frame motionParts s (stepIssued x d s) := by
  have ha : ∀ r, Frame motionParts s (s.setAxis x r) := fun r => (frame_setAxis s x r).mono (by simp [motionParts])
  unfold stepIssued
  dsimp only
  split
  · exact ha _
  · exact ha _
  · split
    · split
      · exact homeTimedOut_parts s x
      · exact ha _
    · exact Frame.refl _ s
  · exact Frame.refl _ s

theorem legEnded_frame (x : Axis) : Frame [.axes] s (legEnded x s) := by
  unfold legEnded
  dsimp only
  split
  · split
    · exact frame_axes s _
    · exact Frame.refl _ s
  · split
    · exact frame_axes s _
    · exact Frame.refl _ s
  · exact Frame.refl _ s

theorem stopDecelerationEnded_frame (x : Axis) : Frame [.axes] s (stopDecelerationEnded x s) := by
  unfold stopDecelerationEnded
  dsimp only
  split
  · split
    · exact frame_axes s _
    · exact Frame.refl _ s
  · exact Frame.refl _ s

theorem settleExpired_frame (x : Axis) : Frame motionParts s (settleExpired x s) := by
  unfold settleExpired
  dsimp only
  split
  · have hidle : Frame motionParts s (s.setAxis x { s.axes.get x with state := .idle }) :=
      (frame_setAxis s x _).mono (by simp [motionParts])
    refine (hidle.trans ?_).trans (settleQueue_frame _).frame
    split
    · exact (zoomSettle_frame _).toMotion.frame
    · exact Frame.refl _ _
  · exact Frame.refl _ s

theorem homeEdge_frame (x : Axis) : Frame [.axes] s (homeEdge x s) := by
  have hi : ∀ u, Frame [.axes] s { s with inputs := u } := fun u => (frame_inputs s u).mono (by simp)
  unfold homeEdge
  dsimp only
  split
  · exact Frame.refl _ s
  · split
    · exact (hi _).trans (frame_setAxis _ _ _)
    · exact (hi _).trans (frame_setAxis _ _ _)
    · exact hi _

theorem homeTimeout_frame (x : Axis) : Frame motionParts s (homeTimeout x s) := by
  unfold homeTimeout
  dsimp only
  split
  · split
    · exact homeTimedOut_parts s x
    · exact Frame.refl _ s
  · exact Frame.refl _ s

theorem indexEdge_frame (x : Axis) : Frame motionParts s (indexEdge x s) := by
  have hi : ∀ u, Frame motionParts s { s with inputs := u } := fun u => (frame_inputs s u).mono (by simp)
  unfold indexEdge
  dsimp only
  split
  · exact Frame.refl _ s
  · split
    · exact (hi _).trans (((frame_setAxis _ _ _).mono (by simp [motionParts])).trans (partFailed_frame _ _).frame)
    · exact hi _

theorem mdfltActivated_frame : Frame motionParts s (mdfltActivated s) := by
  have hi : ∀ u, Frame motionParts s { s with inputs := u } := fun u => (frame_inputs s u).mono (by simp)
  unfold mdfltActivated
  split
  · exact Frame.refl _ s
  · dsimp only
    split
    · exact hi _
    · exact (hi _).trans (driverFault_frame _).frame

theorem mdfltDeasserted_frame : Frame [] s (mdfltDeasserted s) := by
  unfold mdfltDeasserted
  split
  · exact Frame.refl _ s
  · exact frame_inputs s _

theorem jogLimitReached_frame (x : Axis) : Frame [.axes] s (jogLimitReached x s) := by
  unfold jogLimitReached
  dsimp only
  split
  · split
    · exact frame_axes s _
    · exact Frame.refl _ s
  · exact Frame.refl _ s

theorem jogTimedOut_frame (e : JogRun) : Frame [.axes] s (jogTimedOut e s) := by
  unfold jogTimedOut
  dsimp only
  split
  · split
    · exact frame_axes s _
    · exact Frame.refl _ s
  · exact Frame.refl _ s

theorem jogStopped_frame (x : Axis) : Frame [.axes] s (jogStopped x s) := by
  unfold jogStopped
  dsimp only
  split
  · split
    · exact frame_axes s _
    · exact Frame.refl _ s
  · exact Frame.refl _ s

/-! ## Fans and protection -/

theorem controlPeriod_frame : Frame [.fan] s (controlPeriod s) := by
  unfold controlPeriod
  split
  · exact frame_fan s _
  · exact Frame.refl _ s

theorem spinupExpired_frame (f : Fan) : Frame [.fan] s (spinupExpired f s) := by
  unfold spinupExpired
  dsimp only
  split
  · exact frame_fan s _
  · exact Frame.refl _ s

theorem tachEdge_frame (f : Fan) : Frame [.fan] s (tachEdge f s) := by
  have hi : ∀ u, Frame [.fan] s { s with inputs := u } := fun u => (frame_inputs s u).mono (by simp)
  unfold tachEdge
  dsimp only
  split
  · exact Frame.refl _ s
  · split
    · exact (hi _).trans (frame_setFan _ _ _)
    · exact hi _

theorem judgeWindow_frame (f : Fan) : Frame [.fan, .port] s (judgeWindow f s) := by
  have hf : ∀ r, Frame [.fan, .port] s (s.setFan f r) := fun r => (frame_setFan s f r).mono (by simp)
  unfold judgeWindow
  dsimp only
  split
  · split
    · exact (hf _).trans ((frame_raise _ _ _).mono (by simp))
    · exact hf _
  · exact hf _

theorem tachWindowEnd_frame (f : Fan) : Frame [.fan, .port] s (tachWindowEnd f s) := by
  rcases tachWindowEnd_cases f s with ⟨-, h⟩ | ⟨-, -, h⟩ | ⟨-, -, h⟩ <;> rw [h]
  · exact Frame.refl _ s
  · exact (frame_setFan s f _).mono (by simp)
  · exact judgeWindow_frame s f

theorem stopExpired_frame (f : Fan) : Frame [.fan] s (stopExpired f s) := by
  unfold stopExpired
  dsimp only
  split
  · exact frame_fan s _
  · exact Frame.refl _ s

theorem latchTrip_frame (c : TripCause) : Frame [.prot, .port] s (latchTrip c s) := by
  rcases latchTrip_cases c s with ⟨-, h⟩ | ⟨-, u, h⟩ <;> rw [h]
  · exact Frame.refl _ s
  · intro p; cases p <;> simp [Same]

theorem evaluate_frame : Frame [.prot, .port] s (evaluate s) := by
  unfold evaluate
  split
  · have hpass : Frame [.prot, .port] s (testTrip (passPeriod s)) := by
      obtain ⟨q, u, h⟩ := testTrip_frame (passPeriod s)
      rw [h]
      intro p; cases p <;> simp [Same, passPeriod]
    refine hpass.trans (((frame_prot _ _).mono (by simp)).trans (t := formRaw (testTrip (passPeriod s))) ?_)
    unfold moveAllowance
    split
    · exact Frame.refl _ _
    · exact setAllowance_parts _ _
  · exact Frame.refl _ s

theorem tcoActivated_frame : Frame [.prot, .port] s (tcoActivated s) := by
  have hi : ∀ u, Frame [.prot, .port] s { s with inputs := u } := fun u => (frame_inputs s u).mono (by simp)
  unfold tcoActivated
  split
  · exact Frame.refl _ s
  · dsimp only
    split
    · exact hi _
    · exact (hi _).trans (latchTrip_frame _ _)

theorem drvfltActivated_frame : Frame [.prot, .port] s (drvfltActivated s) := by
  have hi : ∀ u, Frame [.prot, .port] s { s with inputs := u } := fun u => (frame_inputs s u).mono (by simp)
  unfold drvfltActivated
  split
  · exact Frame.refl _ s
  · dsimp only
    split
    · exact hi _
    · exact (hi _).trans (latchTrip_frame _ _)

theorem tcoDeasserted_frame : Frame [] s (tcoDeasserted s) := by
  unfold tcoDeasserted
  split
  · exact Frame.refl _ s
  · exact frame_inputs s _

theorem drvfltDeasserted_frame : Frame [] s (drvfltDeasserted s) := by
  unfold drvfltDeasserted
  split
  · exact Frame.refl _ s
  · exact frame_inputs s _

theorem afterrunExpired_frame : Frame [.prot] s (afterrunExpired s) := by
  unfold afterrunExpired
  split
  · exact Frame.refl _ s
  · exact frame_prot s _

/-! ## Ports and store -/

theorem writeOverflow_frame : Frame [.port] s (writeOverflow s) := by
  unfold writeOverflow
  split
  · exact Frame.refl _ s
  · exact frame_port s _

theorem unknownTaken_frame (p : Port) (id : Byte) : Frame [.port] s (unknownTaken p id s) := by
  have hr : ∀ u : State, Frame [.port] u (refuse u .unknown).st := fun u => Frame.refl _ u
  unfold unknownTaken answerTo
  split
  · exact Frame.refl _ s
  · split
    · exact Frame.refl _ s
    · split
      · exact frame_port s _
      · dsimp only
        split
        · exact (frame_port s _).trans (frame_port (countFrame s) _)
        · exact frame_port s _

theorem saveCompleted_frame : Frame [.store, .port] s (saveCompleted s) := by
  unfold saveCompleted
  split
  · exact ((frame_store s _).mono (by simp)).trans ((frame_raise _ _ _).mono (by simp))
  · exact Frame.refl _ s

end

/-- Every part. -/
def allParts : List Part :=
  [.round, .record, .axisSet, .fanSet, .protSet, .restSet, .smp, .att, .geo, .eng, .pres, .axes, .mq, .fan, .prot, .port,
    .store]

/-- The parts that an arrival can reach. -/
def arrivalReach : Instr → List Part
  | .conversionCompletion _ => conversionParts
  | .frameStart => [.smp, .eng, .pres]
  | .delayTimerExpiry | .periodTimerExpiry | .smpVideoWatchExpiry => [.smp]
  | .computationCompletion => completionParts
  | .presVideoWatchExpiry | .mpSetFormat _ | .mcsnRelease => [.eng, .pres]
  | .mpStatus | .mpReadRows _ | .mpUnknownCommand _ => [.pres]
  | .legEnd _ | .stopDecelerationEnd _ | .homeSwitchEdge _ | .jogSoftLimitReached _ | .jogTimeoutExpiry _
  | .jogStopEnd _ => [.axes]
  | .settleTimeExpiry _ | .homeTimeout _ | .indexEdge _ | .mdfltActivation | .stepIssued _ _ => motionParts
  | .fanControlPeriod | .spinupTimerExpiry _ | .tachEdge _ | .stopTimerExpiry _ => [.fan]
  | .tachWindowEnd _ => [.fan, .port]
  | .protectionPeriodExpiry | .tcoActivation | .drvfltActivation => [.prot, .port]
  | .afterrunTimerExpiry => [.prot]
  | .i2cWriteOverflow | .interbyteGapExpiry | .txFrameSent | .unknownCommand _ _ => [.port]
  | .saveCompletion => [.store, .port]
  | .reset _ _ | .powerOnReset | .powerLoss | .rstnLow | .rstnRise | .loadCompletion => allParts
  | _ => []

/-- An arrival reaches no other part than the table says. -/
theorem arrivalOf_frame (i : Instr) (s : State) : Frame (arrivalReach i) s (arrivalOf i s) := by
  have hall : ∀ t, Frame allParts s t := fun t p => .inl (by cases p <;> simp [allParts])
  cases i
  case conversionCompletion code => exact conversionCompleted_frame s code
  case frameStart => exact frameStart_frame s
  case delayTimerExpiry => exact delayExpired_frame s
  case periodTimerExpiry => exact periodExpired_frame s
  case smpVideoWatchExpiry => exact smpVideoExpired_frame s
  case computationCompletion => exact computationCompleted_frame s
  case presVideoWatchExpiry => exact presVideoExpired_frame s
  case mpStatus => exact mpStatus_frame s
  case mpReadRows v => exact mpReadRows_frame s v
  case mpSetFormat v => exact mpSetFormat_frame s v
  case mpUnknownCommand b => exact mpUnknown_frame s b
  case mcsnRelease => exact mcsnReleased_frame s
  case legEnd x => exact legEnded_frame s x
  case stopDecelerationEnd x => exact stopDecelerationEnded_frame s x
  case settleTimeExpiry x => exact settleExpired_frame s x
  case homeSwitchEdge x => exact homeEdge_frame s x
  case homeTimeout x => exact homeTimeout_frame s x
  case indexEdge x => exact indexEdge_frame s x
  case mdfltActivation => exact mdfltActivated_frame s
  case mdfltDeassertion => exact mdfltDeasserted_frame s
  case jogSoftLimitReached x => exact jogLimitReached_frame s x
  case jogTimeoutExpiry e => exact jogTimedOut_frame s e
  case jogStopEnd x => exact jogStopped_frame s x
  case fanControlPeriod => exact controlPeriod_frame s
  case spinupTimerExpiry f => exact spinupExpired_frame s f
  case tachEdge f => exact tachEdge_frame s f
  case tachWindowEnd f => exact tachWindowEnd_frame s f
  case stopTimerExpiry f => exact stopExpired_frame s f
  case protectionPeriodExpiry => exact evaluate_frame s
  case tcoActivation => exact tcoActivated_frame s
  case drvfltActivation => exact drvfltActivated_frame s
  case tcoDeassertion => exact tcoDeasserted_frame s
  case drvfltDeassertion => exact drvfltDeasserted_frame s
  case afterrunTimerExpiry => exact afterrunExpired_frame s
  case i2cWriteOverflow => exact writeOverflow_frame s
  case unknownCommand p id => exact unknownTaken_frame s p id
  case interbyteGapExpiry | txFrameSent => exact frame_port s _
  case saveCompletion => exact saveCompleted_frame s
  case rawLevelChange pin level => exact frame_inputs s _
  case stepIssued x d => exact stepIssued_frame s x d
  case reset | powerOnReset | powerLoss | rstnLow | rstnRise | loadCompletion => exact hall _
  all_goals exact Frame.refl _ s

end Sys2Proof.Machine
end

section
/-! A law that looks at a few parts of the state needs a proof only for the operations that can reach them. -/

namespace Sys2Proof.Machine

/-- A law says the same of two states that agree in the listed parts. -/
def LooksAt (look : List Part) (P : State → Prop) : Prop := ∀ s t, (∀ p ∈ look, Same s t p) → P s → P t

/-- A list of parts has one in common with the parts that a law looks at. -/
def Meets (look l : List Part) : Prop := ∃ p ∈ look, p ∈ l

theorem LooksAt.of_frame {look l : List Part} {P : State → Prop} (hlook : LooksAt look P) {s t : State}
    (hf : Frame l s t) (hl : ¬ Meets look l) (h : P s) : P t :=
  hlook s t (fun p hp => hf.same fun hpl => hl ⟨p, hp, hpl⟩) h

/-! ## The resets and the load completion, part by part -/

/-- A command leaves the Port Unit alone changed when its unit does. -/
theorem answerTo_frame (p : Port) (id : Byte) (unit : State → Answer) (s : State)
    (hunit : ∀ u, Frame [.port] u (unit u).st) : Frame [.port] s (answerTo p id unit s) := by
  unfold answerTo
  split
  · exact Frame.refl _ s
  · split
    · exact (hunit s).trans (frame_port _ _)
    · have hcount : Frame [.port] s (countFrame s) := frame_port s _
      dsimp only
      split
      · exact (hcount.trans (hunit _)).trans (frame_port _ _)
      · exact hcount

theorem checked_frame {α : Type} (p : Port) (need : Need) (v : Params α) (unit : α → State → Answer) (s : State)
    {l : List Part} (hunit : ∀ a, Frame l s (unit a s).st) : Frame l s (checked p need v unit s).st := by
  unfold checked
  split
  · exact Frame.refl _ s
  · split
    · exact hunit _
    · exact Frame.refl _ s

/-- RESET resets the part, or is answered and reaches the Port Unit alone (11 R187). -/
theorem resetCommand_cases (p : Port) (v : Params Unit) (s : State) :
    resetCommand p v s = resetPart .command s ∨ Frame [.port] s (resetCommand p v s) := by
  have hanswered : Frame [.port] s (answerTo p 0xB3#8 (checked p .systemPort v fun _ s => accept s) s) :=
    answerTo_frame _ _ _ _ fun u => checked_frame _ _ _ _ u fun _ => Frame.refl _ u
  unfold resetCommand
  split
  · split
    · exact .inr (Frame.refl _ s)
    · exact .inl rfl
  · exact .inr hanswered

theorem startRequests_frame (s : State) : Frame motionParts s (startRequests s) := by
  unfold startRequests
  split
  · refine ((frame_mq s _).mono (by simp [motionParts])).trans (t := joinQueue (startRequest .home 0) s)
      (Frame.trans ?_ (dispatchPass_frame _ _).frame)
    split
    · exact Frame.refl _ _
    · exact (frame_mq _ _).mono (by simp [motionParts])
  · exact Frame.refl _ s

theorem raiseStoreError_frame (s : State) : Frame [.port] s (raiseStoreError s) := by
  unfold raiseStoreError
  split
  · exact Frame.refl _ s
  all_goals exact frame_raise _ _ s

theorem startFans_frame (s : State) : Frame [.fan] s (startFans s) := frame_fan s _

theorem startProtection_frame (s : State) : Frame [.prot] s (startProtection s) := frame_prot s _

theorem firstComposition_frame (s : State) : Frame composeParts s (firstComposition s) := by
  have hc : Frame composeParts s (compose s.set.geo .both s).1 := (compose_frame _ _ s).frame
  unfold firstComposition
  dsimp only
  split
  · exact hc
  · exact ((hc.trans ((frame_geo _ _).mono (by simp [composeParts]))).trans
      ((frame_raise _ _ _).mono (by simp [composeParts]))).trans (rebuild_frame _ _).toCompose.frame

theorem examineMdflt_frame (s : State) : Frame motionParts s (examineMdflt s) := by
  unfold examineMdflt
  split
  · exact (driverFault_frame s).frame
  · exact Frame.refl _ s

theorem examineFaults_frame (s : State) : Frame [.prot, .port] s (examineFaults s) := by
  have hif : ∀ (b : Bool) c (u : State), Frame [.prot, .port] u (if b then latchTrip c u else u) := fun b c u => by
    split
    · exact latchTrip_frame u c
    · exact Frame.refl _ u
  unfold examineFaults
  exact (hif _ _ s).trans (hif _ _ _)

/-- The state in which the units start after the load: the settings are taken, RESET and STORE_ERROR are raised (11 R183,
R188). -/
def loaded (s : State) : State := raiseStoreError (raiseReset (takeSettings s))

theorem startUp_eq (s : State) :
    startUp s = startRequests (examineFaults (examineMdflt (firstComposition (startProtection (startFans (loaded s)))))) :=
  rfl

/-- Of the units that the loaded settings reach, each is as takeSettings leaves it. -/
theorem loaded_frame (s : State) : Frame [.port] (takeSettings s) (loaded s) :=
  (frame_port _ _).trans (raiseStoreError_frame (raiseReset (takeSettings s)))

theorem takeSettings_frame (s : State) :
    Frame [.round, .record, .axisSet, .fanSet, .protSet, .restSet, .smp, .att, .geo, .store] s (takeSettings s) := by
  intro p; cases p <;> simp [Same, takeSettings]

/-- The load completion, or nothing (11 R188). -/
theorem loadCompleted_cases (s : State) :
    loadCompleted s = s ∨ (s.store.state = .loading ∧ loadCompleted s = startUp s) := by
  unfold loadCompleted
  split
  · rename_i h
    split
    · exact .inl rfl
    · exact .inr ⟨h, rfl⟩
  · exact .inl rfl
  · exact .inl rfl

/-- A law is kept by every step when it holds after every reset, survives the load completion, and survives each other
command and arrival that can reach what it looks at; a second law, kept already, may help. -/
theorem Kept.of_looksAt {look : List Part} {P Q : State → Prop} (hlook : LooksAt look P) (hport : .port ∉ look)
    (hQ : Kept Q) (answer : ∀ i s, Meets look (reach i) → s.deaf = false → P s → Q s → P (answerOf i s).st)
    (hreset : ∀ c s, P (resetPart c s)) (hstart : ∀ s, s.store.state = .loading → P s → Q s → P (startUp s))
    (arrival : ∀ i s, arrivalReach i ≠ allParts → Meets look (arrivalReach i) → P s → Q s → P (arrivalOf i s)) :
    Kept fun s => P s ∧ Q s := by
  have hfree : ∀ s l u, P s → P { s with pending := l, port := u } := fun s l u => hlook s _ fun p hp => by
    cases p <;> first | rfl | exact ⟨rfl, rfl, rfl⟩ | exact absurd hp hport
  have hanswer : ∀ i s, s.deaf = false → P s → Q s → P (answerOf i s).st := fun i s hd h hq => by
    by_cases hm : Meets look (reach i)
    · exact answer i s hm hd h hq
    · exact hlook.of_frame (answerOf_frame i s) hm h
  have harrival : ∀ i s, P s → Q s → P (arrivalOf i s) := fun i s h hq => by
    by_cases hm : Meets look (arrivalReach i)
    · by_cases hall : arrivalReach i = allParts
      · cases i
        case reset p v =>
          change P (resetCommand p v s)
          rcases resetCommand_cases p v s with e | e
          · rw [e]
            exact hreset _ _
          · refine hlook.of_frame e (fun ⟨q, hq, hq'⟩ => ?_) h
            rw [List.mem_singleton.mp hq'] at hq
            exact hport hq
        case powerOnReset | powerLoss | rstnLow | rstnRise => exact hreset _ _
        case loadCompletion =>
          change P (loadCompleted s)
          rcases loadCompleted_cases s with e | ⟨hl, e⟩ <;> rw [e]
          · exact h
          · exact hstart s hl h hq
        all_goals simp [arrivalReach, allParts, motionParts, composeParts, completionParts, conversionParts] at hall
      · exact arrival i s hall hm h hq
    · exact hlook.of_frame (arrivalOf_frame i s) hm h
  exact {
    pending := fun s l h => ⟨hfree s l s.port h.1, hQ.pending s l h.2⟩
    begin := fun s h => ⟨hfree s s.pending _ h.1, hQ.begin s h.2⟩
    placeA := fun s i k d h => ⟨hfree s s.pending _ h.1, hQ.placeA s i k d h.2⟩
    placeB := fun s l h => ⟨hfree s s.pending _ h.1, hQ.placeB s l h.2⟩
    countFrame := fun s h => ⟨hfree s s.pending _ h.1, hQ.countFrame s h.2⟩
    setReceiver := fun s r h => ⟨hfree s s.pending _ h.1, hQ.setReceiver s r h.2⟩
    answer := fun i s hd h => ⟨hanswer i s hd h.1 h.2, hQ.answer i s hd h.2⟩
    arrival := fun i s h => ⟨harrival i s h.1 h.2, hQ.arrival i s h.2⟩ }

/-- No second law. -/
theorem Kept.trivial : Kept fun _ => True where
  pending _ _ _ := .intro
  begin _ _ := .intro
  placeA _ _ _ _ _ := .intro
  placeB _ _ _ := .intro
  countFrame _ _ := .intro
  setReceiver _ _ _ := .intro
  answer _ _ _ _ := .intro
  arrival _ _ _ := .intro

/-! ## The fault inputs -/

/-- An activation of TCO: the filter's record alone, or the latch of the trip (09 R159). -/
theorem tcoActivated_cases (s : State) :
    (∃ u, tcoActivated s = { s with inputs := u })
      ∨ (s.deaf = false ∧ ∃ u, tcoActivated s = latchTrip .tco { s with inputs := u }) := by
  unfold tcoActivated
  split
  · exact .inl ⟨s.inputs, rfl⟩
  · dsimp only
    split
    · exact .inl ⟨_, rfl⟩
    · rename_i hd
      exact .inr ⟨by simpa [State.deaf, State.held] using hd, _, rfl⟩

/-- An activation of DRVFLT, in the same way (09 R159). -/
theorem drvfltActivated_cases (s : State) :
    (∃ u, drvfltActivated s = { s with inputs := u })
      ∨ (s.deaf = false ∧ ∃ u, drvfltActivated s = latchTrip .drvflt { s with inputs := u }) := by
  unfold drvfltActivated
  split
  · exact .inl ⟨s.inputs, rfl⟩
  · dsimp only
    split
    · exact .inl ⟨_, rfl⟩
    · rename_i hd
      exact .inr ⟨by simpa [State.deaf, State.held] using hd, _, rfl⟩

/-! ## A conversion, operation by operation -/

/-- What a judged sample is handed on to, one unit at a time (01 R15). -/
theorem handOn_keeps {P : State → Prop} (k : Fin 10) (q : ChannelRec × Judgement) {s : State}
    (hangle : ∀ c v, P s → P (offerAngle c v s)) (hcomp : ∀ v, P s → P (evaluateComp v s))
    (hraise : P s → P (raise .both .sensorFault s)) (hempty : ∀ c t, P t → P (emptyWindow c t)) (h : P s) :
    P (handOn s k q) := by
  unfold handOn
  split
  · unfold handAccepted
    split
    · exact hangle _ _ h
    · split
      · exact hcomp _ h
      · exact h
    · exact h
  · exact h
  · unfold handFault
    dsimp only
    split
    · exact hempty _ _ (hraise h)
    · exact hraise h

/-- A conversion keeps what each of its four operations keeps (01 R8, R15). -/
theorem conversionCompleted_keeps {P : State → Prop} (code : Nat) {s : State}
    (hput : ∀ t k r, P t → P (putRecord t k r)) (hhand : ∀ t k q, P t → P (handOn t k q))
    (hstartup : ∀ t, P t → P (judgeStartup t)) (hend : ∀ t rest, P t → P (endConversion rest t)) (h : P s) :
    P (conversionCompleted code s) := by
  unfold conversionCompleted
  split
  · exact h
  · rename_i k _ _
    refine hend _ _ ?_
    rw [deliverCode_eq]
    dsimp only
    generalize takeSample (acceptCode s k (code % 4096)) (code % 4096) (s.smp.records.get k) = q
    have hq := hhand _ k q (hput s k q.1 h)
    unfold handValidity
    split
    · split
      · exact hq
      · exact hstartup _ hq
    · exact hq

/-! ## LSEN (09 R164) -/

theorem lightGated_looksAt : LooksAt [.prot] LightGated := by
  intro s t hs h
  have e : t.prot = s.prot := hs .prot (by simp)
  unfold LightGated
  rw [e]
  exact h

/-- A judgement of LSEN establishes its law, whatever held before. -/
theorem judgeLsen_lightGated (s : State) : LightGated (judgeLsen s) := rfl

theorem latchTrip_lightGated (c : TripCause) {s : State} (h : LightGated s) : LightGated (latchTrip c s) := by
  rcases latchTrip_cases c s with ⟨-, e⟩ | ⟨-, u, e⟩ <;> rw [e]
  · exact h
  · simp [LightGated]

theorem setAllowance_lightGated (a : Int) {s : State} (h : LightGated s) : LightGated (setAllowance a s) := by
  obtain ⟨u, e⟩ := setAllowance_frame a s
  rw [e]
  exact h

theorem judgeStartup_lightGated {s : State} (h : LightGated s) : LightGated (judgeStartup s) := by
  unfold judgeStartup
  split
  · exact h
  · split
    · exact judgeLsen_lightGated _
    · exact h

theorem testTrip_lightGated {s : State} (h : LightGated s) : LightGated (testTrip s) := by
  unfold testTrip
  split
  · exact h
  · exact latchTrip_lightGated _ h

theorem evaluate_lightGated {s : State} (h : LightGated s) : LightGated (evaluate s) := by
  unfold evaluate
  split
  · have hform : LightGated (formRaw (testTrip (passPeriod s))) := testTrip_lightGated (s := passPeriod s) h
    unfold moveAllowance
    split
    · exact hform
    · exact setAllowance_lightGated _ hform
  · exact h

theorem requestLight_lightGated (on : Bool) {s : State} (h : LightGated s) : LightGated (requestLight on s) := by
  unfold requestLight
  split
  · exact h
  · exact judgeLsen_lightGated _

theorem startUp_lightGated {s : State} (h : LightGated s) : LightGated (startUp s) := by
  have hkeep {l : List Part} {u v : State} (hu : LightGated u) (hf : Frame l u v) (hl : .prot ∉ l) : LightGated v :=
    lightGated_looksAt.of_frame hf (by simp [Meets, hl]) hu
  have hloaded : LightGated (loaded s) := hkeep (hkeep h (takeSettings_frame s) (by simp)) (loaded_frame s) (by simp)
  have hstarted : LightGated (startProtection (startFans (loaded s))) :=
    hkeep (v := startFans (loaded s)) hloaded (startFans_frame _) (by simp)
  have hexamined : ∀ u, LightGated u → LightGated (examineFaults u) := fun u hu => by
    have hif : ∀ (b : Bool) c (v : State), LightGated v → LightGated (if b then latchTrip c v else v) :=
      fun b c v hv => by
        split
        · exact latchTrip_lightGated c hv
        · exact hv
    exact hif _ _ _ (hif _ _ _ hu)
  rw [startUp_eq]
  have hcomposed := hkeep hstarted (firstComposition_frame _) (by simp [composeParts])
  have hmdflt := hkeep hcomposed (examineMdflt_frame _) (by simp [motionParts, composeParts])
  exact hkeep (hexamined _ hmdflt) (startRequests_frame _) (by simp [motionParts, composeParts])

/-- Settles O49: LSEN is judged again wherever the request, start-up or the trip changes (09 R164). -/
theorem lightStaysGated : Obligations.LightStaysGated := by
  intro s t h hst
  refine ((Kept.of_looksAt lightGated_looksAt (by simp) Kept.trivial (fun i u hm _ hu _ => ?_) (fun c u => rfl)
    (fun u _ hu _ => startUp_lightGated hu) (fun i u hne hm hu _ => ?_)).step ⟨h, .intro⟩ hst).1
  · cases i <;> (try simp [Meets, reach, motionParts, composeParts] at hm)
    case light p v =>
      cases v with
      | misfit => exact hu
      | form a =>
        change LightGated (lightCommand a u).st
        unfold lightCommand
        split
        · exact requestLight_lightGated _ hu
        · exact requestLight_lightGated _ hu
        · exact hu
    case clearTrip p v =>
      cases v with
      | misfit => exact hu
      | form a =>
        change LightGated (clearTripCommand a u).st
        unfold clearTripCommand
        split
        · exact hu
        · split
          · exact hu
          · exact judgeLsen_lightGated _
    case protSetParams p v =>
      cases v with
      | misfit => exact hu
      | form a =>
        change LightGated (protSetParams a u).st
        unfold protSetParams
        split
        · unfold accept liftToFloor
          dsimp only
          split
          · exact setAllowance_lightGated _ (s := { u with set := { u.set with prot := _ } }) hu
          · exact hu
        · exact hu
  · cases i <;> (try simp [Meets, arrivalReach, motionParts, composeParts, completionParts] at hm)
    case conversionCompletion code =>
      exact conversionCompleted_keeps code (fun t k r ht => ht)
        (fun t k q => lightGated_looksAt.of_frame (handOn_frame t k q) (by simp [Meets, motionParts, composeParts]))
        (fun t => judgeStartup_lightGated)
        (fun t rest => lightGated_looksAt.of_frame (endConversion_frame t rest) (by simp [Meets])) hu
    case protectionPeriodExpiry => exact evaluate_lightGated hu
    case tcoActivation =>
      change LightGated (tcoActivated u)
      rcases tcoActivated_cases u with ⟨v, e⟩ | ⟨-, v, e⟩ <;> rw [e]
      · exact hu
      · exact latchTrip_lightGated _ (s := { u with inputs := v }) hu
    case drvfltActivation =>
      change LightGated (drvfltActivated u)
      rcases drvfltActivated_cases u with ⟨v, e⟩ | ⟨-, v, e⟩ <;> rw [e]
      · exact hu
      · exact latchTrip_lightGated _ (s := { u with inputs := v }) hu
    case afterrunTimerExpiry =>
      change LightGated (afterrunExpired u)
      rcases afterrunExpired_cases u with ⟨-, e⟩ | ⟨-, e⟩ <;> rw [e] <;> exact hu
    all_goals exact absurd rfl hne

end Sys2Proof.Machine
end

section
/-! What holds while the store loads (11 R187), and the allowance (09 R154). -/

namespace Sys2Proof.Machine

/-! ## The load -/

theorem loadQuiet_looksAt : LooksAt [.smp, .store, .mq, .fan, .prot, .axes] LoadQuiet := by
  intro s t hs h
  have e1 : t.smp = s.smp := hs .smp (by simp)
  have e2 : t.store = s.store := hs .store (by simp)
  have e3 : t.mq = s.mq := hs .mq (by simp)
  have e4 : t.fan = s.fan := hs .fan (by simp)
  have e5 : t.prot = s.prot := hs .prot (by simp)
  have e6 : t.axes = s.axes := hs .axes (by simp)
  unfold LoadQuiet
  rw [e1, e2, e3, e4, e5, e6]
  exact h

theorem loadQuiet_of_not_loading {s : State} (h : s.store.state ≠ .loading) : LoadQuiet s := fun hl => absurd hl h

theorem not_loading_of_not_deaf {s : State} (h : s.deaf = false) : s.store.state ≠ .loading := by
  intro hl
  simp [State.deaf, hl] at h

theorem loadQuiet_resetPart (c : ResetCause) (s : State) : LoadQuiet (resetPart c s) := fun _ =>
  ⟨rfl, rfl, rfl, rfl, rfl, rfl, fun x => by cases x <;> exact ⟨rfl, rfl⟩⟩

/-- After the load completion the store loads no more. -/
theorem startUp_store (s : State) : (startUp s).store.state = .idle := by
  have h1 : (startProtection (startFans (loaded s))).store = (takeSettings s).store :=
    (loaded_frame s).same (p := .store) (by simp)
  have h2 : (firstComposition (startProtection (startFans (loaded s)))).store = _ :=
    (firstComposition_frame _).same (p := .store) (by simp [composeParts])
  have h3 : (examineMdflt (firstComposition (startProtection (startFans (loaded s))))).store = _ :=
    (examineMdflt_frame _).same (p := .store) (by simp [motionParts, composeParts])
  have h4 : (examineFaults (examineMdflt (firstComposition (startProtection (startFans (loaded s)))))).store = _ :=
    (examineFaults_frame _).same (p := .store) (by simp)
  have h5 : (startUp s).store = _ := (startRequests_frame _).same (p := .store) (by simp [motionParts, composeParts])
  exact congrArg Store.state (h5.trans (h4.trans (h3.trans (h2.trans h1))))

/-- A command is taken by no unit while the store loads, and none makes it load. -/
theorem answerOf_not_loading (i : Instr) {s : State} (h : s.store.state ≠ .loading) :
    (answerOf i s).st.store.state ≠ .loading := by
  by_cases hr : Part.store ∈ reach i
  · cases i <;> (try simp [reach, motionParts, composeParts] at hr)
    case saveSettings p v =>
      cases v with
      | misfit => exact h
      | form a =>
        change (saveSettings p a s).st.store.state ≠ .loading
        unfold saveSettings
        split <;> simp_all [refuse, accept, beginSave]
  · have e : (answerOf i s).st.store = s.store := (answerOf_frame i s).same hr
    rw [e]
    exact h

/-- No arrival but a reset makes the store load. -/
theorem arrivalOf_not_loading (i : Instr) {s : State} (ha : arrivalReach i ≠ allParts) (h : s.store.state ≠ .loading) :
    (arrivalOf i s).store.state ≠ .loading := by
  by_cases hr : Part.store ∈ arrivalReach i
  · cases i <;> (try simp [arrivalReach, motionParts, composeParts, completionParts, conversionParts] at hr)
    case saveCompletion =>
      change (saveCompleted s).store.state ≠ .loading
      unfold saveCompleted
      split <;> simp_all
    all_goals exact absurd rfl ha
  · have e : (arrivalOf i s).store = s.store := (arrivalOf_frame i s).same hr
    rw [e]
    exact h

/-- What is at rest while the store loads. -/
structure AtRest (s : State) : Prop where
  round : s.smp.round = []
  delay : s.smp.delayRunning = false
  requests : s.mq.requests = []
  fan : s.fan.running = false
  prot : s.prot.running = false
  trip : s.prot.trip = none
  axis : ∀ x, (s.axes.get x).state = .unhomed
  count : ∀ x, (s.axes.get x).homingCount = 0

theorem LoadQuiet.atRest {s : State} (h : LoadQuiet s) (hl : s.store.state = .loading) : AtRest s := by
  obtain ⟨h1, h2, h3, h4, h5, h6, h7⟩ := h hl
  exact ⟨h1, h2, h3, h4, h5, h6, fun x => (h7 x).1, fun x => (h7 x).2⟩

theorem AtRest.loadQuiet {s : State} (h : AtRest s) : LoadQuiet s := fun _ =>
  ⟨h.round, h.delay, h.requests, h.fan, h.prot, h.trip, fun x => ⟨h.axis x, h.count x⟩⟩

/-- What is at rest stays so in every arrival of the load but a reset and the load completion. -/
theorem arrivalOf_atRest (i : Instr) {s : State} (hl : s.store.state = .loading) (ha : arrivalReach i ≠ allParts)
    (hm : Meets [.smp, .store, .mq, .fan, .prot, .axes] (arrivalReach i)) (h : AtRest s) : AtRest (arrivalOf i s) := by
  have hd : s.deaf = true := by simp [State.deaf, hl]
  have hax := h.axis
  cases i <;> (try simp [Meets, arrivalReach, completionParts] at hm)
  case conversionCompletion code => simpa [arrivalOf, conversionCompleted, h.round] using h
  case frameStart => simpa [arrivalOf, frameStart, hd] using h
  case delayTimerExpiry => simpa [arrivalOf, delayExpired, h.delay] using h
  case periodTimerExpiry => simpa [arrivalOf, periodExpired, hd] using h
  case smpVideoWatchExpiry =>
    change AtRest (smpVideoExpired s)
    unfold smpVideoExpired
    dsimp only
    split
    · split <;> exact ⟨h.round, by first | exact h.delay | rfl, h.requests, h.fan, h.prot, h.trip, h.axis, h.count⟩
    · exact h
  case legEnd x => simpa [arrivalOf, legEnded, hax] using h
  case stopDecelerationEnd x => simpa [arrivalOf, stopDecelerationEnded, hax] using h
  case settleTimeExpiry x => simpa [arrivalOf, settleExpired, hax] using h
  case homeSwitchEdge x =>
    change AtRest (homeEdge x s)
    unfold homeEdge
    simp only [hax]
    split
    · exact h
    · exact ⟨h.round, h.delay, h.requests, h.fan, h.prot, h.trip, h.axis, h.count⟩
  case homeTimeout x => simpa [arrivalOf, homeTimeout, hax] using h
  case indexEdge x =>
    change AtRest (indexEdge x s)
    unfold indexEdge
    simp only [hax, reduceCtorEq, decide_false, Bool.and_false, Bool.false_and, Bool.false_eq_true, if_false]
    split
    · exact h
    · exact ⟨h.round, h.delay, h.requests, h.fan, h.prot, h.trip, h.axis, h.count⟩
  case mdfltActivation =>
    change AtRest (mdfltActivated s)
    have hd' : ∀ u, ({ s with inputs := u } : State).deaf = true := fun u => hd
    unfold mdfltActivated
    simp only [hd', if_true]
    split
    · exact h
    · exact ⟨h.round, h.delay, h.requests, h.fan, h.prot, h.trip, h.axis, h.count⟩
  case jogSoftLimitReached x => simpa [arrivalOf, jogLimitReached, hax] using h
  case jogTimeoutExpiry e => simpa [arrivalOf, jogTimedOut, hax] using h
  case jogStopEnd x => simpa [arrivalOf, jogStopped, hax] using h
  case fanControlPeriod => simpa [arrivalOf, controlPeriod, h.fan] using h
  case spinupTimerExpiry f =>
    change AtRest (spinupExpired f s)
    unfold spinupExpired
    dsimp only
    split
    · exact ⟨h.round, h.delay, h.requests, h.fan, h.prot, h.trip, h.axis, h.count⟩
    · exact h
  case tachEdge f =>
    change AtRest (tachEdge f s)
    unfold tachEdge
    dsimp only
    split
    · exact h
    · split <;> exact ⟨h.round, h.delay, h.requests, h.fan, h.prot, h.trip, h.axis, h.count⟩
  case tachWindowEnd f => simpa [arrivalOf, tachWindowEnd, h.fan] using h
  case stopTimerExpiry f =>
    change AtRest (stopExpired f s)
    unfold stopExpired
    dsimp only
    split
    · exact ⟨h.round, h.delay, h.requests, h.fan, h.prot, h.trip, h.axis, h.count⟩
    · exact h
  case protectionPeriodExpiry => simpa [arrivalOf, evaluate, h.prot] using h
  case tcoActivation =>
    change AtRest (tcoActivated s)
    rcases tcoActivated_cases s with ⟨u, e⟩ | ⟨hn, -⟩
    · rw [e]
      exact ⟨h.round, h.delay, h.requests, h.fan, h.prot, h.trip, h.axis, h.count⟩
    · rw [hd] at hn
      cases hn
  case drvfltActivation =>
    change AtRest (drvfltActivated s)
    rcases drvfltActivated_cases s with ⟨u, e⟩ | ⟨hn, -⟩
    · rw [e]
      exact ⟨h.round, h.delay, h.requests, h.fan, h.prot, h.trip, h.axis, h.count⟩
    · rw [hd] at hn
      cases hn
  case afterrunTimerExpiry =>
    change AtRest (afterrunExpired s)
    rcases afterrunExpired_cases s with ⟨-, e⟩ | ⟨-, e⟩ <;> rw [e]
    · exact h
    · exact ⟨h.round, h.delay, h.requests, h.fan, h.prot, h.trip, h.axis, h.count⟩
  case saveCompletion => simpa [arrivalOf, saveCompleted, hl] using h
  case stepIssued x d => simpa [arrivalOf, stepIssued, hax] using h
  all_goals exact absurd rfl ha

theorem loadQuiet_kept : Kept LoadQuiet := by
  have h : Kept fun s => LoadQuiet s ∧ True := Kept.of_looksAt loadQuiet_looksAt (by simp) Kept.trivial
    (fun i _ _ hd _ _ => loadQuiet_of_not_loading (answerOf_not_loading i (not_loading_of_not_deaf hd)))
    loadQuiet_resetPart
    (fun s _ _ _ => loadQuiet_of_not_loading (by simp [startUp_store s]))
    (fun i s ha hm h _ => by
      by_cases hl : s.store.state = .loading
      · exact (arrivalOf_atRest i hl ha hm (h.atRest hl)).loadQuiet
      · exact loadQuiet_of_not_loading (arrivalOf_not_loading i ha hl))
  simpa only [and_true] using h

/-! ## What the load puts in force (11 R182, R183) -/

/-- Sound settings, check by check (11 R182). -/
structure Sound (g : Settings) : Prop where
  round : roundOk g.round = true
  trigger : g.trigger.ok = true
  tables : g.tables.toList.all tableOk = true
  angle : g.angle.pitch.ok = true ∧ g.angle.roll.ok = true ∧ g.angle.vert.ok = true
  att : g.att.ok = true
  geo : g.geo.ok = true
  layer : layerOk g.geo.fineLimit g.layer = true
  axes : ∀ x, (g.axes.get x).ok = true
  jogTimeout : jogTimeoutOk g.jogTimeout = true
  slots : ∀ r ∈ g.slots.toList, ∀ q, r = some q → q.ok = true
  fc : g.fc.ok = true
  fans : ∀ f, (g.fans.get f).ok = true
  offsets : g.offsets.toList.all OrientOffsets.ok = true
  slew : slewOk g.slew = true
  thresholds : g.thresholds.toList.all Threshold.ok = true
  prot : g.prot.ok = true

theorem sound_iff (g : Settings) : g.sound = true ↔ Sound g := by
  have hslots : (g.slots.toList.all fun r => match r with | none => true | some q => q.ok) = true
      ↔ ∀ r ∈ g.slots.toList, ∀ q, r = some q → q.ok = true := by
    rw [List.all_eq_true]
    refine forall₂_congr fun r _ => ?_
    cases r <;> simp
  constructor
  · intro h
    simp only [Settings.sound, Bool.and_eq_true] at h
    obtain ⟨⟨⟨⟨⟨⟨⟨⟨⟨⟨⟨⟨⟨⟨⟨⟨⟨⟨⟨⟨⟨⟨h1, h2⟩, h3⟩, h4⟩, h5⟩, h6⟩, h7⟩, h8⟩, h9⟩, h10⟩, h11⟩, h12⟩, h13⟩, h14⟩, h15⟩, h16⟩,
      h17⟩, h18⟩, h19⟩, h20⟩, h21⟩, h22⟩, h23⟩ := h
    exact ⟨h1, h2, h3, ⟨h4, h5, h6⟩, h7, h8, h9, fun x => by cases x <;> assumption, h14, hslots.mp h15, h16,
      fun f => by cases f <;> assumption, h20, h21, h22, h23⟩
  · intro h
    obtain ⟨h4, h5, h6⟩ := h.angle
    have ha := h.axes .shiftH
    have hb := h.axes .shiftV
    have hc := h.axes .zoom
    have hd := h.axes .focus
    have he := h.fans .ls
    have hf := h.fans .oe
    have hg := h.fans .ex
    simp only [Settings.sound, Bool.and_eq_true]
    exact ⟨⟨⟨⟨⟨⟨⟨⟨⟨⟨⟨⟨⟨⟨⟨⟨⟨⟨⟨⟨⟨⟨h.round, h.trigger⟩, h.tables⟩, h4⟩, h5⟩, h6⟩, h.att⟩, h.geo⟩, h.layer⟩, ha⟩, hb⟩, hc⟩, hd⟩,
      h.jogTimeout⟩, hslots.mpr h.slots⟩, h.fc⟩, he⟩, hf⟩, hg⟩, h.offsets⟩, h.slew⟩, h.thresholds⟩, h.prot⟩

theorem defaultSettings_sound : defaultSettings.sound = true := by decide

/-- What a load puts in force is sound: a loaded image has been checked, and the defaults are sound (11 R182, R183). -/
theorem takeSettings_sound (s : State) : Sound (takeSettings s).set := by
  rw [← sound_iff]
  change (loadedSettings s.store.image (loadResult s.store.image)).sound = true
  unfold loadResult
  split
  · split
    · assumption
    · exact defaultSettings_sound
  · exact defaultSettings_sound

/-! ## The allowance (09 R154) -/

/-- The law of the allowance but for the load. -/
def AllowanceHeld (s : State) : Prop := s.set.prot.ok = true ∧ AllowanceBounded s

theorem allowanceHeld_looksAt : LooksAt [.protSet, .prot] AllowanceHeld := by
  intro s t hs h
  have e1 : t.set.prot = s.set.prot := hs .protSet (by simp)
  have e2 : t.prot = s.prot := hs .prot (by simp)
  unfold AllowanceHeld AllowanceBounded
  rw [e1, e2]
  exact h

theorem floor_range {g : ProtSettings} (h : g.ok = true) : 200 ≤ g.floor ∧ g.floor ≤ 800 := by
  simp only [ProtSettings.ok, Bool.and_eq_true, within_iff] at h
  exact h.1.1.1

theorem rise_range {g : ProtSettings} (h : g.ok = true) : 10 ≤ g.rise ∧ g.rise ≤ 1000 := by
  simp only [ProtSettings.ok, Bool.and_eq_true, within_iff] at h
  exact h.1.1.2

/-- With the trip CLEAR the allowance may take any value from the floor to 1000. -/
theorem setAllowance_held {a : Int} {s : State} (hok : s.set.prot.ok = true) (hclear : s.prot.trip = none)
    (hlow : s.set.prot.floor ≤ a) (hhigh : a ≤ 1000) : AllowanceHeld (setAllowance a s) := by
  obtain ⟨u, e⟩ := setAllowance_frame a s
  rw [e]
  refine ⟨hok, ?_⟩
  unfold AllowanceBounded
  simp only [hclear]
  exact ⟨hlow, hhigh⟩

theorem latchTrip_held (c : TripCause) {s : State} (h : AllowanceHeld s) : AllowanceHeld (latchTrip c s) := by
  rcases latchTrip_cases c s with ⟨-, e⟩ | ⟨-, u, e⟩ <;> rw [e]
  · exact h
  · exact ⟨h.1, rfl⟩

/-- The raw allowance lies from the floor to 1000 (09 R153). -/
theorem rawAllowance_range {floor : Int} (h : floor ≤ 1000) (term derate : Int) (fault failed : Nat) :
    floor ≤ rawAllowance floor term derate fault failed ∧ rawAllowance floor term derate fault failed ≤ 1000 :=
  clamp_range floor 1000 _ h

/-- A value from the floor to 1000 moves toward the raw allowance within the same bounds (09 R154). -/
theorem nextAllowance_range {floor rise raw a : Int} (hrise : 0 ≤ rise) (hraw : floor ≤ raw ∧ raw ≤ 1000)
    (ha : floor ≤ a ∧ a ≤ 1000) : floor ≤ nextAllowance rise raw a ∧ nextAllowance rise raw a ≤ 1000 := by
  have hround : 0 ≤ roundDiv rise 10 := by
    unfold roundDiv
    omega
  unfold nextAllowance
  split <;> omega

theorem moveAllowance_formRaw_held {s : State} (h : AllowanceHeld s) : AllowanceHeld (moveAllowance (formRaw s)) := by
  obtain ⟨hok, hb⟩ := h
  have hfloor := floor_range hok
  have hrise := rise_range hok
  unfold moveAllowance
  split
  · exact ⟨hok, hb⟩
  · rename_i hclear
    have hclear' : s.prot.trip = none := hclear
    have ha : s.set.prot.floor ≤ s.prot.allowance ∧ s.prot.allowance ≤ 1000 := by
      unfold AllowanceBounded at hb
      simpa only [hclear'] using hb
    have hn := nextAllowance_range (by omega : 0 ≤ s.set.prot.rise)
      (rawAllowance_range (by omega : s.set.prot.floor ≤ 1000) (((channelTermOf s).map Prod.fst).getD 0)
        (shortfallDerateOf s) (faultCount s) (failedCount s)) ha
    exact setAllowance_held hok hclear hn.1 hn.2

theorem evaluate_held {s : State} (h : AllowanceHeld s) : AllowanceHeld (evaluate s) := by
  unfold evaluate
  split
  · refine moveAllowance_formRaw_held ?_
    have hpass : AllowanceHeld (passPeriod s) := h
    unfold testTrip
    split
    · exact hpass
    · exact latchTrip_held _ hpass
  · exact h

/-- The allowance after a setting of its parameters: with the trip CLEAR a value below the new floor rises to it (09
R155). -/
theorem protSetParams_held (a : ProtArgs) {s : State} (h : AllowanceHeld s) : AllowanceHeld (protSetParams a s).st := by
  unfold protSetParams
  split
  · rename_i hok
    obtain ⟨-, hb⟩ := h
    have hfloor := floor_range hok
    unfold AllowanceBounded at hb
    unfold accept liftToFloor
    dsimp only
    split
    · rename_i hlift
      simp only [Bool.and_eq_true, Option.isNone_iff_eq_none, decide_eq_true_eq] at hlift
      exact setAllowance_held (s := { s with set := { s.set with prot := protSettingsOf a } }) hok hlift.1 le_rfl
        (by omega)
    · rename_i hlift
      refine ⟨hok, ?_⟩
      unfold AllowanceBounded
      cases ht : s.prot.trip with
      | some c => simpa [ht] using hb
      | none =>
        simp only [ht] at hb
        simp only [ht, Option.isNone_none, Bool.true_and, decide_eq_true_eq, not_lt] at hlift
        exact ⟨hlift, hb.2⟩
  · exact h

theorem startUp_held {s : State} (hl : s.store.state = .loading) (h : AllowanceHeld s) (hq : LoadQuiet s) :
    AllowanceHeld (startUp s) := by
  have hkeep {l : List Part} {u v : State} (hu : AllowanceHeld u) (hf : Frame l u v) (h1 : .protSet ∉ l)
      (h2 : .prot ∉ l) : AllowanceHeld v := allowanceHeld_looksAt.of_frame hf (by simp [Meets, h1, h2]) hu
  have hset : (startFans (loaded s)).set = (takeSettings s).set :=
    (loaded_frame s).set_eq (by simp)
  have hprot : (startFans (loaded s)).prot = s.prot := (loaded_frame s).same (p := .prot) (by simp)
  have hok : (startFans (loaded s)).set.prot.ok = true := by
    rw [hset]
    exact (takeSettings_sound s).prot
  have hfloor := floor_range hok
  have hstarted : AllowanceHeld (startProtection (startFans (loaded s))) := by
    refine ⟨hok, ?_⟩
    unfold AllowanceBounded startProtection
    simp only [hprot, (hq.atRest hl).trip]
    omega
  have hif : ∀ (b : Bool) c (v : State), AllowanceHeld v → AllowanceHeld (if b then latchTrip c v else v) :=
    fun b c v hv => by
      split
      · exact latchTrip_held c hv
      · exact hv
  rw [startUp_eq]
  have hcomposed := hkeep hstarted (firstComposition_frame _) (by simp [composeParts]) (by simp [composeParts])
  have hmdflt := hkeep hcomposed (examineMdflt_frame _) (by simp [motionParts, composeParts])
    (by simp [motionParts, composeParts])
  exact hkeep (hif _ _ _ (hif _ _ _ hmdflt)) (startRequests_frame _) (by simp [motionParts, composeParts])
    (by simp [motionParts, composeParts])

/-- Settles O50: the allowance is set to the raw allowance, to a step below it, to 0 with the latch or to the floor (09
R153 to R155, R161, R166). -/
theorem allowanceStaysBounded : Obligations.AllowanceStaysBounded := by
  intro s t ⟨hok, hb, hq⟩ hst
  refine (fun h => ⟨h.1.1, h.1.2, h.2⟩) ((Kept.of_looksAt allowanceHeld_looksAt (by simp) loadQuiet_kept
    (fun i u hm _ hu _ => ?_) (fun c u => ⟨rfl, (⟨by decide, by decide⟩ : (350 : Int) ≤ 350 ∧ (350 : Int) ≤ 1000)⟩) (fun u => startUp_held)
    (fun i u hne hm hu _ => ?_)).step ⟨⟨hok, hb⟩, hq⟩ hst)
  · cases i <;> (try simp [Meets, reach, motionParts, composeParts] at hm)
    case light p v =>
      cases v with
      | misfit => exact hu
      | form a =>
        have hlight : ∀ on, AllowanceHeld (requestLight on u) := fun on => by
          unfold requestLight
          split <;> exact hu
        change AllowanceHeld (lightCommand a u).st
        unfold lightCommand
        split
        · exact hlight _
        · exact hlight _
        · exact hu
    case clearTrip p v =>
      cases v with
      | misfit => exact hu
      | form a =>
        have hfloor := floor_range hu.1
        change AllowanceHeld (clearTripCommand a u).st
        unfold clearTripCommand
        split
        · exact hu
        · split
          · exact hu
          · exact ⟨hu.1, le_rfl, by change u.set.prot.floor ≤ 1000; omega⟩
    case protSetParams p v =>
      cases v with
      | misfit => exact hu
      | form a => exact protSetParams_held a hu
  · cases i <;> (try simp [Meets, arrivalReach, motionParts, composeParts, completionParts] at hm)
    case conversionCompletion code =>
      refine conversionCompleted_keeps code (fun t k r ht => ht)
        (fun t k q => allowanceHeld_looksAt.of_frame (handOn_frame t k q) (by simp [Meets, motionParts, composeParts]))
        (fun t ht => ?_)
        (fun t rest => allowanceHeld_looksAt.of_frame (endConversion_frame t rest) (by simp [Meets])) hu
      unfold judgeStartup
      split
      · exact ht
      · split <;> exact ht
    case protectionPeriodExpiry => exact evaluate_held hu
    case tcoActivation =>
      change AllowanceHeld (tcoActivated u)
      rcases tcoActivated_cases u with ⟨v, e⟩ | ⟨-, v, e⟩ <;> rw [e]
      · exact hu
      · exact latchTrip_held _ (s := { u with inputs := v }) hu
    case drvfltActivation =>
      change AllowanceHeld (drvfltActivated u)
      rcases drvfltActivated_cases u with ⟨v, e⟩ | ⟨-, v, e⟩ <;> rw [e]
      · exact hu
      · exact latchTrip_held _ (s := { u with inputs := v }) hu
    case afterrunTimerExpiry =>
      change AllowanceHeld (afterrunExpired u)
      rcases afterrunExpired_cases u with ⟨-, e⟩ | ⟨-, e⟩ <;> rw [e] <;> exact hu
    all_goals exact absurd rfl hne

end Sys2Proof.Machine
end

section
/-! The commanded duties follow the fan states (08 R139, R144). -/

namespace Sys2Proof.Machine

theorem fanLaw_looksAt : LooksAt [.fanSet, .fan] FanLaw := by
  intro s t hs h
  obtain ⟨e1, e2, e3⟩ : Same s t .fanSet := hs .fanSet (by simp)
  have e4 : t.fan = s.fan := hs .fan (by simp)
  unfold FanLaw
  rw [e1, e2, e3, e4]
  exact h

/-! ## The operations on one fan record -/

section
variable (quiet : Bool) (cap : Int) (r : FanRec)

theorem spinUp_lawful : dutyLawful quiet cap (spinUp r) := rfl

theorem turnOff_lawful : dutyLawful quiet cap (turnOff r) := rfl

/-- In quiet mode without override a target is never above the cap (08 R138). -/
theorem targetOf_le_cap (afterrun : Bool) (demand : Int) : targetOf true false afterrun cap demand ≤ cap := by
  cases afterrun <;> simp [targetOf, plainTarget]

/-- A slew from below the cap to a target below the cap stays below it (08 R139). -/
theorem slewToward_le {slew target d : Int} (hslew : 0 ≤ slew) (ht : target ≤ cap) (hd : d ≤ cap) :
    slewToward slew target d ≤ cap := by
  unfold slewToward
  split <;> omega

theorem runningDuty_le {slew target : Int} (hslew : 0 ≤ slew) (ht : target ≤ cap) (d : Int) :
    runningDuty true false cap slew target d ≤ cap := by
  simp only [runningDuty, Bool.false_eq_true, if_false, if_true]
  exact slewToward_le cap hslew ht (Int.min_le_right d cap)

variable {quiet cap r}

/-- A fan at a control period, its target being one that the cap bounds in quiet mode without override: what a RUNNING
fan had before does not matter (08 R139). -/
theorem driveFan_lawful {slew : Int} (hslew : 0 ≤ slew)
    (htarget : quiet = true → r.override.any = false → r.target ≤ cap)
    (h : r.state ≠ .running → dutyLawful quiet cap r) : dutyLawful quiet cap (driveFan quiet slew cap r) := by
  cases hstate : r.state with
  | off =>
    simp only [driveFan, hstate]
    split
    · exact spinUp_lawful quiet cap r
    · exact h (by simp [hstate])
  | running =>
    simp only [driveFan, hstate]
    split
    · exact turnOff_lawful quiet cap r
    · simp only [dutyLawful, hstate]
      intro hq ho
      rw [hq, ho]
      exact runningDuty_le cap hslew (htarget hq ho) r.duty
  | spinup | stalled | failed =>
    simp only [driveFan, hstate]
    exact h (by simp [hstate])

theorem controlFan_lawful {s : State} {f : Fan} (hslew : 0 ≤ s.set.slew)
    (h : dutyLawful s.set.quiet (s.set.fans.get f).quietCap r) :
    dutyLawful s.set.quiet (s.set.fans.get f).quietCap (controlFan s f r) := by
  unfold controlFan
  refine driveFan_lawful hslew (fun hq ho => ?_) (fun hn => ?_)
  · dsimp only at ho ⊢
    rw [hq, ho]
    exact targetOf_le_cap _ _ _
  · dsimp only at hn
    cases hstate : r.state <;> simp_all [dutyLawful]

theorem enterRunning_lawful : dutyLawful quiet cap (enterRunning quiet cap r) := by
  simp only [dutyLawful, enterRunning]
  intro hq ho
  simp only [hq, ho, Bool.not_false, Bool.and_self, if_true]
  exact Int.min_le_right _ _

theorem dropToCap_lawful (h : r.state ≠ .running → dutyLawful quiet cap r) :
    dutyLawful quiet cap (dropToCap quiet cap r) := by
  cases hstate : r.state with
  | running =>
    simp only [dropToCap, hstate]
    split
    · simp only [dutyLawful, hstate]
      exact fun _ _ => Int.min_le_right _ _
    · rename_i hn
      simp only [dutyLawful, hstate]
      intro hq ho
      simp [hq, ho] at hn
  | off | spinup | stalled | failed =>
    simp only [dropToCap, hstate]
    exact h (by simp [hstate])

/-- Outside RUNNING neither quiet mode nor the cap has a say. -/
theorem dutyLawful_of_not_running {quiet' : Bool} {cap' : Int} (hn : r.state ≠ .running)
    (h : dutyLawful quiet' cap' r) : dutyLawful quiet cap r := by
  cases hstate : r.state <;> simp_all [dutyLawful]

theorem stallFan_lawful : dutyLawful quiet cap (stallFan r) := by
  unfold stallFan
  split <;> rfl

/-- A judged window leaves the duty of a RUNNING fan that does not stall. -/
theorem judgeSpeed_lawful (stallSpeed : Int) (hstate : r.state = .running) (h : dutyLawful quiet cap r) :
    dutyLawful quiet cap (judgeSpeed stallSpeed r) := by
  simp only [dutyLawful, hstate] at h
  unfold judgeSpeed
  dsimp only
  split
  · simpa only [dutyLawful, hstate] using h
  · split
    · exact stallFan_lawful
    · simpa only [dutyLawful, hstate] using h

theorem clearFan_lawful (hstate : r.state = .failed) (h : dutyLawful quiet cap r) :
    dutyLawful quiet cap (clearFan r) := by
  simpa only [dutyLawful, hstate, clearFan] using h

end

/-! ## The law of the three fans -/

theorem fanLaw_setFan {s : State} {f : Fan} {r : FanRec} (h : FanLaw s)
    (hr : dutyLawful s.set.quiet (s.set.fans.get f).quietCap r) : FanLaw (s.setFan f r) := by
  refine ⟨h.1, fun x => ?_⟩
  by_cases hx : f = x
  · subst hx
    simpa [State.setFan] using hr
  · have := h.2 x
    simpa [State.setFan, PerFan.get_set_other _ _ _ _ hx] using this

theorem slew_range {v : Int} (h : slewOk v = true) : 1 ≤ v ∧ v ≤ 1000 := (within_iff _ _ _).mp h

theorem controlPeriod_fanLaw {s : State} (h : FanLaw s) : FanLaw (controlPeriod s) := by
  have hslew := slew_range h.1
  unfold controlPeriod
  split
  · refine ⟨h.1, fun f => ?_⟩
    simpa using controlFan_lawful (by omega) (h.2 f)
  · exact h

theorem judgeWindow_fanLaw (f : Fan) {s : State} (h : FanLaw s) : FanLaw (judgeWindow f s) := by
  have hm : dutyLawful s.set.quiet (s.set.fans.get f).quietCap (measure (s.fan.fans.get f)) := h.2 f
  unfold judgeWindow
  dsimp only
  split
  · rename_i hstate
    have hq := fanLaw_setFan h (judgeSpeed_lawful (s.set.fans.get f).stallSpeed hstate hm)
    split
    · exact hq
    · exact hq
  · exact fanLaw_setFan h hm

/-- A change of the settings of fan f, its record dropping to the cap. -/
theorem fanSetParams_fanLaw (a : FanArgs) {s : State} (h : FanLaw s) : FanLaw (fanSetParams a s).st := by
  unfold fanSetParams
  split
  · exact h
  · rename_i f _
    split
    · refine ⟨h.1, fun x => ?_⟩
      by_cases hx : f = x
      · subst hx
        simpa [accept, setFanSettings, State.setFan] using
          dropToCap_lawful (fun hn => dutyLawful_of_not_running hn (h.2 f))
      · have hold := h.2 x
        simpa [accept, setFanSettings, State.setFan, PerFan.get_set_other _ _ _ _ hx] using hold
    · exact h

/-- New settings of fan f with the same cap. -/
theorem setFanSettings_fanLaw {f : Fan} {g : FanSettings} {s : State}
    (hg : g.quietCap = (s.set.fans.get f).quietCap) (h : FanLaw s) : FanLaw (setFanSettings f g s) := by
  refine ⟨h.1, fun x => ?_⟩
  have hold := h.2 x
  by_cases hx : f = x
  · subst hx
    simpa [setFanSettings, hg] using hold
  · simpa [setFanSettings, PerFan.get_set_other _ _ _ _ hx] using hold

theorem startUp_fanLaw (s : State) : FanLaw (startUp s) := by
  have hkeep {l : List Part} {u v : State} (hu : FanLaw u) (hf : Frame l u v) (h1 : .fanSet ∉ l)
      (h2 : .fan ∉ l) : FanLaw v := fanLaw_looksAt.of_frame hf (by simp [Meets, h1, h2]) hu
  have hset : (startFans (loaded s)).set = (takeSettings s).set := (loaded_frame s).set_eq (by simp)
  have hstarted : FanLaw (startFans (loaded s)) := by
    refine ⟨?_, fun f => ?_⟩
    · rw [hset]
      exact (takeSettings_sound s).slew
    · simpa [startFans] using spinUp_lawful _ _ _
  rw [startUp_eq]
  have hprot := hkeep hstarted (startProtection_frame _) (by simp) (by simp)
  have hcomposed := hkeep hprot (firstComposition_frame _) (by simp [composeParts]) (by simp [composeParts])
  have hmdflt := hkeep hcomposed (examineMdflt_frame _) (by simp [motionParts, composeParts])
    (by simp [motionParts, composeParts])
  have hfaults := hkeep hmdflt (examineFaults_frame _) (by simp) (by simp)
  exact hkeep hfaults (startRequests_frame _) (by simp [motionParts, composeParts])
    (by simp [motionParts, composeParts])

/-- Settles O51: each operation leaves the duty that the fan state it leads to calls for (08 R139, R140, R142, R144). -/
theorem dutiesStayLawful : Obligations.DutiesStayLawful := by
  intro s t h hst
  refine ((Kept.of_looksAt fanLaw_looksAt (by simp) Kept.trivial (fun i u hm _ hu _ => ?_)
    (fun c u => ⟨rfl, fun f => by cases f <;> rfl⟩)
    (fun u _ _ _ => startUp_fanLaw u) (fun i u hne hm hu _ => ?_)).step ⟨h, .intro⟩ hst).1
  · cases i <;> (try simp [Meets, reach, motionParts, composeParts] at hm)
    all_goals
      rename_i v
      cases v
    case fanSetQuiet.form a =>
      change FanLaw (fanSetQuiet a u).st
      unfold fanSetQuiet
      split
      · refine ⟨hu.1, fun f => ?_⟩
        have hold := hu.2 f
        cases hstate : (u.fan.fans.get f).state <;> simp_all [dutyLawful, accept]
      · refine ⟨hu.1, fun f => ?_⟩
        simpa [accept, dropAll] using dropToCap_lawful (fun hn => dutyLawful_of_not_running hn (hu.2 f))
      · exact hu
    case fanClear.form a =>
      change FanLaw (fanClear a u).st
      unfold fanClear
      split
      · refine ⟨hu.1, fun f => ?_⟩
        simp only [PerFan.get_map]
        split
        · rename_i hc
          simp only [cleared, Bool.and_eq_true, decide_eq_true_eq] at hc
          exact clearFan_lawful hc.2 (hu.2 f)
        · exact hu.2 f
      · exact hu
    case fanSetCurve.form a =>
      change FanLaw (fanSetCurve a u).st
      unfold fanSetCurve
      split
      · exact hu
      · split
        · exact setFanSettings_fanLaw rfl hu
        · exact hu
    case fanSetBinding.form a =>
      change FanLaw (fanSetBinding a u).st
      unfold fanSetBinding
      split
      · exact hu
      · split
        · exact setFanSettings_fanLaw rfl hu
        · exact hu
    case fanSetParams.form a => exact fanSetParams_fanLaw a hu
    case fanSetSlew.form a =>
      change FanLaw (fanSetSlew a u).st
      unfold fanSetSlew
      split
      · rename_i hok
        exact ⟨hok, hu.2⟩
      · exact hu
    all_goals exact hu
  · cases i <;> (try simp [Meets, arrivalReach, motionParts, composeParts, completionParts, conversionParts] at hm)
    case fanControlPeriod => exact controlPeriod_fanLaw hu
    case spinupTimerExpiry f =>
      change FanLaw (spinupExpired f u)
      unfold spinupExpired
      dsimp only
      split
      · refine fanLaw_setFan hu ?_
        split
        · exact enterRunning_lawful
        · exact turnOff_lawful _ _ _
      · exact hu
    case tachEdge f =>
      change FanLaw (tachEdge f u)
      unfold tachEdge
      dsimp only
      split
      · exact hu
      · split
        · exact fanLaw_setFan (s := { u with inputs := _ }) hu (hu.2 f)
        · exact hu
    case tachWindowEnd f =>
      change FanLaw (tachWindowEnd f u)
      rcases tachWindowEnd_cases f u with ⟨-, e⟩ | ⟨-, -, e⟩ | ⟨-, -, e⟩ <;> rw [e]
      · exact hu
      · exact fanLaw_setFan hu (hu.2 f)
      · exact judgeWindow_fanLaw f hu
    case stopTimerExpiry f =>
      change FanLaw (stopExpired f u)
      unfold stopExpired
      dsimp only
      split
      · refine fanLaw_setFan hu ?_
        split
        · exact spinUp_lawful _ _ _
        · exact turnOff_lawful _ _ _
      · exact hu
    all_goals exact absurd rfl hne

end Sys2Proof.Machine
end

section
/-! The channel records and the round (01 R2, R8, R10, R14), and the filter windows (02 R19, R27, R28). -/

namespace Sys2Proof.Machine

/-! ## Channel records -/

theorem samplingLaw_looksAt : LooksAt [.smp, .round] SamplingLaw := by
  intro s t hs h
  have e1 : t.smp = s.smp := hs .smp (by simp)
  have e2 : t.set.round = s.set.round := hs .round (by simp)
  unfold SamplingLaw
  rw [e1, e2]
  exact h

theorem acceptTemp_lawful (v : Int) {r : ChannelRec} (h : r.lastCode ≤ 4095 ∧ r.invalidRun ≤ 255 ∧ r.validRun ≤ 255) :
    recordLawful (acceptTemp v r) :=
  ⟨h.1, h.2.1, h.2.2, length_pushWindow 4 _ _ (by decide), fun _ => rfl⟩

theorem acceptAngle_lawful (v : Int) {r : ChannelRec} (h : r.lastCode ≤ 4095 ∧ r.invalidRun ≤ 255 ∧ r.validRun ≤ 255)
    (hl : r.history.length ≤ 4) : recordLawful (acceptAngle v r) :=
  ⟨h.1, h.2.1, h.2.2, hl, fun _ => rfl⟩

theorem acceptCode_lawful (s : State) (k : Fin 10) (c : Nat) {r : ChannelRec}
    (h : r.lastCode ≤ 4095 ∧ r.invalidRun ≤ 255 ∧ r.validRun ≤ 255) (hl : r.history.length ≤ 4) :
    recordLawful (acceptCode s k c r) := by
  cases hk : kindOf k <;> simp only [acceptCode, hk]
  · exact acceptTemp_lawful _ h
  · exact acceptAngle_lawful _ h hl

/-- A sample leaves a lawful record when what accepts it does (01 R9 to R11). -/
theorem takeSample_lawful {accept : ChannelRec → ChannelRec} {c : Nat} {r : ChannelRec} (hc : c ≤ 4095)
    (haccept : ∀ q : ChannelRec, (q.lastCode ≤ 4095 ∧ q.invalidRun ≤ 255 ∧ q.validRun ≤ 255) → q.history.length ≤ 4 →
      recordLawful (accept q))
    (h : recordLawful r) : recordLawful (takeSample accept c r).1 := by
  obtain ⟨-, hinvalid, hvalid, hhistory, hfiltered⟩ := h
  unfold takeSample
  dsimp only
  split
  · unfold takeValid
    dsimp only
    split
    · rename_i hstate
      split
      · exact haccept _ ⟨hc, Nat.zero_le _, Nat.min_le_left _ _⟩ (Nat.zero_le _)
      · exact ⟨hc, Nat.zero_le _, Nat.min_le_left _ _, hhistory, fun hv => by simp [hstate] at hv⟩
    all_goals exact haccept _ ⟨hc, Nat.zero_le _, Nat.min_le_left _ _⟩ hhistory
  · have hcounts : min 255 (r.invalidRun + 1) ≤ 255 ∧ 0 ≤ 255 := ⟨Nat.min_le_left _ _, Nat.zero_le _⟩
    unfold takeInvalid
    dsimp only
    split
    · exact ⟨hc, hcounts.1, Nat.zero_le _, hhistory, hfiltered⟩
    all_goals
      split
      · exact ⟨hc, hcounts.1, Nat.zero_le _, hhistory, fun hv => by cases hv⟩
      · exact ⟨hc, hcounts.1, Nat.zero_le _, hhistory, hfiltered⟩

/-- A write of one place of a fixed row. -/
theorem Vector.get_set_cases {α : Type} {n : Nat} (v : Vector α n) (k j : Fin n) (a : α) :
    (k = j ∧ (v.set k a).get j = a) ∨ (k ≠ j ∧ (v.set k a).get j = v.get j) := by
  rcases k with ⟨k, hk⟩
  rcases j with ⟨j, hj⟩
  simp only [Vector.get_eq_getElem, Fin.mk.injEq, ne_eq]
  by_cases h : k = j
  · subst h
    simp
  · exact .inr ⟨h, Vector.getElem_set_ne hk hj h⟩

theorem putRecord_samplingLaw {s : State} {k : Fin 10} {r : ChannelRec} (h : SamplingLaw s) (hr : recordLawful r) :
    SamplingLaw (putRecord s k r) := by
  refine ⟨fun j => ?_, h.2⟩
  rcases Vector.get_set_cases s.smp.records k j r with ⟨-, e⟩ | ⟨-, e⟩
  · change recordLawful ((s.smp.records.set k r).get j)
    rw [e]
    exact hr
  · change recordLawful ((s.smp.records.set k r).get j)
    rw [e]
    exact h.1 j

theorem deliverCode_samplingLaw (k : Fin 10) (code : Nat) {s : State} (hc : code ≤ 4095) (h : SamplingLaw s) :
    SamplingLaw (deliverCode k code s) := by
  rw [deliverCode_eq]
  have hput := putRecord_samplingLaw (k := k) h (takeSample_lawful hc (fun q => acceptCode_lawful s k code) (h.1 k))
  exact samplingLaw_looksAt.of_frame (handValidity_frame _ _ _ _) (by simp [Meets])
    (samplingLaw_looksAt.of_frame (handOn_frame _ _ _) (by simp [Meets, motionParts, composeParts]) hput)

theorem endConversion_samplingLaw (rest : List (Fin 10)) {s : State} (hrest : rest.length ≤ 16) (h : SamplingLaw s) :
    SamplingLaw (endConversion rest s) := by
  obtain ⟨hrecords, -, hcount, hround⟩ := h
  unfold endConversion
  split
  · exact ⟨hrecords, Nat.zero_le _, Nat.mod_lt _ (by decide), hround⟩
  · exact ⟨hrecords, hrest, hcount, hround⟩

theorem conversionCompleted_samplingLaw (code : Nat) {s : State} (h : SamplingLaw s) :
    SamplingLaw (conversionCompleted code s) := by
  unfold conversionCompleted
  split
  · exact h
  · rename_i k rest hround
    have hlength : (k :: rest).length ≤ 16 := by
      rw [← hround]
      exact h.2.1
    exact endConversion_samplingLaw rest (by simp only [List.length_cons] at hlength; omega)
      (deliverCode_samplingLaw k _ (by omega) h)

/-! ## Triggers -/

/-- The law looks at the records, the round and its count alone. -/
theorem samplingLaw_of_records {s t : State} (h : SamplingLaw s) (h1 : t.smp.records = s.smp.records)
    (h2 : t.smp.round = s.smp.round) (h3 : t.smp.roundCount = s.smp.roundCount) (h4 : t.set.round = s.set.round) :
    SamplingLaw t := by
  unfold SamplingLaw
  rw [h1, h2, h3, h4]
  exact h

theorem roundTrigger_samplingLaw {s : State} (h : SamplingLaw s) : SamplingLaw (roundTrigger s) := by
  unfold roundTrigger
  split
  · have hround : 1 ≤ s.set.round.length ∧ s.set.round.length ≤ 16 := of_decide_eq_true h.2.2.2
    exact ⟨h.1, hround.2, h.2.2⟩
  · exact samplingLaw_of_records h rfl rfl rfl rfl

theorem countFrameStart_samplingLaw {s : State} (h : SamplingLaw s) : SamplingLaw (countFrameStart s) := by
  unfold countFrameStart qualified
  dsimp only
  split
  · split
    · exact samplingLaw_of_records h rfl rfl rfl rfl
    · split
      · exact roundTrigger_samplingLaw (samplingLaw_of_records h rfl rfl rfl rfl)
      · exact samplingLaw_of_records h rfl rfl rfl rfl
  · exact samplingLaw_of_records h rfl rfl rfl rfl

theorem frameToSampling_samplingLaw {s : State} (h : SamplingLaw s) : SamplingLaw (frameToSampling s) := by
  unfold frameToSampling
  dsimp only
  split
  · exact samplingLaw_of_records h rfl rfl rfl rfl
  · exact countFrameStart_samplingLaw (samplingLaw_of_records h rfl rfl rfl rfl)
  · exact countFrameStart_samplingLaw (samplingLaw_of_records h rfl rfl rfl rfl)

theorem clearPeaks_samplingLaw (m : Nat) {s : State} (h : SamplingLaw s) : SamplingLaw (clearPeaks m s) := by
  refine ⟨fun k => ?_, h.2⟩
  have hold := h.1 k
  simp only [clearPeaks, Vector.get_eq_getElem, Vector.getElem_mapIdx] at hold ⊢
  split
  · exact hold
  · exact hold

theorem resetPart_samplingLaw (c : ResetCause) (s : State) : SamplingLaw (resetPart c s) := by
  have hreset : ∀ k : Fin 10, recordLawful (State.reset.smp.records.get k) := by
    unfold recordLawful
    decide
  have hround : roundOk defaultSettings.round = true := by decide
  exact ⟨hreset, Nat.zero_le _, Nat.zero_lt_succ _, hround⟩

theorem startUp_samplingLaw {s : State} (h : SamplingLaw s) : SamplingLaw (startUp s) := by
  have hkeep {l : List Part} {u v : State} (hu : SamplingLaw u) (hf : Frame l u v) (h1 : .smp ∉ l)
      (h2 : .round ∉ l) : SamplingLaw v := samplingLaw_looksAt.of_frame hf (by simp [Meets, h1, h2]) hu
  have htaken : SamplingLaw (takeSettings s) := ⟨h.1, h.2.1, h.2.2.1, (takeSettings_sound s).round⟩
  rw [startUp_eq]
  have hloaded := hkeep htaken (loaded_frame s) (by simp) (by simp)
  have hfans := hkeep hloaded (startFans_frame _) (by simp) (by simp)
  have hprot := hkeep hfans (startProtection_frame _) (by simp) (by simp)
  have hcomposed := hkeep hprot (firstComposition_frame _) (by simp [composeParts]) (by simp [composeParts])
  have hmdflt := hkeep hcomposed (examineMdflt_frame _) (by simp [motionParts, composeParts])
    (by simp [motionParts, composeParts])
  have hfaults := hkeep hmdflt (examineFaults_frame _) (by simp) (by simp)
  exact hkeep hfaults (startRequests_frame _) (by simp [motionParts, composeParts])
    (by simp [motionParts, composeParts])

/-- Settles O57: a code leaves a lawful record, and a round is the list of the settings, entry by entry (01 R2, R8 to R14). -/
theorem recordsStayLawful : Obligations.RecordsStayLawful := by
  intro s t h hst
  refine ((Kept.of_looksAt samplingLaw_looksAt (by simp) Kept.trivial (fun i u hm _ hu _ => ?_)
    (fun c u => resetPart_samplingLaw c u)
    (fun u _ hu _ => startUp_samplingLaw hu) (fun i u hne hm hu _ => ?_)).step ⟨h, .intro⟩ hst).1
  · cases i <;> (try simp [Meets, reach, motionParts, composeParts] at hm)
    all_goals
      rename_i v
      cases v
    case smpSetRound.form l =>
      change SamplingLaw (smpSetRound l u).st
      unfold smpSetRound
      split
      · exact hu
      · split
        · rename_i hok
          exact ⟨hu.1, hu.2.1, hu.2.2.1, hok⟩
        · exact hu
    case smpSetTrigger.form a =>
      change SamplingLaw (smpSetTrigger a u).st
      unfold smpSetTrigger
      split
      · exact hu
      · split
        · exact samplingLaw_of_records hu rfl rfl rfl rfl
        · exact hu
    case smpClearPeak.form m =>
      change SamplingLaw (smpClearPeak m u).st
      unfold smpClearPeak
      split
      · exact clearPeaks_samplingLaw m hu
      · exact hu
    all_goals exact hu
  · cases i <;> (try simp [Meets, arrivalReach, motionParts, composeParts, completionParts] at hm)
    case conversionCompletion code => exact conversionCompleted_samplingLaw code hu
    case frameStart =>
      change SamplingLaw (frameStart u)
      unfold frameStart
      split
      · exact hu
      · exact samplingLaw_looksAt.of_frame (trySwap_frame _).frame (by simp [Meets]) (frameToSampling_samplingLaw hu)
    case delayTimerExpiry =>
      change SamplingLaw (delayExpired u)
      unfold delayExpired
      split
      · exact roundTrigger_samplingLaw (samplingLaw_of_records hu rfl rfl rfl rfl)
      · exact hu
    case periodTimerExpiry =>
      change SamplingLaw (periodExpired u)
      unfold periodExpired
      split
      · exact hu
      · split
        · exact roundTrigger_samplingLaw hu
        · exact hu
    case smpVideoWatchExpiry =>
      change SamplingLaw (smpVideoExpired u)
      unfold smpVideoExpired
      dsimp only
      split
      · split <;> exact samplingLaw_of_records hu rfl rfl rfl rfl
      · exact hu
    all_goals exact absurd rfl hne

end Sys2Proof.Machine
end

section
/-! The filter windows and the orientation count (02 R19, R27, R28). -/

namespace Sys2Proof.Machine

theorem attitudeLaw_looksAt : LooksAt [.att] AttitudeLaw := by
  intro s t hs h
  have e : t.att = { s.att with refused := t.att.refused } := hs .att (by simp)
  unfold AttitudeLaw
  rw [e]
  exact h

/-- The law looks at the windows and the count alone. -/
theorem attitudeLaw_of_windows {s t : State} (h : AttitudeLaw s) (h1 : t.att.windows = s.att.windows)
    (h2 : t.att.count = s.att.count ∨ t.att.count ≤ 7) : AttitudeLaw t := by
  unfold AttitudeLaw
  rw [h1]
  exact ⟨h.1, h2.elim (fun e => e ▸ h.2) id⟩

theorem composed_attitudeLaw {s t : State} (h : AttitudeLaw s) (hf : Frame composeParts s t) : AttitudeLaw t :=
  attitudeLaw_looksAt.of_frame hf (by simp [Meets, composeParts]) h

theorem windowLawful_nil : windowLawful [] := ⟨Nat.zero_le _, fun _ hv => absurd hv List.not_mem_nil⟩

theorem windowLawful_pushWindow {l : List Int} {v : Int} (hl : windowLawful l) (hv : -9000 ≤ v ∧ v ≤ 9000) :
    windowLawful (pushWindow 16 l v) := by
  refine ⟨length_pushWindow 16 l v (by decide), fun w hw => ?_⟩
  rcases mem_pushWindow 16 l v w hw with hw | rfl
  · exact hl.2 w hw
  · exact hv

/-- One window and the count are written. -/
theorem attitudeLaw_setWindow (c : AngleCh) {l : List Int} {n : Nat} {s : State} (h : AttitudeLaw s)
    (hl : windowLawful l) (hn : n ≤ 7) :
    AttitudeLaw { s with att := { s.att with windows := s.att.windows.set c l, count := n } } := by
  refine ⟨fun d => ?_, hn⟩
  have hd := h.1 d
  cases c <;> cases d <;> first | exact hl | exact hd

theorem emptyWindow_attitudeLaw (c : AngleCh) {s : State} (h : AttitudeLaw s) : AttitudeLaw (emptyWindow c s) := by
  refine attitudeLaw_setWindow c h windowLawful_nil ?_
  split
  · exact Nat.zero_le _
  · exact h.2

theorem follow_attitudeLaw (f : Int) {s : State} (h : AttitudeLaw s) : AttitudeLaw (follow f s) := by
  have hc : AttitudeLaw (compose s.set.geo .both (setPitch f s.set.pRef s)).1 :=
    composed_attitudeLaw (s := setPitch f s.set.pRef s) h (compose_frame _ _ _).frame
  unfold follow
  dsimp only
  split
  · exact hc
  · exact attitudeLaw_looksAt.of_frame (frame_raise _ _ _) (by simp [Meets]) (attitudeLaw_of_windows hc rfl (.inl rfl))

theorem followDecision_attitudeLaw (f : Int) {s : State} (h : AttitudeLaw s) : AttitudeLaw (followDecision f s) := by
  unfold followDecision
  split
  · exact h
  · split
    · exact follow_attitudeLaw f h
    · exact h

theorem changeOrientation_attitudeLaw (o : Orientation) (d : Dest) {s : State} (h : AttitudeLaw s) :
    AttitudeLaw (changeOrientation o d s) := by
  have hr : AttitudeLaw (raise d .orientationChanged { s with att := { s.att with effective := o } }) :=
    attitudeLaw_looksAt.of_frame (frame_raise _ _ _) (by simp [Meets]) (attitudeLaw_of_windows h rfl (.inl rfl))
  exact attitudeLaw_of_windows (composed_attitudeLaw hr (composeOrHold_frame _ _).frame) rfl (.inl rfl)

theorem detectOrientation_attitudeLaw (f : Int) {s : State} (h : AttitudeLaw s) :
    AttitudeLaw (detectOrientation f s) := by
  have hzero : AttitudeLaw { s with att := { s.att with count := 0 } } :=
    attitudeLaw_of_windows h rfl (.inr (Nat.zero_le _))
  unfold detectOrientation
  split
  · exact hzero
  · split
    · exact hzero
    · split
      · exact changeOrientation_attitudeLaw _ _ hzero
      · exact attitudeLaw_of_windows h rfl (.inr (by dsimp only; omega))

theorem rollTest_attitudeLaw (f : Int) {s : State} (h : AttitudeLaw s) : AttitudeLaw (rollTest f s) := by
  unfold rollTest
  split
  · split
    · exact attitudeLaw_of_windows h rfl (.inl rfl)
    · exact h
  · split
    · exact attitudeLaw_looksAt.of_frame (frame_raise _ _ _) (by simp [Meets])
        (attitudeLaw_of_windows h rfl (.inl rfl))
    · exact h

theorem angleDecision_attitudeLaw (c : AngleCh) {s : State} (h : AttitudeLaw s) : AttitudeLaw (angleDecision c s) := by
  unfold angleDecision
  split
  · exact h
  · rename_i f _
    split <;> split
    · exact followDecision_attitudeLaw f h
    · exact h
    · exact rollTest_attitudeLaw f h
    · exact h
    · exact detectOrientation_attitudeLaw f h
    · exact h

theorem offerAngle_attitudeLaw (c : AngleCh) {v : Int} (hv : -9000 ≤ v ∧ v ≤ 9000) {s : State} (h : AttitudeLaw s) :
    AttitudeLaw (offerAngle c v s) := by
  unfold offerAngle
  split
  · exact h
  · exact angleDecision_attitudeLaw c (attitudeLaw_setWindow c h (windowLawful_pushWindow (h.1 c) hv) h.2)

/-- An accepted sample leaves what its acceptance gives (01 R9, R11). -/
theorem takeSample_accepted {accept : ChannelRec → ChannelRec} {c : Nat} {r : ChannelRec}
    (h : (takeSample accept c r).2 = .accepted) : ∃ q, (takeSample accept c r).1 = accept q := by
  have hvalid : ∀ u : ChannelRec, (takeValid accept u).2 = .accepted → ∃ q, (takeValid accept u).1 = accept q := by
    intro u hu
    cases hv : u.validity <;> simp only [takeValid, hv] at hu ⊢
    case fault =>
      split at hu
      · rename_i h4
        exact ⟨_, by rw [if_pos h4]⟩
      · cases hu
    all_goals exact ⟨_, rfl⟩
  have hinvalid : ∀ u : ChannelRec, (takeInvalid u).2 ≠ .accepted := by
    intro u hu
    cases hv : u.validity <;> simp only [takeInvalid, hv] at hu
    all_goals (first | cases hu | (split at hu <;> cases hu))
  unfold takeSample at h ⊢
  dsimp only at h ⊢
  split at h
  · rename_i hc
    rw [if_pos hc]
    exact hvalid _ h
  · exact absurd h (hinvalid _)

theorem handOn_attitudeLaw (k : Fin 10) (u : State) (code : Nat) (r : ChannelRec) {s : State} (h : AttitudeLaw s) :
    AttitudeLaw (handOn s k (takeSample (acceptCode u k code) code r)) := by
  have hcomp : ∀ v, AttitudeLaw (evaluateComp v s) := fun v =>
    attitudeLaw_looksAt.of_frame (evaluateComp_frame v s).frame (by simp [Meets, motionParts, composeParts]) h
  have hraise : AttitudeLaw (raise .both .sensorFault s) :=
    attitudeLaw_looksAt.of_frame (frame_raise _ _ _) (by simp [Meets]) h
  unfold handOn
  split
  · rename_i haccepted
    obtain ⟨q, hq⟩ := takeSample_accepted haccepted
    rw [hq]
    unfold handAccepted
    split
    · rename_i a v hk hv
      have hv' : v = codeAngle (u.set.angle.get a) code := by
        simp only [acceptCode, hk, acceptAngle, Option.some.injEq] at hv
        exact hv.symm
      subst hv'
      exact offerAngle_attitudeLaw a (clamp_range _ _ _ (by decide)) h
    · split
      · exact hcomp _
      · exact h
    · exact h
  · exact h
  · unfold handFault
    dsimp only
    split
    · exact emptyWindow_attitudeLaw _ hraise
    · exact hraise

theorem conversionCompleted_attitudeLaw (code : Nat) {s : State} (h : AttitudeLaw s) :
    AttitudeLaw (conversionCompleted code s) := by
  unfold conversionCompleted
  split
  · exact h
  · refine attitudeLaw_looksAt.of_frame (endConversion_frame _ _) (by simp [Meets]) ?_
    rw [deliverCode_eq]
    refine attitudeLaw_looksAt.of_frame (handValidity_frame _ _ _ _) (by simp [Meets]) ?_
    exact handOn_attitudeLaw _ s _ _ h

theorem startUp_attitudeLaw {s : State} (h : AttitudeLaw s) : AttitudeLaw (startUp s) := by
  have hkeep {l : List Part} {u v : State} (hu : AttitudeLaw u) (hf : Frame l u v) (h1 : .att ∉ l) : AttitudeLaw v :=
    attitudeLaw_looksAt.of_frame hf (by simp [Meets, h1]) hu
  have htaken : AttitudeLaw (takeSettings s) := attitudeLaw_of_windows h rfl (.inl rfl)
  rw [startUp_eq]
  have hloaded := hkeep htaken (loaded_frame s) (by simp)
  have hfans := hkeep hloaded (startFans_frame _) (by simp)
  have hprot := hkeep hfans (startProtection_frame _) (by simp)
  have hcomposed := hkeep hprot (firstComposition_frame _) (by simp [composeParts])
  have hmdflt := hkeep hcomposed (examineMdflt_frame _) (by simp [motionParts, composeParts])
  have hfaults := hkeep hmdflt (examineFaults_frame _) (by simp)
  exact hkeep hfaults (startRequests_frame _) (by simp [motionParts, composeParts])

theorem resetPart_attitudeLaw (c : ResetCause) (s : State) : AttitudeLaw (resetPart c s) :=
  ⟨fun d => by cases d <;> exact windowLawful_nil, Nat.zero_le _⟩

theorem captureLevel_attitudeLaw (p : Port) {s : State} (h : AttitudeLaw s) :
    AttitudeLaw (captureLevel p () s).st := by
  unfold captureLevel
  split
  · exact h
  · rename_i f _
    split
    · have hc : AttitudeLaw (compose s.set.geo (.port p) (setPitch f f s)).1 :=
        composed_attitudeLaw (s := setPitch f f s) h (compose_frame _ _ _).frame
      dsimp only
      split
      · exact hc
      · exact attitudeLaw_of_windows hc rfl (.inl rfl)
    · exact h

theorem attSetOrientation_attitudeLaw (p : Port) (a : Nat) {s : State} (h : AttitudeLaw s) :
    AttitudeLaw (attSetOrientation p a s).st := by
  have hset : ∀ g, AttitudeLaw (setOrientation g s) := fun g => attitudeLaw_of_windows h rfl (.inr (Nat.zero_le _))
  have hname : ∀ o g, AttitudeLaw (nameOrientation p o (setOrientation g s)) := fun o g => by
    unfold nameOrientation
    split
    · exact hset g
    · exact changeOrientation_attitudeLaw _ _ (hset g)
  unfold attSetOrientation
  split
  · exact hname _ _
  · exact hname _ _
  · exact hset _
  · exact h

theorem attSetParams_attitudeLaw (a : AttArgs) {s : State} (h : AttitudeLaw s) : AttitudeLaw (attSetParams a s).st := by
  unfold attSetParams
  dsimp only
  split
  · refine ⟨h.1, ?_⟩
    change (if _ then s.att.count else 0) ≤ 7
    split
    · exact h.2
    · exact Nat.zero_le _
  · exact h

/-- Settles O58: an angle is clamped to 90 degrees before the filters, and the eighth count is a change (02 R19, R27). -/
theorem windowsStayLawful : Obligations.WindowsStayLawful := by
  intro s t h hst
  refine ((Kept.of_looksAt attitudeLaw_looksAt (by simp) Kept.trivial (fun i u hm _ hu _ => ?_)
    (fun c u => resetPart_attitudeLaw c u) (fun u _ hu _ => startUp_attitudeLaw hu)
    (fun i u hne hm hu _ => ?_)).step ⟨h, .intro⟩ hst).1
  · cases i <;> (try simp [Meets, reach, motionParts, composeParts] at hm)
    all_goals
      rename_i v
      cases v
    case captureLevel.form p _ => exact captureLevel_attitudeLaw p hu
    case attSetOrientation.form p a => exact attSetOrientation_attitudeLaw p a hu
    case attSetParams.form a => exact attSetParams_attitudeLaw a hu
    all_goals exact hu
  · cases i <;> (try simp [Meets, arrivalReach, motionParts, composeParts, completionParts] at hm)
    case conversionCompletion code => exact conversionCompleted_attitudeLaw code hu
    all_goals exact absurd rfl hne

end Sys2Proof.Machine
end

section
/-! What reaches the banks, the corners and the events: outside the Mesh Port, the transmitter and the resets, every
command and arrival is a sequence of events, compositions, rebuild requests and writes of other parts. A law of the
banks, of the meshes or of the Port Unit is kept by it when it is kept by each of these. -/

namespace Sys2Proof.Machine

/-- The parts that neither the banks nor the Port Unit belong to. -/
def writeParts : List Part :=
  [.round, .record, .axisSet, .fanSet, .protSet, .restSet, .smp, .att, .geo, .axes, .mq, .fan, .prot, .store]

/-- t follows from s by events, compositions, rebuild requests, and writes that leave the panel and its corners alone. -/
inductive Moves : State → State → Prop
  | write {s t : State} : Frame writeParts s t → t.set.geo.width = s.set.geo.width →
    t.set.geo.height = s.set.geo.height → t.geo.corners = s.geo.corners → Moves s t
  | raise (d : Dest) (k : EventKind) (s : State) : Moves s (raise d k s)
  | compose (g : GeoRecord) (d : Dest) (s : State) :
    (panelOk s.set.geo.width s.set.geo.height = true → panelOk g.width g.height = true) → Moves s (compose g d s).1
  | rebuild (force : Bool) (s : State) : Moves s (rebuild force s)
  | trans {s t u : State} : Moves s t → Moves t u → Moves s u

namespace Moves
variable {s t : State}

theorem refl (s : State) : Moves s s := .write (Frame.refl _ s) rfl rfl rfl

/-- A law that each kind of move keeps. -/
theorem keeps {P : State → Prop}
    (hwrite : ∀ s t, Frame writeParts s t → t.set.geo.width = s.set.geo.width →
      t.set.geo.height = s.set.geo.height → t.geo.corners = s.geo.corners → P s → P t)
    (hraise : ∀ d k s, P s → P (Machine.raise d k s))
    (hcompose : ∀ g d s, (panelOk s.set.geo.width s.set.geo.height = true → panelOk g.width g.height = true) →
      P s → P (Machine.compose g d s).1)
    (hrebuild : ∀ force s, P s → P (Machine.rebuild force s)) (h : Moves s t) : P s → P t := by
  induction h with
  | write hf h1 h2 h3 => exact hwrite _ _ hf h1 h2 h3
  | raise d k s => exact hraise d k s
  | compose g d s hg => exact hcompose g d s hg
  | rebuild force s => exact hrebuild force s
  | trans _ _ ih1 ih2 => exact fun h => ih2 (ih1 h)

/-- A write of parts that reach neither the panel nor its corners. -/
theorem of_frame {l : List Part} (hf : Frame l s t) (hl : l ⊆ writeParts) (h1 : .record ∉ l) (h2 : .geo ∉ l) :
    Moves s t := by
  have e1 : t.set.geo = s.set.geo := hf.same h1
  have e2 : t.geo = s.geo := hf.same h2
  exact .write (hf.mono hl) (by rw [e1]) (by rw [e1]) (by rw [e2])

/-- A composition of the record in force. -/
theorem recompose (d : Dest) (s : State) : Moves s (Machine.compose s.set.geo d s).1 := .compose _ _ _ id

theorem axes (s : State) (x : PerAxis AxisRec) : Moves s { s with axes := x } :=
  of_frame (frame_axes s x) (by simp [writeParts]) (by simp) (by simp)

theorem mq (s : State) (x : Queue) : Moves s { s with mq := x } :=
  of_frame (frame_mq s x) (by simp [writeParts]) (by simp) (by simp)

theorem att (s : State) (x : Attitude) : Moves s { s with att := x } :=
  of_frame (frame_att s x) (by simp [writeParts]) (by simp) (by simp)

theorem prot (s : State) (x : Protection) : Moves s { s with prot := x } :=
  of_frame (frame_prot s x) (by simp [writeParts]) (by simp) (by simp)

theorem fc (s : State) (x : FocusComp) : Moves s { s with fc := x } :=
  of_frame (l := []) (by intro p; cases p <;> simp [Same]) (by simp) (by simp) (by simp)

theorem inputs (s : State) (x : Inputs) : Moves s { s with inputs := x } :=
  of_frame (frame_inputs s x) (by simp) (by simp) (by simp)

theorem fan (s : State) (x : FanController) : Moves s { s with fan := x } :=
  of_frame (frame_fan s x) (by simp [writeParts]) (by simp) (by simp)

/-- A write of the geometry state that leaves the corners. -/
theorem geo (s : State) (x : Geometry) (h : x.corners = s.geo.corners) : Moves s { s with geo := x } :=
  .write ((frame_geo s x).mono (by simp [writeParts])) rfl rfl h

/-- A write of the record that leaves the panel. -/
theorem record (s : State) (g : GeoRecord) (h1 : g.width = s.set.geo.width) (h2 : g.height = s.set.geo.height) :
    Moves s { s with set := { s.set with geo := g } } :=
  .write ((frame_record s g).mono (by simp [writeParts])) h1 h2 rfl

/-- The last move first, so that the state before it is read off the goal. -/
theorem last {u : State} (k : Moves t u) (h : Moves s t) : Moves s u := h.trans k

theorem ite {c : Bool} (h : Moves s t) : Moves s (if c then t else s) := by
  cases c
  · exact refl s
  · exact h

end Moves

/-! ## Compositions -/

theorem composeOrHold_moves (d : Dest) (s : State) : Moves s (composeOrHold d s) := by
  unfold composeOrHold
  dsimp only
  split
  · exact .recompose d s
  · exact .last (.raise _ _ _) (.last (.geo _ _ rfl) (.recompose d s))

theorem zoomSettle_moves (s : State) : Moves s (zoomSettle s) := by
  unfold zoomSettle
  dsimp only
  split
  · exact .refl s
  · exact .last (composeOrHold_moves _ _) (.geo s _ rfl)

theorem firstComposition_moves (s : State) : Moves s (firstComposition s) := by
  unfold firstComposition
  dsimp only
  split
  · exact .recompose _ s
  · exact .last (.rebuild _ _) (.last (.raise _ _ _) (.last (.geo _ _ rfl) (.recompose _ s)))

theorem tryRecord_moves (p : Port) (g : GeoRecord) (k : Status) (s : State)
    (hg : panelOk s.set.geo.width s.set.geo.height = true → panelOk g.width g.height = true) :
    Moves s (tryRecord p g k s).st := by
  unfold tryRecord
  dsimp only
  split <;> exact .compose g _ s hg

theorem setPitch_moves (app ref : Int) (s : State) : Moves s (setPitch app ref s) :=
  Moves.trans (t := { s with att := { s.att with pApp := app } }) (.att s _)
    (.of_frame (frame_restSet _ { s.set with pRef := ref } ⟨rfl, rfl, rfl, rfl, rfl, rfl, rfl⟩) (by simp [writeParts])
      (by simp) (by simp))

theorem changeOrientation_moves (o : Orientation) (d : Dest) (s : State) : Moves s (changeOrientation o d s) :=
  (((Moves.att s _).trans (.raise d _ _)).trans (composeOrHold_moves _ _)).trans (.att _ _)

/-! ## The Motion Queue -/

theorem settleGeometry_moves (r : Request) (s : State) : Moves s (settleGeometry r s).1 := by
  unfold settleGeometry
  split
  · exact .refl s
  · split
    · exact .refl s
    · exact .compose _ _ s id

theorem accountComp_moves (r : Request) (s : State) : Moves s (accountComp r s) := by
  unfold accountComp
  split
  · exact .fc s _
  · exact .refl s

theorem recordOutcome_moves (r : Request) (o : Outcome) (s : State) : Moves s (recordOutcome r o s) := by
  have hlist : Moves s (listOutcome r o s) := by
    unfold listOutcome
    split
    · exact .refl s
    · exact .mq s _
  unfold recordOutcome raiseOutcome
  split
  · split
    · exact hlist.trans (.raise _ _ _)
    · exact hlist
  · exact hlist.trans (.raise _ _ _)

/-- A write of the axes and the queue. -/
theorem moves_motion (s : State) (x : PerAxis AxisRec) (q : Queue) : Moves s { s with axes := x, mq := q } :=
  (Moves.axes s x).trans (.mq _ q)

theorem dropRequest_moves (k : Nat) (s : State) : Moves s (dropRequest k s) := moves_motion s _ _

theorem endRequest_moves (r : Request) (o : Outcome) (s : State) : Moves s (endRequest r o s) := by
  have h : Moves s (if o = .done && r.kind = .recall then settleGeometry r s else (s, o)).1 := by
    split
    · exact settleGeometry_moves r s
    · exact .refl s
  unfold endRequest
  exact h.trans ((accountComp_moves r _).trans ((dropRequest_moves _ _).trans (recordOutcome_moves r _ _)))

theorem endIfAtRest_moves (k : Nat) (s : State) : Moves s (endIfAtRest k s) := by
  unfold endIfAtRest
  split
  · exact .refl s
  · split
    · exact endRequest_moves _ _ s
    · exact .refl s

theorem dispatch_moves (r : Request) (s : State) : Moves s (dispatch r s) := by
  have hhand : ∀ o (u : State), Moves u (endIfAtRest r.serial (handTargets r o u)) := fun o u =>
    (moves_motion u _ _).trans (endIfAtRest_moves _ _)
  have hhome : ∀ u : State, Moves u (startHomingAxes r u) := fun u => by
    unfold startHomingAxes
    split
    · exact .mq u _
    · exact .axes u _
  have hbind : Moves s (bindRequest r s) := moves_motion s _ _
  unfold dispatch
  refine hbind.trans ?_
  unfold dispatchWork
  split
  · exact (hhome _).trans (endIfAtRest_moves _ _)
  · split
    · split
      · exact endRequest_moves _ _ _
      · exact hhand _ _
    · exact endRequest_moves _ _ _
  all_goals
    split
    · exact hhand _ _
    · exact endRequest_moves _ _ _

theorem dispatchPass_moves (n : Nat) (s : State) : Moves s (dispatchPass n s) := by
  induction n generalizing s with
  | zero => exact .refl s
  | succ n ih =>
    unfold dispatchPass
    split
    · exact .refl s
    · exact (dispatch_moves _ s).trans (ih _)

theorem finishRequests_moves (n : Nat) (s : State) : Moves s (finishRequests n s) := by
  induction n generalizing s with
  | zero => exact .refl s
  | succ n ih =>
    unfold finishRequests
    split
    · exact .refl s
    · exact (endRequest_moves _ _ s).trans ((dispatchPass_moves _ _).trans (ih _))

theorem settleQueue_moves (s : State) : Moves s (settleQueue s) :=
  (finishRequests_moves _ s).trans (dispatchPass_moves _ _)

theorem partFailed_moves (x : Axis) (s : State) : Moves s (partFailed x s) := by
  unfold partFailed
  split
  · exact settleQueue_moves s
  · exact (moves_motion s _ _).trans (settleQueue_moves _)

theorem stopNamed_moves (w : PerAxis Bool) (s : State) : Moves s (stopNamed w s) :=
  (moves_motion s _ _).trans (settleQueue_moves _)

theorem driverFault_moves (s : State) : Moves s (driverFault s) :=
  ((moves_motion s _ _).trans (.raise _ _ _)).trans (settleQueue_moves _)

theorem homeTimedOut_moves (x : Axis) (s : State) : Moves s (homeTimedOut x s) :=
  (Moves.axes s _).trans (partFailed_moves x _)

theorem tryEnqueue_moves (r : Request) (k : Status) (s : State) : Moves s (tryEnqueue r k s).st := by
  unfold tryEnqueue
  split
  · exact .refl s
  · split
    · exact .refl s
    · unfold enqueue
      dsimp only
      refine Moves.trans (t := joinQueue r s) (.mq s _) (Moves.trans ?_ (dispatchPass_moves _ _))
      split
      · exact .mq _ _
      · exact .refl _

theorem evaluateComp_moves (v : Int) (s : State) : Moves s (evaluateComp v s) := by
  unfold evaluateComp
  dsimp only
  split
  · refine Moves.trans (t := { s with fc := { s.fc with lastTarget := some (compTargetOf s.set.fc v) } }) (.fc s _) ?_
    unfold askComp
    split
    · exact .mq _ _
    · split
      · exact .refl _
      · split
        · exact .refl _
        · exact Moves.trans (.mq _ _) (dispatchPass_moves _ _)
  · exact .fc s _

theorem startRequests_moves (s : State) : Moves s (startRequests s) := by
  unfold startRequests
  split
  · dsimp only
    refine Moves.trans ?_ (dispatchPass_moves _ _)
    split
    · exact .mq s _
    · exact Moves.trans (t := joinQueue (startRequest .home 0) s) (.mq s _) (.mq _ _)
  · exact .refl s

/-! ## Attitude and conversions -/

theorem follow_moves (f : Int) (s : State) : Moves s (follow f s) := by
  have hc : Moves s (compose s.set.geo .both (setPitch f s.set.pRef s)).1 :=
    (setPitch_moves f s.set.pRef s).trans (.compose _ _ _ id)
  unfold follow
  dsimp only
  split
  · exact hc
  · exact ((hc.trans (setPitch_moves _ _ _)).trans (.att _ _)).trans (.raise _ _ _)

theorem angleDecision_moves (c : AngleCh) (s : State) : Moves s (angleDecision c s) := by
  have hfollow : ∀ f, Moves s (followDecision f s) := fun f => by
    unfold followDecision
    split
    · exact .att s _
    · split
      · exact follow_moves f s
      · exact .refl s
  have hroll : ∀ f, Moves s (rollTest f s) := fun f => by
    unfold rollTest
    split
    · split
      · exact .att s _
      · exact .refl s
    · split
      · exact (Moves.att s _).trans (.raise _ _ _)
      · exact .refl s
  have horient : ∀ f, Moves s (detectOrientation f s) := fun f => by
    unfold detectOrientation
    split
    · exact .att s _
    · split
      · exact .att s _
      · split
        · exact (Moves.att s _).trans (changeOrientation_moves _ _ _)
        · exact .att s _
  unfold angleDecision
  split
  · exact .refl s
  · split <;> split
    · exact hfollow _
    · exact .refl s
    · exact hroll _
    · exact .refl s
    · exact horient _
    · exact .refl s

theorem offerAngle_moves (c : AngleCh) (v : Int) (s : State) : Moves s (offerAngle c v s) := by
  unfold offerAngle
  split
  · exact .refl s
  · exact (Moves.att s _).trans (angleDecision_moves c _)

theorem conversionCompleted_moves (code : Nat) (s : State) : Moves s (conversionCompleted code s) := by
  refine conversionCompleted_keeps (P := Moves s) code (fun t k r h => h.trans ?_) (fun t k q h => h.trans ?_)
    (fun t h => h.trans ?_) (fun t rest h => h.trans ?_) (.refl s)
  · exact .of_frame (frame_smp t _) (by simp [writeParts]) (by simp) (by simp)
  · exact handOn_keeps (P := Moves t) k q (fun c v h => h.trans (offerAngle_moves c v t))
      (fun v h => h.trans (evaluateComp_moves v t)) (fun h => h.trans (.raise _ _ _)) (fun c u h => h.trans (.att u _))
      (.refl t)
  · exact .of_frame (judgeStartup_frame t) (by simp [writeParts]) (by simp) (by simp)
  · exact .of_frame (endConversion_frame t rest) (by simp [writeParts]) (by simp) (by simp)

/-! ## Allowance and trip -/

theorem setAllowance_moves (a : Int) (s : State) : Moves s (setAllowance a s) := by
  unfold setAllowance
  dsimp only
  split
  · exact (Moves.prot s _).trans (.raise _ _ _)
  · exact .prot s _

theorem latchTrip_moves (c : TripCause) (s : State) : Moves s (latchTrip c s) := by
  unfold latchTrip
  split
  · exact .refl s
  · exact (((Moves.prot s _).trans (setAllowance_moves _ _)).trans (.prot _ _)).trans (.raise _ _ _)

theorem evaluate_moves (s : State) : Moves s (evaluate s) := by
  unfold evaluate
  split
  · refine Moves.trans (t := testTrip (passPeriod s)) (Moves.trans (t := passPeriod s) (.prot s _) ?_)
      (Moves.trans (t := formRaw (testTrip (passPeriod s))) (.prot _ _) ?_)
    · unfold testTrip
      split
      · exact .refl _
      · exact latchTrip_moves _ _
    · unfold moveAllowance
      split
      · exact .refl _
      · exact setAllowance_moves _ _
  · exact .refl s

theorem examineFaults_moves (s : State) : Moves s (examineFaults s) := by
  unfold examineFaults
  exact Moves.trans (.ite (latchTrip_moves _ _)) (.ite (latchTrip_moves _ _))

/-- What follows the load and its first two events (11 R188). -/
theorem startUp_moves (s : State) : Moves (loaded s) (startUp s) := by
  rw [startUp_eq]
  exact (((((Moves.fan _ _).trans (.prot _ _)).trans (firstComposition_moves _)).trans
    (.ite (driverFault_moves _))).trans (examineFaults_moves _)).trans (startRequests_moves _)

/-! ## The commands and the arrivals -/

theorem rebuildIfWarped_moves (s : State) : Moves s (rebuildIfWarped s) := .ite (.rebuild false s)

/-- A write of the settings that leaves the record. -/
theorem moves_set (s : State) (g : Settings) (h : g.geo = s.set.geo) : Moves s { s with set := g } :=
  .write (fun p => by cases p <;> first | exact .inr rfl | exact .inl (by simp [writeParts])) (by rw [← h]) (by rw [← h]) rfl

theorem acceptEdit_moves (i j : Nat) (d : Pt) (k : Status) (s : State) : Moves s (acceptEdit i j d k s).st :=
  Moves.trans (t := setEntry i j d s) (moves_set s _ rfl) (rebuildIfWarped_moves _)

theorem rangeReply_moves (i j : Nat) (s : State) : Moves s (rangeReply i j s).st := by
  unfold rangeReply
  split <;> exact .refl s

theorem editChecks_moves (i j : Nat) (ok : Bool) (e : Option Comps) (edit : State → Answer) (s : State)
    (h : Moves s (edit s).st) : Moves s (editChecks i j ok e edit s).st := by
  unfold editChecks
  split
  · split
    · exact .refl s
    · exact h
  · exact rangeReply_moves i j s

theorem captureLevel_moves (p : Port) (s : State) : Moves s (captureLevel p () s).st := by
  unfold captureLevel
  split
  · exact .refl s
  · rename_i f _
    split
    · have hc : Moves s (compose s.set.geo (.port p) (setPitch f f s)).1 :=
        (setPitch_moves f f s).trans (.compose _ _ _ id)
      dsimp only
      split
      · exact hc
      · exact hc.trans (setPitch_moves _ _ _)
    · exact .refl s

theorem attSetOrientation_moves (p : Port) (a : Nat) (s : State) : Moves s (attSetOrientation p a s).st := by
  have hset : ∀ g, Moves s (setOrientation g s) := fun g =>
    Moves.trans (t := { s with set := { s.set with orientation := g } }) (moves_set s _ rfl) (.att _ _)
  have hname : ∀ o g, Moves s (nameOrientation p o (setOrientation g s)) := fun o g => by
    unfold nameOrientation
    split
    · exact hset g
    · exact (hset g).trans (changeOrientation_moves _ _ _)
  unfold attSetOrientation
  split
  · exact hname _ _
  · exact hname _ _
  · exact hset _
  · exact .refl s

theorem axisSetParams_moves (a : AxisArgs) (s : State) : Moves s (axisSetParams a s).st := by
  unfold axisSetParams
  split
  · split
    · split
      · exact .refl s
      · unfold replaceAxisSettings
        dsimp only
        split
        · exact .last (settleQueue_moves _) (.last (.axes _ _) (moves_set s _ rfl))
        · exact moves_set s _ rfl
    · exact .refl s
  · exact .refl s

theorem fcSet_moves (a : FcArgs) (s : State) : Moves s (fcSet a s).st := by
  unfold fcSet
  split
  · exact .refl s
  · split
    · dsimp only
      split
      · exact moves_set s _ rfl
      · exact .last (dispatchPass_moves _ _) (.last (.mq _ _) (moves_set s _ rfl))
    · exact .refl s

theorem protSetParams_moves (a : ProtArgs) (s : State) : Moves s (protSetParams a s).st := by
  unfold protSetParams
  split
  · refine Moves.trans (t := { s with set := { s.set with prot := protSettingsOf a } }) (moves_set s _ rfl) ?_
    change Moves _ (liftToFloor _)
    unfold liftToFloor
    split
    · exact setAllowance_moves _ _
    · exact .refl _
  · exact .refl s

theorem geoSetPanel_moves (p : Port) (a : Pt) (s : State) : Moves s (geoSetPanel p a s).st := by
  unfold geoSetPanel
  split
  · rename_i h
    exact tryRecord_moves p _ _ s fun _ => h
  · exact .refl s

theorem fwSetLimit_moves (n : Nat) (s : State) : Moves s (fwSetLimit n s).st := by
  have happly : Moves s (applyLimit n s) :=
    Moves.trans (t := { s with set := { s.set with geo := { s.set.geo with fineLimit := n } } })
      (.record s _ rfl rfl) (moves_set _ _ rfl)
  unfold fwSetLimit
  split
  · dsimp only
    split
    · exact happly.trans (rebuildIfWarped_moves _)
    · exact happly
  · exact .refl s

theorem fwEnable_moves (n : Nat) (s : State) : Moves s (fwEnable n s).st := by
  have hset : ∀ on, Moves s (setFineWarp on s) := fun on => .record s _ rfl rfl
  unfold fwEnable
  split
  · exact (hset _).trans (.rebuild _ _)
  · exact (hset _).trans (.rebuild _ _)
  · exact .refl s

theorem geoSetFollow_moves (n : Nat) (s : State) : Moves s (geoSetFollow n s).st := by
  have hset : ∀ on, Moves s (setFollow on s) := fun on =>
    Moves.trans (t := { s with set := { s.set with geo := { s.set.geo with follow := on } } })
      (.record s _ rfl rfl) (.att _ _)
  unfold geoSetFollow
  split
  · exact hset _
  · exact hset _
  · exact .refl s

theorem judgeWindow_moves (f : Fan) (s : State) : Moves s (judgeWindow f s) := by
  unfold judgeWindow
  dsimp only
  split
  · split
    · exact .last (.raise _ _ _) (.fan s _)
    · exact .fan s _
  · exact .fan s _

/-- The commands and arrivals that act on the Mesh Port, on the banks, on the Port Unit's own record, or on everything. -/
def ownEffect : Instr → Bool
  | .readEvents _ _ | .setEventMask _ _ | .frameStart | .computationCompletion | .presVideoWatchExpiry | .mpStatus
  | .mpReadRows _ | .mpSetFormat _ | .mpUnknownCommand _ | .mcsnRelease | .i2cWriteOverflow | .interbyteGapExpiry
  | .txFrameSent | .unknownCommand _ _ | .reset _ _ | .powerOnReset | .powerLoss | .rstnLow | .rstnRise
  | .loadCompletion => true
  | _ => false

/-- Every other command is a sequence of moves. -/
theorem answerOf_moves (i : Instr) (s : State) (h : ownEffect i = false) : Moves s (answerOf i s).st := by
  cases i <;> (try cases h)
  case captureLevel v => cases v <;> [exact captureLevel_moves _ s; exact .refl s]
  case attSetOrientation v => cases v <;> [exact attSetOrientation_moves _ _ s; exact .refl s]
  case geoSetCorner v =>
    cases v with
    | misfit => exact .refl s
    | form a =>
      change Moves s (geoSetCorner _ a s).st
      unfold geoSetCorner
      split
      · exact .refl s
      · exact tryRecord_moves _ _ _ s id
  case geoSetCorners v => cases v <;> [exact tryRecord_moves _ _ _ s id; exact .refl s]
  case geoNudgeCorner v =>
    cases v with
    | misfit => exact .refl s
    | form a =>
      change Moves s (geoNudgeCorner _ a s).st
      unfold geoNudgeCorner
      split
      · exact .refl s
      · split
        · exact tryRecord_moves _ _ _ s id
        · exact .refl s
  case geoZeroCorners v => cases v <;> [exact tryRecord_moves _ _ _ s id; exact .refl s]
  case geoSetMode v =>
    cases v with
    | misfit => exact .refl s
    | form a =>
      change Moves s (geoSetMode _ a s).st
      unfold geoSetMode
      split
      · exact tryRecord_moves _ _ _ s id
      · exact tryRecord_moves _ _ _ s id
      · exact .refl s
  case geoSetFollow v => cases v <;> [exact geoSetFollow_moves _ s; exact .refl s]
  case geoSetPanel v => cases v <;> [exact geoSetPanel_moves _ _ s; exact .refl s]
  case geoSetZoomTable v =>
    cases v with
    | misfit => exact .refl s
    | form a =>
      change Moves s (geoSetZoomTable _ a s).st
      unfold geoSetZoomTable
      split
      · exact .refl s
      · split
        · exact tryRecord_moves _ _ _ s id
        · exact .refl s
  case geoClearClip v => cases v <;> [exact .geo s _ rfl; exact .refl s]
  case fwSet v =>
    cases v with
    | form a =>
      refine editChecks_moves _ _ _ _ _ s ?_
      split
      · exact acceptEdit_moves _ _ _ _ s
      · exact .refl s
    | noForm i j => exact rangeReply_moves i j s
    | misfit => exact .refl s
  case fwNudge v =>
    cases v with
    | form a => exact editChecks_moves _ _ _ _ _ s (acceptEdit_moves _ _ _ _ s)
    | noForm i j => exact rangeReply_moves i j s
    | misfit => exact .refl s
  case fwZero v =>
    cases v with
    | form a => exact editChecks_moves _ _ _ _ _ s (acceptEdit_moves _ _ _ _ s)
    | noForm i j => exact rangeReply_moves i j s
    | misfit => exact .refl s
  case fwZeroAll v =>
    cases v <;> [exact .last (rebuildIfWarped_moves _) (moves_set s _ rfl); exact .refl s]
  case fwSetLimit v => cases v <;> [exact fwSetLimit_moves _ s; exact .refl s]
  case fwEnable v => cases v <;> [exact fwEnable_moves _ s; exact .refl s]
  case stop v =>
    cases v with
    | misfit => exact .refl s
    | form a =>
      change Moves s (stopCommand a s).st
      unfold stopCommand
      split
      · exact .refl s
      · exact stopNamed_moves _ s
  case axisSetParams v => cases v <;> [exact axisSetParams_moves _ s; exact .refl s]
  case mqMove v =>
    cases v with
    | misfit => exact .refl s
    | form a =>
      change Moves s (mqMove _ a s).st
      unfold mqMove
      dsimp only
      split
      · exact tryEnqueue_moves _ _ s
      · exact .refl s
  case mqStep v =>
    cases v with
    | misfit => exact .refl s
    | form a =>
      change Moves s (mqStep _ a s).st
      unfold mqStep
      dsimp only
      split
      · exact tryEnqueue_moves _ _ s
      · exact .refl s
  case mqHome v =>
    cases v with
    | misfit => exact .refl s
    | form a =>
      change Moves s (mqHome _ a s).st
      unfold mqHome
      split
      · exact tryEnqueue_moves _ _ s
      · exact .refl s
  case mqRecall v =>
    cases v with
    | misfit => exact .refl s
    | form a =>
      change Moves s (mqRecall _ a s).st
      unfold mqRecall
      split
      · exact tryEnqueue_moves _ _ s
      · exact .refl s
  case flush v => cases v <;> [exact .last (dispatchPass_moves _ _) (.mq s _); exact .refl s]
  case fcSet v => cases v <;> [exact fcSet_moves _ s; exact .refl s]
  case protSetParams v => cases v <;> [exact protSetParams_moves _ s; exact .refl s]
  all_goals exact .of_frame (answerOf_frame _ s) (by simp [reach, writeParts]) (by simp [reach]) (by simp [reach])

/-- Every other arrival is a sequence of moves. -/
theorem arrivalOf_moves (i : Instr) (s : State) (h : ownEffect i = false) : Moves s (arrivalOf i s) := by
  cases i <;> (try cases h)
  case conversionCompletion code => exact conversionCompleted_moves code s
  case settleTimeExpiry x =>
    change Moves s (settleExpired x s)
    unfold settleExpired
    dsimp only
    split
    · refine .last (settleQueue_moves _) ?_
      split
      · exact .last (zoomSettle_moves _) (.axes s _)
      · exact .axes s _
    · exact .refl s
  case homeTimeout x =>
    change Moves s (Machine.homeTimeout x s)
    unfold Machine.homeTimeout
    dsimp only
    split
    · split
      · exact homeTimedOut_moves x s
      · exact .refl s
    · exact .refl s
  case indexEdge x =>
    change Moves s (Machine.indexEdge x s)
    unfold Machine.indexEdge
    dsimp only
    split
    · exact .refl s
    · split
      · exact .last (partFailed_moves x _) (.last (.axes _ _) (.inputs s _))
      · exact .inputs s _
  case mdfltActivation =>
    change Moves s (mdfltActivated s)
    unfold mdfltActivated
    dsimp only
    split
    · exact .refl s
    · split
      · exact .inputs s _
      · exact .last (driverFault_moves _) (.inputs s _)
  case stepIssued x d =>
    change Moves s (Machine.stepIssued x d s)
    unfold Machine.stepIssued
    dsimp only
    split
    · exact .axes s _
    · exact .axes s _
    · split
      · split
        · exact homeTimedOut_moves x s
        · exact .axes s _
      · exact .refl s
    · exact .refl s
  case tachWindowEnd f =>
    rcases tachWindowEnd_cases f s with ⟨-, e⟩ | ⟨-, -, e⟩ | ⟨-, -, e⟩
    · change Moves s (Machine.tachWindowEnd f s)
      rw [e]
      exact .refl s
    · change Moves s (Machine.tachWindowEnd f s)
      rw [e]
      exact .fan s _
    · change Moves s (Machine.tachWindowEnd f s)
      rw [e]
      exact judgeWindow_moves f s
  case protectionPeriodExpiry => exact evaluate_moves s
  case tcoActivation =>
    change Moves s (tcoActivated s)
    rcases tcoActivated_cases s with ⟨u, e⟩ | ⟨-, u, e⟩ <;> rw [e]
    · exact .inputs s u
    · exact (Moves.inputs s u).trans (latchTrip_moves _ _)
  case drvfltActivation =>
    change Moves s (drvfltActivated s)
    rcases drvfltActivated_cases s with ⟨u, e⟩ | ⟨-, u, e⟩ <;> rw [e]
    · exact .inputs s u
    · exact (Moves.inputs s u).trans (latchTrip_moves _ _)
  case saveCompletion =>
    change Moves s (saveCompleted s)
    unfold saveCompleted
    split
    · exact .last (.raise _ _ _)
        (.of_frame (frame_store s _) (by simp [writeParts]) (by simp) (by simp))
    · exact .refl s
  all_goals
    exact .of_frame (arrivalOf_frame _ s) (by simp [arrivalReach, writeParts]) (by simp [arrivalReach])
      (by simp [arrivalReach])

/-- A law that every move keeps, and that does not look at the Port Unit, is kept by every step when it also survives the
taking of the settings and each arrival that acts on the banks itself. -/
theorem Kept.of_moves {look : List Part} {P Q : State → Prop} (hlook : LooksAt look P) (hport : .port ∉ look)
    (hQ : Kept Q) (hmoves : ∀ s t, Moves s t → P s → P t) (hreset : ∀ c s, P (resetPart c s))
    (htake : ∀ s, P s → P (takeSettings s))
    (arrival : ∀ i s, ownEffect i = true → arrivalReach i ≠ allParts → Meets look (arrivalReach i) → P s → Q s →
      P (arrivalOf i s)) : Kept fun s => P s ∧ Q s := by
  refine Kept.of_looksAt hlook hport hQ (fun i s hm _ h _ => ?_) hreset (fun s _ h _ => ?_)
    (fun i s hne hm h hq => ?_)
  · cases hown : ownEffect i with
    | false => exact hmoves _ _ (answerOf_moves i s hown) h
    | true =>
      exfalso
      obtain ⟨p, hp, hp'⟩ := hm
      cases i <;> cases hown <;> simp [reach] at hp'
      all_goals exact hport (hp' ▸ hp)
  · exact hmoves _ _ (startUp_moves s) (hlook.of_frame (loaded_frame s)
      (fun ⟨p, hp, hp'⟩ => hport (List.mem_singleton.mp hp' ▸ hp)) (htake s h))
  · cases hown : ownEffect i with
    | false => exact hmoves _ _ (arrivalOf_moves i s hown) h
    | true => exact arrival i s hown hne hm h hq

end Sys2Proof.Machine
end

section
/-! The banks, the engine and the swap agree (04 R66, R67, R72; 05 R75 to R78). -/

namespace Sys2Proof.Machine

/-! ## The law as a relation of two bank states, the engine's bank and the swap -/

/-- The bank that the engine computes into. -/
def EngineState.bank : EngineState → Option BankId
  | .idle => none
  | .computing i _ => some i

/-- Bank i in state x, the other bank in state y, the engine at e and the swap at w agree. -/
def agrees (i : BankId) (x y : BankState) (e : Option BankId) (w : SwapState) : Prop :=
  (x = .writing ↔ e = some i) ∧ (y = .writing ↔ e = some i.other) ∧ ¬ (x.shown = true ∧ y.shown = true)
    ∧ ¬ (x = .ready ∧ y = .ready) ∧ (e ≠ none → x ≠ .ready ∧ y ≠ .ready) ∧ (w ≠ .none ↔ x = .ready ∨ y = .ready)

/-- The law without its clause on a waiting request. -/
def BanksAgree (i : BankId) (s : State) : Prop :=
  agrees i (s.pres.banks.get i).state (s.pres.banks.get i.other).state s.eng.state.bank s.pres.swap

theorem EngineState.bank_eq (e : EngineState) (i : BankId) : e.bank = some i ↔ ∃ snap, e = .computing i snap := by
  cases e <;> simp [EngineState.bank]

@[simp] theorem BankId.other_other (i : BankId) : i.other.other = i := by cases i <;> rfl

theorem BankId.ne_other (i : BankId) : i ≠ i.other := by cases i <;> decide

theorem BankId.eq_or_other (i j : BankId) : j = i ∨ j = i.other := by cases i <;> cases j <;> simp [BankId.other]

@[simp] theorem PerBank.get_set_opposite (v : PerBank) (i : BankId) (b : Bank) :
    (v.set i b).get i.other = v.get i.other := PerBank.get_set_other v i i.other b i.ne_other

@[simp] theorem PerBank.get_set_opposite' (v : PerBank) (i : BankId) (b : Bank) :
    (v.set i.other b).get i = v.get i := PerBank.get_set_other v i.other i b i.ne_other.symm

/-- One of two banks. -/
theorem exists_bank (i : BankId) (p : BankId → Prop) : (∃ j, p j) ↔ p i ∨ p i.other := by
  constructor
  · rintro ⟨j, hj⟩
    rcases i.eq_or_other j with rfl | rfl
    · exact .inl hj
    · exact .inr hj
  · rintro (h | h)
    · exact ⟨i, h⟩
    · exact ⟨i.other, h⟩

/-- The law, from the side of either bank. -/
theorem bankLaw_iff (i : BankId) (s : State) :
    BankLaw s ↔ BanksAgree i s
      ∧ (s.eng.state = .idle → s.eng.pendingReq = true →
          (s.pres.banks.get i).state = .ready ∨ (s.pres.banks.get i.other).state = .ready) := by
  unfold BankLaw BanksAgree agrees writingLawful
  rw [exists_bank i fun j => (s.pres.banks.get j).state = .ready]
  cases hs : s.eng.state with
  | idle =>
    cases i <;> simp only [PerBank.get, BankId.other, EngineState.bank] <;>
      simp only [reduceCtorEq, exists_false, iff_false] <;> tauto
  | computing j snap =>
    cases i <;> cases j <;> simp only [PerBank.get, BankId.other, EngineState.bank] <;>
      simp [EngineState.computing.injEq] <;> grind

theorem bankLaw_looksAt : LooksAt [.eng, .pres] BankLaw := by
  intro s t hs h
  have e1 : t.eng = s.eng := hs .eng (by simp)
  have e2 : t.pres = s.pres := hs .pres (by simp)
  unfold BankLaw writingLawful
  rw [e1, e2]
  exact h

/-- The law looks at the states of the banks, at the swap, and at the engine's state and waiting request. -/
theorem bankLaw_of_states {s t : State} (h : BankLaw s)
    (hbanks : ∀ i, (t.pres.banks.get i).state = (s.pres.banks.get i).state) (hswap : t.pres.swap = s.pres.swap)
    (hbank : t.eng.state.bank = s.eng.state.bank)
    (hwait : t.eng.pendingReq = true → s.eng.pendingReq = true ∨ t.eng.state ≠ .idle) : BankLaw t := by
  obtain ⟨hagree, hpending⟩ := (bankLaw_iff .a s).1 h
  refine (bankLaw_iff .a t).2 ⟨?_, fun hidle hp => ?_⟩
  · unfold BanksAgree
    rw [hbanks, hbanks, hswap, hbank]
    exact hagree
  · rw [hbanks, hbanks]
    have hs : s.eng.state = .idle := by
      rw [hidle] at hbank
      cases h : s.eng.state <;> simp_all [EngineState.bank]
    exact hpending hs ((hwait hp).resolve_right fun hn => hn hidle)

/-! ## Computations -/

theorem buildBank_some {i : BankId} {s : State} (hagree : BanksAgree i s) (hidle : s.eng.state = .idle) :
    ∃ j, buildBank s.pres.banks = some j
      ∧ ((s.pres.banks.get j).state = .ready
        ∨ ((s.pres.banks.get j).state = .empty ∧ (s.pres.banks.get j.other).state ≠ .ready)) := by
  unfold BanksAgree agrees at hagree
  rw [hidle] at hagree
  unfold buildBank PerBank.find
  cases ha : s.pres.banks.a.state <;> cases hb : s.pres.banks.b.state <;> cases i <;>
    simp_all [PerBank.get, BankId.other, EngineState.bank, BankState.shown]

theorem banksAgree_other {i : BankId} {s : State} (h : BanksAgree i s) : BanksAgree i.other s := by
  unfold BanksAgree agrees at *
  rw [BankId.other_other]
  grind

theorem banksAgree_any {i : BankId} (j : BankId) {s : State} (h : BanksAgree i s) : BanksAgree j s := by
  rcases i.eq_or_other j with rfl | rfl
  · exact h
  · exact banksAgree_other h

/-- A computation starts (04 R67). -/
theorem startComputation_bankLaw {i : BankId} {s : State} (h : BanksAgree i s) (hidle : s.eng.state = .idle) :
    BankLaw (startComputation s) := by
  obtain ⟨j, hj, hstate⟩ := buildBank_some h hidle
  have hagree := banksAgree_any j h
  unfold startComputation
  rw [hj]
  refine (bankLaw_iff j _).2 ⟨?_, fun he => by cases he⟩
  unfold BanksAgree agrees at *
  rw [hidle] at hagree
  simp only [beginComputation, PerBank.setState, PerBank.get_set_same, PerBank.get_set_opposite, EngineState.bank] at *
  have hne := j.ne_other
  grind [BankState.shown]

theorem bankFreed_bankLaw {i : BankId} {s : State} (h : BanksAgree i s) : BankLaw (bankFreed s) := by
  unfold bankFreed
  split
  · rename_i hc
    exact (bankLaw_iff i s).2 ⟨h, fun he => by rw [hc] at he; cases he⟩
  · rename_i hidle
    split
    · exact startComputation_bankLaw
        (s := { s with eng := { s.eng with pendingReq := false, restarts := 0 } }) (i := i) h hidle
    · rename_i hp
      exact (bankLaw_iff i s).2 ⟨h, fun _ hp' => absurd hp' hp⟩

theorem forceWaiting_bankLaw {s : State} (h : BankLaw s) : BankLaw (forceWaiting s) := by
  unfold forceWaiting
  split
  · exact h
  · rename_i i _
    refine bankLaw_of_states h (fun j => ?_) rfl rfl (fun hp => .inl hp)
    rcases i.eq_or_other j with rfl | rfl <;> simp

theorem rebuild_bankLaw (force : Bool) {s : State} (h : BankLaw s) : BankLaw (rebuild force s) := by
  have hmark : BankLaw (if force then { s with eng := { s.eng with allDirty := true } } else s) := by
    split
    · exact bankLaw_of_states h (fun _ => rfl) rfl rfl (fun hp => .inl hp)
    · exact h
  unfold rebuild
  revert hmark
  generalize (if force then { s with eng := { s.eng with allDirty := true } } else s) = t
  intro ht
  dsimp only
  split
  · rename_i hc
    exact bankLaw_of_states ht (fun _ => rfl) rfl rfl (fun _ => .inr (by rw [hc]; simp))
  · rename_i hidle
    split
    · split
      · exact forceWaiting_bankLaw ht
      · exact ht
    · exact startComputation_bankLaw ((bankLaw_iff .a t).1 ht).1 hidle

/-! ## Swaps and reads -/

theorem find_state {v : PerBank} {k : BankState} {i : BankId} (h : v.find k = some i) : (v.get i).state = k := by
  unfold PerBank.find at h
  split at h
  · cases h
    assumption
  · split at h
    · cases h
      assumption
    · cases h

theorem swapTo_bankLaw {i : BankId} {s : State} (h : BanksAgree i s) (hready : (s.pres.banks.get i).state = .ready)
    (hother : (s.pres.banks.get i.other).state = .live ∨ (s.pres.banks.get i.other).state = .empty) :
    BankLaw (swapTo i s) := by
  unfold swapTo
  refine bankFreed_bankLaw (i := i) ?_
  unfold BanksAgree agrees at *
  rcases hother with hother | hother <;>
    simp_all [PerBank.setState, BankState.shown]

theorem trySwap_bankLaw {s : State} (h : BankLaw s) : BankLaw (trySwap s) := by
  unfold trySwap
  split
  · exact h
  · rename_i i hfind
    have hready := find_state hfind
    obtain ⟨hagree, hpending⟩ := (bankLaw_iff i s).1 h
    split
    · rename_i hother
      exact swapTo_bankLaw hagree hready (.inl hother)
    · rename_i hother
      exact swapTo_bankLaw hagree hready (.inr hother)
    · refine (bankLaw_iff i _).2 ⟨?_, hpending⟩
      unfold BanksAgree agrees at *
      simp_all
    · exact h
    · exact h

theorem beginRead_bankLaw {s : State} (h : BankLaw s) : BankLaw (beginRead s) := by
  unfold beginRead
  split
  · exact h
  · rename_i i hfind
    have hlive := find_state hfind
    obtain ⟨hagree, hpending⟩ := (bankLaw_iff i s).1 h
    refine (bankLaw_iff i _).2 ⟨?_, ?_⟩ <;> unfold BanksAgree agrees at * <;>
      simp_all [PerBank.setState, BankState.shown]

theorem endRead_bankLaw {s : State} (h : BankLaw s) : BankLaw (endRead s) := by
  unfold endRead
  split
  · exact h
  · rename_i i hfind
    have hreading := find_state hfind
    obtain ⟨hagree, hpending⟩ := (bankLaw_iff i s).1 h
    have hback : BankLaw { s with pres := { s.pres with banks := s.pres.banks.setState i .live } } := by
      refine (bankLaw_iff i _).2 ⟨?_, ?_⟩ <;> unfold BanksAgree agrees at * <;>
        simp_all [PerBank.setState, BankState.shown]
    dsimp only
    split
    · exact hback
    · exact trySwap_bankLaw hback

/-! ## The completion of a computation -/

theorem finishComputation_bankLaw {i : BankId} {snap : Snapshot} {s : State} (h : BankLaw s)
    (hc : s.eng.state = .computing i snap) : BankLaw (finishComputation i s) := by
  obtain ⟨hagree, -⟩ := (bankLaw_iff i s).1 h
  have hready : BankLaw { s with
      pres := { s.pres with
        banks := s.pres.banks.set i { s.pres.banks.get i with
          state := .ready, dirty := if s.eng.allDirty then allRows else (s.pres.banks.get i).dirty },
        swap := .waiting },
      eng := { s.eng with state := .idle, restarts := 0, allDirty := false } } := by
    refine (bankLaw_iff i _).2 ⟨?_, ?_⟩ <;> unfold BanksAgree agrees at * <;>
      simp_all [EngineState.bank, BankState.shown, i.ne_other]
  unfold finishComputation
  dsimp only
  split
  · exact hready
  · exact trySwap_bankLaw hready

theorem reportVertexClip_frame (s : State) (snap : Snapshot) : Frame [.geo, .port] s (reportVertexClip s snap) := by
  unfold reportVertexClip
  split
  · exact Frame.refl _ s
  · obtain ⟨c, u, e⟩ := reportClip_frame (.vertex _ _ _) .both s
    rw [e]
    intro p
    cases p <;> simp [Same]

theorem completeComputation_bankLaw {i : BankId} {snap : Snapshot} {s : State} (h : BankLaw s)
    (hc : s.eng.state = .computing i snap) : BankLaw (completeComputation i snap s) := by
  have hstored : BankLaw (meshStored s i snap) := by
    refine bankLaw_of_states h (fun j => ?_) rfl rfl (fun hp => .inl hp)
    rcases i.eq_or_other j with rfl | rfl <;> simp [meshStored]
  have hclip : BankLaw (reportVertexClip (meshStored s i snap) snap) :=
    bankLaw_looksAt.of_frame (reportVertexClip_frame _ _) (by simp [Meets]) hstored
  have heng : (reportVertexClip (meshStored s i snap) snap).eng.state = .computing i snap := by
    have e : (reportVertexClip (meshStored s i snap) snap).eng = (meshStored s i snap).eng :=
      (reportVertexClip_frame _ _).same (p := .eng) (by simp)
    rw [e]
    exact hc
  rw [completeComputation_eq]
  dsimp only
  split
  · exact bankLaw_of_states hclip (fun _ => rfl) rfl (by rw [heng]; rfl) (fun hp => by cases hp)
  · exact finishComputation_bankLaw hclip heng

/-! ## The Mesh Port -/

/-- A write of the Presentation Unit that leaves the banks and the swap. -/
theorem bankLaw_of_pres {s : State} {u : Presentation} (h : BankLaw s) (h1 : u.banks = s.pres.banks)
    (h2 : u.swap = s.pres.swap) : BankLaw { s with pres := u } :=
  bankLaw_of_states h (fun i => by rw [← h1]) h2 rfl (fun hp => .inl hp)

theorem takeMesh_bankLaw (n : Nat) (l : List Byte) {s : State} (h : BankLaw s) : BankLaw (takeMesh n l s) :=
  bankLaw_of_pres h rfl rfl

theorem ignoreMesh_bankLaw {s : State} (h : BankLaw s) : BankLaw (ignoreMesh s) := by
  unfold ignoreMesh
  split
  · exact bankLaw_of_pres h rfl rfl
  · exact h

theorem selectFormat_bankLaw (f : Format) {s : State} (h : BankLaw s) : BankLaw (selectFormat f s) := by
  have hf : BankLaw { s with pres := { s.pres with selected := f } } := bankLaw_of_pres h rfl rfl
  unfold selectFormat
  dsimp only
  split
  · exact bankLaw_of_states hf (fun _ => rfl) rfl rfl (fun hp => .inl hp)
  · exact rebuild_bankLaw true hf

theorem mpReadRows_bankLaw (v : Params ReadArgs) {s : State} (h : BankLaw s) : BankLaw (mpReadRows v s) := by
  unfold mpReadRows
  split
  · dsimp only
    split <;> exact takeMesh_bankLaw _ _ (beginRead_bankLaw h)
  · exact ignoreMesh_bankLaw h

theorem mpSetFormat_bankLaw (v : Params Nat) {s : State} (h : BankLaw s) : BankLaw (mpSetFormat v s) := by
  unfold mpSetFormat
  split
  · split
    · exact takeMesh_bankLaw _ _ h
    · exact takeMesh_bankLaw _ _ (selectFormat_bankLaw _ h)
    · exact takeMesh_bankLaw _ _ (selectFormat_bankLaw _ h)
    · exact takeMesh_bankLaw _ _ h
  · exact ignoreMesh_bankLaw h

/-! ## Every other command and arrival -/

theorem compose_bankLaw (g : GeoRecord) (d : Dest) {s : State} (h : BankLaw s) : BankLaw (compose g d s).1 := by
  have hreport : BankLaw (reportCornerClip (candidate g s) d s) := by
    obtain ⟨k, u, e⟩ := reportCornerClip_frame (candidate g s) d s
    rw [e]
    exact bankLaw_looksAt _ _ (fun p hp => by cases p <;> simp_all [Same]) h
  unfold compose
  dsimp only
  split
  · exact rebuild_bankLaw false (bankLaw_looksAt _ _ (fun p hp => by cases p <;> simp_all [Same]) hreport)
  · exact hreport

theorem Moves.bankLaw {s t : State} (hm : Moves s t) : BankLaw s → BankLaw t :=
  hm.keeps (fun _ _ hf _ _ _ h => bankLaw_looksAt.of_frame hf (by simp [Meets, writeParts]) h)
    (fun _ _ _ h => bankLaw_looksAt.of_frame (frame_raise _ _ _) (by simp [Meets]) h)
    (fun g d _ _ h => compose_bankLaw g d h) (fun force _ h => rebuild_bankLaw force h)

theorem resetPart_bankLaw (c : ResetCause) (s : State) : BankLaw (resetPart c s) :=
  ⟨by simp [writingLawful, resetPart, State.reset, Presentation.reset, Engine.reset, Bank.reset, PerBank.get],
    by simp [writingLawful, resetPart, State.reset, Presentation.reset, Engine.reset, Bank.reset, PerBank.get],
    by simp [resetPart, Presentation.reset, Bank.reset, BankState.shown],
    by simp [resetPart, Presentation.reset, Bank.reset],
    fun i snap h => by simp [resetPart, State.reset, Engine.reset] at h,
    ⟨fun h => absurd rfl h, fun ⟨i, h⟩ => by cases i <;> cases h⟩, fun _ h => by cases h⟩

/-- Settles O52: a bank passes from state to state together with the engine and the swap (04 R66, R67, R72; 05 R75 to
R78). -/
theorem banksStayLawful : Obligations.BanksStayLawful := by
  intro s t h hst
  refine ((Kept.of_moves bankLaw_looksAt (by simp) Kept.trivial (fun u v hm => hm.bankLaw)
    (fun c u => resetPart_bankLaw c u) (fun u hu => ?_) (fun i u hown hne hm hu _ => ?_)).step ⟨h, .intro⟩ hst).1
  · exact bankLaw_looksAt.of_frame (takeSettings_frame u) (by simp [Meets]) hu
  cases i <;> (try exact absurd hown Bool.false_ne_true) <;> (try simp [Meets, arrivalReach] at hm)
  case frameStart =>
    change BankLaw (frameStart u)
    unfold frameStart
    split
    · exact hu
    · exact trySwap_bankLaw (bankLaw_of_pres (s := frameToSampling u)
        (bankLaw_looksAt.of_frame (frameToSampling_frame u) (by simp [Meets]) hu) rfl rfl)
  case computationCompletion =>
    change BankLaw (computationCompleted u)
    unfold computationCompleted
    split
    · exact hu
    · rename_i hc
      exact completeComputation_bankLaw hu hc
  case presVideoWatchExpiry =>
    change BankLaw (presVideoExpired u)
    unfold presVideoExpired
    split
    · exact trySwap_bankLaw (bankLaw_of_pres hu rfl rfl)
    · exact hu
  case mpStatus =>
    change BankLaw (mpStatus u)
    unfold mpStatus
    split
    · exact takeMesh_bankLaw _ _ (bankLaw_of_pres hu rfl rfl)
    · exact ignoreMesh_bankLaw hu
  case mpReadRows v => exact mpReadRows_bankLaw v hu
  case mpSetFormat v => exact mpSetFormat_bankLaw v hu
  case mpUnknownCommand b =>
    change BankLaw (mpUnknown b u)
    unfold mpUnknown
    split
    · exact takeMesh_bankLaw _ _ hu
    · exact ignoreMesh_bankLaw hu
  case mcsnRelease => exact endRead_bankLaw (bankLaw_of_pres hu rfl rfl)
  all_goals exact absurd rfl hne

end Sys2Proof.Machine
end

section
/-! Composed corners and finished meshes stay in the panel (03 R39 to R41, R52; 04 R57). -/

namespace Sys2Proof.Machine

theorem meshLaw_looksAt : LooksAt [.record, .geo, .eng, .pres] MeshLaw := by
  intro s t hs h
  have e1 : t.set.geo = s.set.geo := hs .record (by simp)
  have e2 : t.geo = s.geo := hs .geo (by simp)
  have e3 : t.eng = s.eng := hs .eng (by simp)
  have e4 : t.pres = s.pres := hs .pres (by simp)
  unfold MeshLaw CornerLaw
  rw [e1, e2, e3, e4]
  exact h

/-! ## The panel -/

theorem panel_pos {w h : Int} (hp : panelOk w h = true) : 0 < w ∧ 0 < h := by
  simp only [panelOk, within, Bool.and_eq_true, decide_eq_true_eq] at hp
  omega

theorem clampPt_inPanel {w h : Int} (hw : 0 < w) (hh : 0 < h) (p : Pt) : inPanel w h (clampPt w h p) := by
  have hx := clamp_range 0 (16 * w) p.x (by omega)
  have hy := clamp_range 0 (16 * h) p.y (by omega)
  exact ⟨hx.1, hx.2, hy.1, hy.2⟩

/-- The corners of a candidate are in the panel; they are lawful when they pass the shape check (03 R39, R40). -/
theorem candidate_lawful {g : GeoRecord} {s : State} (hp : panelOk g.width g.height = true)
    (hshape : shapeOk g.width g.height (candidate g s).corners = true) :
    cornersLawful g.width g.height (candidate g s).corners := by
  obtain ⟨hw, hh⟩ := panel_pos hp
  exact ⟨clampPt_inPanel hw hh _, clampPt_inPanel hw hh _, clampPt_inPanel hw hh _, clampPt_inPanel hw hh _, hshape⟩

theorem nominal_lawful {w h : Int} (hp : panelOk w h = true) : cornersLawful w h (nominal w h) := by
  obtain ⟨hw, hh⟩ := panel_pos hp
  refine ⟨?_, ?_, ?_, ?_, shapeOk_nominal hw hh⟩ <;>
    · simp only [inPanel, nominal]
      omega

/-! ## Meshes -/

/-- Every vertex of a bank's mesh lies in the bank's panel. -/
def meshInPanel (b : Bank) : Prop := ∀ k : Fin 153, inPanel b.width b.height (b.mesh.get k)

theorem bankLawful_iff (b : Bank) :
    bankLawful b ↔ (b.state = .ready ∨ b.state.shown = true → meshInPanel b) := by
  unfold bankLawful meshInPanel
  cases b.state <;> simp [BankState.shown]

/-- A computed vertex is in the panel: the base vertex is, and with fine warp the sum is clamped (04 R57). -/
theorem vertexOf_inPanel {snap : Snapshot} (hw : 0 < snap.width) (hh : 0 < snap.height)
    (hcorners : cornersLawful snap.width snap.height snap.corners) {i j : Nat} (hi : i ≤ 16) (hj : j ≤ 8) :
    inPanel snap.width snap.height (vertexOf snap i j) := by
  unfold vertexOf
  split
  · exact clampPt_inPanel hw hh _
  · exact baseVertex_inPanel hw hh hcorners hi hj

theorem meshOf_inPanel {snap : Snapshot} (hs : snapshotLawful (.computing .a snap)) (k : Fin 153) :
    inPanel snap.width snap.height ((meshOf snap).get k) := by
  obtain ⟨hpanel, hcorners⟩ := hs
  obtain ⟨hw, hh⟩ := panel_pos hpanel
  unfold meshOf
  rw [Vector.get_eq_getElem, Vector.getElem_ofFn]
  exact vertexOf_inPanel hw hh hcorners (by omega) (by omega)

/-- The law, bank by bank. -/
theorem meshLaw_iff (s : State) :
    MeshLaw s ↔ CornerLaw s ∧ snapshotLawful s.eng.state ∧ ∀ i, bankLawful (s.pres.banks.get i) := by
  unfold MeshLaw
  refine and_congr_right fun _ => and_congr_right fun _ => ⟨fun ⟨ha, hb⟩ i => ?_, fun h => ⟨h .a, h .b⟩⟩
  cases i
  · exact ha
  · exact hb

/-- A write of the engine and the banks that leaves a lawful snapshot and lawful banks. -/
theorem meshLaw_write {s : State} {e : Engine} {u : Presentation} (h : CornerLaw s) (he : snapshotLawful e.state)
    (hu : ∀ i, bankLawful (u.banks.get i)) : MeshLaw { s with eng := e, pres := u } :=
  (meshLaw_iff _).2 ⟨h, he, hu⟩

theorem banks_set {v : PerBank} {i : BankId} {b : Bank} (h : ∀ j, bankLawful (v.get j)) (hb : bankLawful b) (j : BankId) :
    bankLawful ((v.set i b).get j) := by
  rcases i.eq_or_other j with rfl | rfl
  · rw [PerBank.get_set_same]
    exact hb
  · rw [PerBank.get_set_opposite]
    exact h _

theorem beginComputation_meshLaw (i : BankId) {s : State} (h : MeshLaw s) : MeshLaw (beginComputation i s) := by
  obtain ⟨hc, -, hb⟩ := (meshLaw_iff s).1 h
  exact meshLaw_write (u := s.pres) hc hc hb

/-- A write of the engine that leaves its state. -/
theorem meshLaw_eng {s : State} {e : Engine} (h : MeshLaw s) (he : e.state = s.eng.state) :
    MeshLaw { s with eng := e } := by
  obtain ⟨hc, hs, hb⟩ := (meshLaw_iff s).1 h
  exact meshLaw_write (u := s.pres) hc (by rw [he]; exact hs) hb

/-- A write of the banks that leaves them lawful. -/
theorem meshLaw_pres {s : State} {u : Presentation} (h : MeshLaw s) (hu : ∀ i, bankLawful (u.banks.get i)) :
    MeshLaw { s with pres := u } := by
  obtain ⟨hc, hs, -⟩ := (meshLaw_iff s).1 h
  exact meshLaw_write (e := s.eng) hc hs hu

theorem MeshLaw.banks {s : State} (h : MeshLaw s) (i : BankId) : bankLawful (s.pres.banks.get i) :=
  ((meshLaw_iff s).1 h).2.2 i

theorem startComputation_meshLaw {s : State} (h : MeshLaw s) : MeshLaw (startComputation s) := by
  unfold startComputation
  split
  · exact h
  · exact beginComputation_meshLaw _ (meshLaw_pres h (banks_set h.banks ((bankLawful_iff _).2 fun hk => by
      rcases hk with hk | hk <;> cases hk)))

theorem rebuild_meshLaw (force : Bool) {s : State} (h : MeshLaw s) : MeshLaw (rebuild force s) := by
  have hmark : MeshLaw (if force then { s with eng := { s.eng with allDirty := true } } else s) := by
    split
    · exact meshLaw_eng h rfl
    · exact h
  unfold rebuild
  revert hmark
  generalize (if force then { s with eng := { s.eng with allDirty := true } } else s) = t
  intro ht
  dsimp only
  split
  · exact meshLaw_eng ht rfl
  · split
    · split
      · unfold forceWaiting
        split
        · exact ht
        · rename_i i _
          have hdirty : bankLawful { t.pres.banks.get i with dirty := allRows } := ht.banks i
          obtain ⟨hc, hs, -⟩ := (meshLaw_iff t).1 ht
          exact meshLaw_write (u := { t.pres with banks := t.pres.banks.set i _ }) hc hs (banks_set ht.banks hdirty)
      · exact ht
    · exact startComputation_meshLaw ht

/-- A bank whose mesh is in the panel may take any state. -/
theorem bankLawful_setState {b : Bank} (k : BankState) (h : meshInPanel b) : bankLawful { b with state := k } :=
  (bankLawful_iff _).2 fun _ => h

theorem bankLawful_empty (b : Bank) : bankLawful { b with state := .empty } :=
  (bankLawful_iff _).2 fun hk => by rcases hk with hk | hk <;> cases hk

theorem swapTo_meshLaw {i : BankId} {s : State} (h : MeshLaw s) (hready : (s.pres.banks.get i).state = .ready) :
    MeshLaw (swapTo i s) := by
  have hin : meshInPanel (s.pres.banks.get i) := (bankLawful_iff _).1 (h.banks i) (.inl hready)
  have hlive : ∀ j, bankLawful ((s.pres.banks.setState i .live).get j) :=
    banks_set h.banks (bankLawful_setState .live hin)
  have hfreed : ∀ u, MeshLaw u → MeshLaw (bankFreed u) := fun u hu => by
    unfold bankFreed
    split
    · exact hu
    · split
      · exact startComputation_meshLaw (meshLaw_eng hu rfl)
      · exact hu
  unfold swapTo
  refine hfreed _ (meshLaw_pres h fun j => ?_)
  dsimp only
  split
  · exact banks_set hlive (bankLawful_empty _) j
  · exact hlive j

theorem trySwap_meshLaw {s : State} (h : MeshLaw s) : MeshLaw (trySwap s) := by
  unfold trySwap
  split
  · exact h
  · rename_i i hfind
    split
    · exact swapTo_meshLaw h (find_state hfind)
    · exact swapTo_meshLaw h (find_state hfind)
    · exact meshLaw_pres h h.banks
    · exact h
    · exact h

theorem beginRead_meshLaw {s : State} (h : MeshLaw s) : MeshLaw (beginRead s) := by
  unfold beginRead
  split
  · exact h
  · rename_i i hfind
    have hin := (bankLawful_iff _).1 (h.banks i) (.inr (by rw [find_state hfind]; rfl))
    exact meshLaw_pres h (banks_set h.banks (bankLawful_setState .reading hin))

theorem endRead_meshLaw {s : State} (h : MeshLaw s) : MeshLaw (endRead s) := by
  unfold endRead
  split
  · exact h
  · rename_i i hfind
    have hin := (bankLawful_iff _).1 (h.banks i) (.inr (by rw [find_state hfind]; rfl))
    have hback : MeshLaw { s with pres := { s.pres with banks := s.pres.banks.setState i .live } } :=
      meshLaw_pres h (banks_set h.banks (bankLawful_setState .live hin))
    dsimp only
    split
    · exact hback
    · exact trySwap_meshLaw hback

theorem finishComputation_meshLaw {i : BankId} {s : State} (h : MeshLaw s) (hin : meshInPanel (s.pres.banks.get i)) :
    MeshLaw (finishComputation i s) := by
  have hready : MeshLaw { s with
      pres := { s.pres with
        banks := s.pres.banks.set i { s.pres.banks.get i with
          state := .ready, dirty := if s.eng.allDirty then allRows else (s.pres.banks.get i).dirty },
        swap := .waiting },
      eng := { s.eng with state := .idle, restarts := 0, allDirty := false } } :=
    meshLaw_write ((meshLaw_iff s).1 h).1 .intro (banks_set h.banks ((bankLawful_iff _).2 fun _ => hin))
  unfold finishComputation
  dsimp only
  split
  · exact hready
  · exact trySwap_meshLaw hready

/-- A clip report leaves the corners (03 R45). -/
theorem reportClip_meshLaw (w : ClipWatch) (d : Dest) {s : State} (h : MeshLaw s) : MeshLaw (reportClip w d s) := by
  obtain ⟨c, u, e⟩ := reportClip_frame w d s
  rw [e]
  exact h

theorem reportVertexClip_meshLaw (snap : Snapshot) {s : State} (h : MeshLaw s) : MeshLaw (reportVertexClip s snap) := by
  unfold reportVertexClip
  split
  · exact h
  · exact reportClip_meshLaw _ _ h

theorem completeComputation_meshLaw {i : BankId} {snap : Snapshot} {s : State} (h : MeshLaw s)
    (hs : snapshotLawful (.computing i snap)) : MeshLaw (completeComputation i snap s) := by
  have hin : meshInPanel ((meshStored s i snap).pres.banks.get i) := by
    simp only [meshStored, PerBank.get_set_same]
    exact meshOf_inPanel hs
  have hstored : MeshLaw (meshStored s i snap) := by
    refine (meshLaw_iff _).2 ⟨h.1, h.2.1, fun j => ?_⟩
    rcases i.eq_or_other j with rfl | rfl
    · exact (bankLawful_iff _).2 fun _ => hin
    · simp only [meshStored, PerBank.get_set_opposite]
      exact h.banks _
  have hclip := reportVertexClip_meshLaw snap hstored
  have hpres : (reportVertexClip (meshStored s i snap) snap).pres = (meshStored s i snap).pres :=
    (reportVertexClip_frame _ _).same (p := .pres) (by simp)
  rw [completeComputation_eq]
  dsimp only
  split
  · exact beginComputation_meshLaw i (meshLaw_eng hclip rfl)
  · exact finishComputation_meshLaw hclip (by rw [hpres]; exact hin)

/-! ## The Mesh Port -/

theorem takeMesh_meshLaw (n : Nat) (l : List Byte) {s : State} (h : MeshLaw s) : MeshLaw (takeMesh n l s) :=
  meshLaw_pres h h.banks

theorem ignoreMesh_meshLaw {s : State} (h : MeshLaw s) : MeshLaw (ignoreMesh s) := by
  unfold ignoreMesh
  split
  · exact meshLaw_pres h h.banks
  · exact h

theorem selectFormat_meshLaw (f : Format) {s : State} (h : MeshLaw s) : MeshLaw (selectFormat f s) := by
  have hf : MeshLaw { s with pres := { s.pres with selected := f } } := meshLaw_pres h h.banks
  unfold selectFormat
  dsimp only
  split
  · exact meshLaw_eng hf rfl
  · exact rebuild_meshLaw true hf

theorem mpReadRows_meshLaw (v : Params ReadArgs) {s : State} (h : MeshLaw s) : MeshLaw (mpReadRows v s) := by
  unfold mpReadRows
  split
  · dsimp only
    split <;> exact takeMesh_meshLaw _ _ (beginRead_meshLaw h)
  · exact ignoreMesh_meshLaw h

theorem mpSetFormat_meshLaw (v : Params Nat) {s : State} (h : MeshLaw s) : MeshLaw (mpSetFormat v s) := by
  unfold mpSetFormat
  split
  · split
    · exact takeMesh_meshLaw _ _ h
    · exact takeMesh_meshLaw _ _ (selectFormat_meshLaw _ h)
    · exact takeMesh_meshLaw _ _ (selectFormat_meshLaw _ h)
    · exact takeMesh_meshLaw _ _ h
  · exact ignoreMesh_meshLaw h

/-! ## Every other command and arrival -/

theorem compose_meshLaw {g : GeoRecord} (d : Dest) {s : State}
    (hg : panelOk s.set.geo.width s.set.geo.height = true → panelOk g.width g.height = true) (h : MeshLaw s) :
    MeshLaw (compose g d s).1 := by
  have hreport : MeshLaw (reportCornerClip (candidate g s) d s) := by
    obtain ⟨k, u, e⟩ := reportCornerClip_frame (candidate g s) d s
    rw [e]
    exact h
  unfold compose
  dsimp only
  split
  · rename_i hshape
    obtain ⟨-, hs, hb⟩ := (meshLaw_iff _).1 hreport
    have hpanel := hg h.1.1
    exact rebuild_meshLaw false ((meshLaw_iff _).2 ⟨⟨hpanel, candidate_lawful hpanel hshape⟩, hs, hb⟩)
  · exact hreport

/-- A write that leaves the panel, the corners, the engine and the banks. -/
theorem meshLaw_of_write {s t : State} (hf : Frame writeParts s t) (hw : t.set.geo.width = s.set.geo.width)
    (hh : t.set.geo.height = s.set.geo.height) (hc : t.geo.corners = s.geo.corners) (h : MeshLaw s) : MeshLaw t := by
  have e1 : t.eng = s.eng := hf.same (p := .eng) (by simp [writeParts])
  have e2 : t.pres = s.pres := hf.same (p := .pres) (by simp [writeParts])
  unfold MeshLaw CornerLaw
  rw [hw, hh, hc, e1, e2]
  exact h

theorem Moves.meshLaw {s t : State} (hm : Moves s t) : MeshLaw s → MeshLaw t :=
  hm.keeps (fun _ _ hf hw hh hc h => meshLaw_of_write hf hw hh hc h)
    (fun _ _ _ h => meshLaw_looksAt.of_frame (frame_raise _ _ _) (by simp [Meets]) h)
    (fun _ d _ hg h => compose_meshLaw d hg h) (fun force _ h => rebuild_meshLaw force h)

theorem resetPart_meshLaw (c : ResetCause) (s : State) : MeshLaw (resetPart c s) := by
  have hcorners : cornersLawful 3840 2160 (nominal 3840 2160) := nominal_lawful (by decide)
  have hpanel : panelOk defaultSettings.geo.width defaultSettings.geo.height = true := by decide
  refine (meshLaw_iff _).2 ⟨⟨hpanel, hcorners⟩, .intro, fun i => ?_⟩
  cases i <;> exact bankLawful_empty Bank.reset

theorem takeSettings_meshLaw {s : State} (h : MeshLaw s) : MeshLaw (takeSettings s) := by
  have hgeo := (takeSettings_sound s).geo
  have hpanel : panelOk (takeSettings s).set.geo.width (takeSettings s).set.geo.height = true := by
    simp only [GeoRecord.ok, Bool.and_eq_true] at hgeo
    exact hgeo.1.1.1
  exact ⟨⟨hpanel, nominal_lawful hpanel⟩, h.2⟩

/-- Settles O56: an accepted composition is clamped and shaped, and a vertex is a blend of its corners, or clamped (03 R39,
R40; 04 R57). -/
theorem meshesStayInPanel : Obligations.MeshesStayInPanel := by
  intro s t h hst
  refine ((Kept.of_moves meshLaw_looksAt (by simp) Kept.trivial (fun u v hm => hm.meshLaw)
    (fun c u => resetPart_meshLaw c u) (fun u hu => takeSettings_meshLaw hu)
    (fun i u hown hne hm hu _ => ?_)).step ⟨h, .intro⟩ hst).1
  cases i <;> (try exact absurd hown Bool.false_ne_true) <;> (try simp [Meets, arrivalReach] at hm)
  case frameStart =>
    change MeshLaw (frameStart u)
    unfold frameStart
    split
    · exact hu
    · have hsampled : MeshLaw (frameToSampling u) :=
        meshLaw_looksAt.of_frame (frameToSampling_frame u) (by simp [Meets]) hu
      exact trySwap_meshLaw (meshLaw_pres hsampled hsampled.banks)
  case computationCompletion =>
    change MeshLaw (computationCompleted u)
    unfold computationCompleted
    split
    · exact hu
    · rename_i hc
      exact completeComputation_meshLaw hu (hc ▸ hu.2.1)
  case presVideoWatchExpiry =>
    change MeshLaw (presVideoExpired u)
    unfold presVideoExpired
    split
    · exact trySwap_meshLaw (meshLaw_pres hu hu.banks)
    · exact hu
  case mpStatus =>
    change MeshLaw (mpStatus u)
    unfold mpStatus
    split
    · exact takeMesh_meshLaw _ _ (meshLaw_pres hu hu.banks)
    · exact ignoreMesh_meshLaw hu
  case mpReadRows v => exact mpReadRows_meshLaw v hu
  case mpSetFormat v => exact mpSetFormat_meshLaw v hu
  case mpUnknownCommand b =>
    change MeshLaw (mpUnknown b u)
    unfold mpUnknown
    split
    · exact takeMesh_meshLaw _ _ hu
    · exact ignoreMesh_meshLaw hu
  case mcsnRelease => exact endRead_meshLaw (meshLaw_pres hu hu.banks)
  all_goals exact absurd rfl hne

end Sys2Proof.Machine
end

section
/-! ATTN_A, the transmit queue and the notice agree with the events (10 R172, R175 to R178). -/

namespace Sys2Proof.Machine

/-! ## Notices that wait -/

/-- The number of notices of a queue that have not begun. -/
def noticesIn (l : List TxFrame) : Nat := (l.filter TxFrame.waitingNotice).length

/-- The law of the transmit queue: at most 4 frames, a notice owed only to a full queue, at most one notice not begun,
and none while nothing is unmasked. -/
structure QueueFits (u : PortUnit) : Prop where
  length : u.tx.length ≤ 4
  owed : u.owed = true → u.tx.length = 4
  single : noticesIn u.tx + (if u.owed then 1 else 0) ≤ 1
  quiet : u.unmaskedB.isEmpty = true → noticesIn u.tx = 0 ∧ u.owed = false

/-- Each event set holds a kind at most once. -/
def kindsOnce (u : PortUnit) : Prop := u.events.a.kinds.Nodup ∧ u.events.b.kinds.Nodup

theorem portLaw_iff (u : PortUnit) :
    PortLaw u ↔ kindsOnce u ∧ u.attnA = !(unmasked u.events.a u.masks.a).isEmpty ∧ QueueFits u :=
  ⟨fun ⟨ha, hb, hattn, hlength, howed, hsingle, hquiet⟩ => ⟨⟨ha, hb⟩, hattn, ⟨hlength, howed, hsingle, hquiet⟩⟩,
    fun ⟨⟨ha, hb⟩, hattn, hlength, howed, hsingle, hquiet⟩ => ⟨ha, hb, hattn, hlength, howed, hsingle, hquiet⟩⟩

theorem noticesIn_append (l m : List TxFrame) : noticesIn (l ++ m) = noticesIn l + noticesIn m := by
  simp [noticesIn]

theorem noticesIn_withdrawn (l : List TxFrame) : noticesIn (l.filter fun f => !f.waitingNotice) = 0 := by
  unfold noticesIn
  rw [List.filter_filter, List.length_eq_zero_iff, List.filter_eq_nil_iff]
  intro f _
  simp

theorem noticesIn_pos (l : List TxFrame) : 0 < noticesIn l ↔ l.any TxFrame.waitingNotice = true := by
  unfold noticesIn
  rw [List.length_pos_iff_exists_mem, List.any_eq_true]
  simp only [List.mem_filter]

theorem noticesIn_cons (f : TxFrame) (l : List TxFrame) :
    noticesIn (f :: l) = noticesIn l + (if f.waitingNotice then 1 else 0) := by
  unfold noticesIn
  rw [List.filter_cons]
  split <;> simp

theorem noticesIn_response (p : List Byte) (b : Bool) : noticesIn [.response p b] = 0 := rfl

theorem noticesIn_notice : noticesIn [.notice none] = 1 := rfl

/-! ## Events -/

theorem withdraw_fits {u : PortUnit} (h : u.tx.length ≤ 4) : QueueFits u.withdraw where
  length := (List.length_filter_le _ _).trans h
  owed := fun hf => by cases hf
  single := by
    change noticesIn (u.tx.filter _) + 0 ≤ 1
    rw [noticesIn_withdrawn]
    decide
  quiet _ := ⟨noticesIn_withdrawn _, rfl⟩

theorem oweNotice_fits {u : PortUnit} (hlength : u.tx.length ≤ 4) (howed : u.owed = true → u.tx.length = 4)
    (hsingle : noticesIn u.tx + (if u.owed then 1 else 0) ≤ 1) (hsome : u.unmaskedB.isEmpty = false) :
    QueueFits u.oweNotice := by
  have hquiet : ∀ {p : Prop}, u.unmaskedB.isEmpty = true → p := fun h => by rw [hsome] at h; cases h
  unfold PortUnit.oweNotice
  split
  · exact ⟨hlength, howed, hsingle, hquiet⟩
  · rename_i hnone
    simp only [Bool.or_eq_true, not_or, Bool.not_eq_true] at hnone
    have hzero : noticesIn u.tx = 0 := by
      by_contra hpos
      have := (noticesIn_pos u.tx).1 (Nat.pos_of_ne_zero hpos)
      rw [hnone.2] at this
      cases this
    split
    · rename_i hroom
      refine ⟨?_, fun hf => ?_, ?_, hquiet⟩
      · simp only [List.length_append, List.length_cons, List.length_nil]
        omega
      · have hf : u.owed = true := hf
        rw [hnone.1] at hf
        cases hf
      · change noticesIn (u.tx ++ [.notice none]) + (if u.owed then 1 else 0) ≤ 1
        rw [noticesIn_append, hzero, hnone.1]
        decide
    · rename_i hfull
      refine ⟨hlength, fun _ => ?_, ?_, hquiet⟩
      · change u.tx.length = 4
        omega
      · change noticesIn u.tx + 1 ≤ 1
        rw [hzero]

theorem judgeNotice_fits {u v : PortUnit} (h : QueueFits u) (htx : v.tx = u.tx) (howed : v.owed = u.owed) :
    QueueFits (v.judgeNotice u.unmaskedB.isEmpty) := by
  obtain ⟨h1, h2, h3, h4⟩ := h
  rw [← htx] at h1 h2 h3 h4
  rw [← howed] at h2 h3 h4
  unfold PortUnit.judgeNotice
  split
  · exact withdraw_fits h1
  · rename_i hsome
    have hsome : v.unmaskedB.isEmpty = false := by simpa using hsome
    split
    · exact oweNotice_fits h1 h2 h3 hsome
    · exact ⟨h1, h2, h3, fun hf => by rw [hsome] at hf; cases hf⟩

/-- A judgement of the notice leaves the events, the masks and ATTN_A. -/
theorem judgeNotice_events (e : Bool) (u : PortUnit) :
    (u.judgeNotice e).events = u.events ∧ (u.judgeNotice e).masks = u.masks ∧ (u.judgeNotice e).attnA = u.attnA := by
  unfold PortUnit.judgeNotice PortUnit.oweNotice
  split
  · exact ⟨rfl, rfl, rfl⟩
  · split
    · split
      · exact ⟨rfl, rfl, rfl⟩
      · split <;> exact ⟨rfl, rfl, rfl⟩
    · exact ⟨rfl, rfl, rfl⟩

/-- A change of events or masks keeps the law when it leaves the queue and no kind twice (10 R177, R178). -/
theorem changeEvents_portLaw {f : PortUnit → PortUnit} {u : PortUnit} (h : PortLaw u) (htx : (f u).tx = u.tx)
    (howed : (f u).owed = u.owed) (hkinds : kindsOnce (f u)) : PortLaw (u.changeEvents f) := by
  obtain ⟨-, -, hfits⟩ := (portLaw_iff u).1 h
  obtain ⟨he, hm, ha⟩ := judgeNotice_events u.unmaskedB.isEmpty (f u).judgeAttn
  refine (portLaw_iff _).2 ⟨?_, ?_, judgeNotice_fits hfits htx howed⟩
  · unfold kindsOnce PortUnit.changeEvents
    rw [he]
    exact hkinds
  · unfold PortUnit.changeEvents
    rw [he, hm, ha]
    rfl

theorem add_nodup {e : EventSet} (k : EventKind) (h : e.kinds.Nodup) : (e.add k).kinds.Nodup := by
  unfold EventSet.add
  split
  · exact h
  · rename_i hk
    refine List.nodup_append.2 ⟨h, List.nodup_singleton k, fun a ha b hb => ?_⟩
    rw [List.mem_singleton.1 hb]
    rintro rfl
    exact hk (List.contains_iff_mem.2 ha)

theorem addEvent_kindsOnce (d : Dest) (k : EventKind) {u : PortUnit} (h : kindsOnce u) : kindsOnce (addEvent d k u) := by
  obtain ⟨ha, hb⟩ := h
  unfold addEvent
  split
  · exact ⟨add_nodup k ha, hb⟩
  · exact ⟨ha, add_nodup k hb⟩
  · exact ⟨add_nodup k ha, add_nodup k hb⟩

theorem addEvent_queue (d : Dest) (k : EventKind) (u : PortUnit) :
    (addEvent d k u).tx = u.tx ∧ (addEvent d k u).owed = u.owed := by
  unfold addEvent
  split <;> exact ⟨rfl, rfl⟩

theorem raise_portLaw (d : Dest) (k : EventKind) {s : State} (h : PortLaw s.port) : PortLaw (raise d k s).port :=
  changeEvents_portLaw h (addEvent_queue d k _).1 (addEvent_queue d k _).2
    (addEvent_kindsOnce d k ((portLaw_iff _).1 h).1)

theorem raiseReset_portLaw {s : State} (h : PortLaw s.port) : PortLaw (raiseReset s).port :=
  changeEvents_portLaw h (addEvent_queue .both .reset _).1 (addEvent_queue .both .reset _).2
    (addEvent_kindsOnce .both .reset ((portLaw_iff _).1 h).1)

/-! ## The transmit queue -/

/-- A write of what is not the queue, the events, the masks or ATTN_A. -/
theorem portLaw_of_same {u v : PortUnit} (h : PortLaw u) (he : v.events = u.events) (hm : v.masks = u.masks)
    (ha : v.attnA = u.attnA) (hq : QueueFits u → QueueFits v) : PortLaw v := by
  obtain ⟨hkinds, hattn, hfits⟩ := (portLaw_iff u).1 h
  refine (portLaw_iff v).2 ⟨?_, ?_, hq hfits⟩
  · unfold kindsOnce
    rw [he]
    exact hkinds
  · rw [he, hm, ha]
    exact hattn

theorem join_fits {u : PortUnit} (h : QueueFits u) (p : List Byte) : QueueFits (u.join (.response p false)) := by
  unfold PortUnit.join
  split
  · rename_i hroom
    refine ⟨?_, fun hf => ?_, ?_, fun he => ?_⟩
    · simp only [List.length_append, List.length_cons, List.length_nil]
      omega
    · have := h.owed hf
      omega
    · change noticesIn (u.tx ++ _) + (if u.owed then 1 else 0) ≤ 1
      rw [noticesIn_append, noticesIn_response]
      exact h.single
    · change noticesIn (u.tx ++ _) = 0 ∧ u.owed = false
      rw [noticesIn_append, noticesIn_response]
      exact h.quiet he
  · exact h

theorem length_withdrawn (l : List TxFrame) : (l.filter fun f => !f.waitingNotice).length + noticesIn l = l.length := by
  unfold noticesIn
  rw [Nat.add_comm]
  exact (List.length_eq_length_filter_add TxFrame.waitingNotice).symm

theorem placeB_fits {u : PortUnit} (h : QueueFits u) (p : List Byte) :
    QueueFits ((if u.tx.length < 4 then u
      else if u.tx.any TxFrame.waitingNotice then
        { u with tx := u.tx.filter (fun f => !f.waitingNotice), owed := true }
      else u).join (.response p false)) := by
  split
  · exact join_fits h p
  · rename_i hfull
    split
    · rename_i hany
      have hone : noticesIn u.tx = 1 := by
        have h1 := (noticesIn_pos u.tx).2 hany
        have h2 := h.single
        omega
      have hlength := length_withdrawn u.tx
      have h4 := h.length
      have hroom : (u.tx.filter fun f => !f.waitingNotice).length < 4 := by omega
      unfold PortUnit.join
      simp only [hroom, if_true]
      refine ⟨?_, fun _ => ?_, ?_, fun he => ?_⟩
      · simp only [List.length_append, List.length_cons, List.length_nil]
        omega
      · simp only [List.length_append, List.length_cons, List.length_nil]
        omega
      · change noticesIn (u.tx.filter _ ++ _) + 1 ≤ 1
        rw [noticesIn_append, noticesIn_withdrawn, noticesIn_response]
      · have := (h.quiet he).1
        omega
    · exact join_fits h p

theorem placeB_portLaw (p : List Byte) {s : State} (h : PortLaw s.port) : PortLaw (placeB p s).port := by
  have hjoin : ∀ (u : PortUnit) f, (u.join f).events = u.events ∧ (u.join f).masks = u.masks ∧ (u.join f).attnA = u.attnA :=
    fun u f => by
      unfold PortUnit.join
      split <;> exact ⟨rfl, rfl, rfl⟩
  unfold placeB
  dsimp only
  refine portLaw_of_same h ?_ ?_ ?_ fun hf => placeB_fits hf p
  · rw [(hjoin _ _).1]
    split <;> (try split) <;> rfl
  · rw [(hjoin _ _).2.1]
    split <;> (try split) <;> rfl
  · rw [(hjoin _ _).2.2]
    split <;> (try split) <;> rfl

/-- The head of the queue begins: as many frames, and no more notices that wait (10 R172). -/
theorem beginHead_cases (u : PortUnit) :
    u.beginHead = u ∨ ∃ f g rest, u.tx = f :: rest ∧ u.beginHead = { u with tx := g :: rest } ∧ g.waitingNotice = false := by
  unfold PortUnit.beginHead
  split
  · rename_i htx
    exact .inr ⟨_, _, _, htx, rfl, rfl⟩
  · rename_i htx
    exact .inr ⟨_, _, _, htx, rfl, rfl⟩
  · exact .inl rfl

theorem beginHead_fits {u : PortUnit} (h : QueueFits u) : QueueFits u.beginHead := by
  rcases beginHead_cases u with e | ⟨f, g, rest, htx, e, hg⟩ <;> rw [e]
  · exact h
  · obtain ⟨h1, h2, h3, h4⟩ := h
    rw [htx] at h1 h2 h3 h4
    rw [noticesIn_cons] at h3 h4
    have hn : noticesIn (g :: rest) = noticesIn rest := by rw [noticesIn_cons, hg]; rfl
    refine ⟨h1, h2, ?_, fun he => ?_⟩
    · change noticesIn (g :: rest) + (if u.owed then 1 else 0) ≤ 1
      rw [hn]
      omega
    · change noticesIn (g :: rest) = 0 ∧ u.owed = false
      rw [hn]
      exact ⟨by have := (h4 he).1; omega, (h4 he).2⟩

theorem beginHead_portLaw {u : PortUnit} (h : PortLaw u) : PortLaw u.beginHead := by
  refine portLaw_of_same h ?_ ?_ ?_ beginHead_fits <;>
    · rcases beginHead_cases u with e | ⟨f, g, rest, htx, e, hg⟩ <;> rw [e]

theorem sendHead_portLaw {u : PortUnit} (h : PortLaw u) : PortLaw u.sendHead := by
  have hbegun := beginHead_portLaw h
  unfold PortUnit.sendHead
  dsimp only
  split
  · exact hbegun
  · rename_i f rest htx
    split
    · rename_i howed
      refine portLaw_of_same hbegun rfl rfl rfl fun hf => ?_
      obtain ⟨h1, h2, h3, h4⟩ := hf
      have hfour := h2 howed
      rw [htx] at h1 h2 h3 h4 hfour
      rw [noticesIn_cons, howed] at h3
      simp only [if_true] at h3
      refine ⟨?_, fun hf => absurd hf Bool.false_ne_true, ?_, fun he => ?_⟩
      · simp only [List.length_append, List.length_cons, List.length_nil] at hfour ⊢
        omega
      · change noticesIn (rest ++ _) + 0 ≤ 1
        rw [noticesIn_append, noticesIn_notice]
        omega
      · have := (h4 he).2
        rw [howed] at this
        cases this
    · rename_i howed
      have howed : u.beginHead.owed = false := by simpa using howed
      refine portLaw_of_same hbegun rfl rfl rfl fun hf => ?_
      obtain ⟨h1, -, h3, h4⟩ := hf
      rw [htx] at h1 h3 h4
      rw [noticesIn_cons] at h3 h4
      refine ⟨?_, fun hf => ?_, ?_, fun he => ?_⟩
      · simp only [List.length_cons] at h1 ⊢
        omega
      · have hf : u.beginHead.owed = true := hf
        rw [howed] at hf
        cases hf
      · change noticesIn rest + (if u.beginHead.owed then 1 else 0) ≤ 1
        omega
      · exact ⟨by have := (h4 he).1; change noticesIn rest = 0; omega, howed⟩

/-! ## The unit's own commands, and everything else -/

theorem emptyEvents_portLaw (p : Port) {s : State} (h : PortLaw s.port) : PortLaw (emptyEvents p s).port := by
  obtain ⟨ha, hb⟩ := ((portLaw_iff _).1 h).1
  refine changeEvents_portLaw h rfl rfl ?_
  cases p
  · exact ⟨List.nodup_nil, hb⟩
  · exact ⟨ha, List.nodup_nil⟩

theorem setEventMask_portLaw (p : Port) (m : Nat) {s : State} (h : PortLaw s.port) :
    PortLaw (setEventMask p m s).st.port := by
  unfold setEventMask
  split
  · exact changeEvents_portLaw h rfl rfl ((portLaw_iff _).1 h).1
  · exact h

theorem resetPart_portLaw (c : ResetCause) (s : State) : PortLaw (resetPart c s).port :=
  ⟨List.nodup_nil, List.nodup_nil, rfl, Nat.zero_le _, fun h => absurd h Bool.false_ne_true, Nat.zero_le _,
    fun _ => ⟨rfl, rfl⟩⟩

theorem compose_portLaw (g : GeoRecord) (d : Dest) {s : State} (h : PortLaw s.port) :
    PortLaw (compose g d s).1.port := by
  have hreport : PortLaw (reportCornerClip (candidate g s) d s).port := by
    unfold reportCornerClip
    split
    · exact h
    · unfold reportClip
      split
      · exact raise_portLaw _ _ h
      · exact h
  have hrebuild : ∀ u : State, (rebuild false u).port = u.port := fun u =>
    (rebuild_frame false u).frame.same (p := .port) (by simp)
  unfold compose
  dsimp only
  split
  · change PortLaw (acceptComposition g _ _).port
    unfold acceptComposition
    rw [hrebuild]
    exact hreport
  · exact hreport

theorem Moves.portLaw {s t : State} (hm : Moves s t) : PortLaw s.port → PortLaw t.port :=
  hm.keeps (P := fun s => PortLaw s.port)
    (fun _ _ hf _ _ _ h => by rw [show _ = _ from hf.same (p := .port) (by simp [writeParts])]; exact h)
    (fun d k _ h => raise_portLaw d k h) (fun g d _ _ h => compose_portLaw g d h)
    (fun force s h => by
      have e : (Machine.rebuild force s).port = s.port := (rebuild_frame force s).frame.same (p := .port) (by simp)
      rw [e]
      exact h)

theorem startUp_portLaw {s : State} (h : PortLaw s.port) : PortLaw (startUp s).port := by
  refine (startUp_moves s).portLaw ?_
  have hreset : PortLaw (raiseReset (takeSettings s)).port := raiseReset_portLaw (s := takeSettings s) h
  unfold loaded raiseStoreError
  split
  · exact hreset
  all_goals exact raise_portLaw _ _ hreset

theorem finishComputation_meshFrame (i : BankId) (s : State) : MeshFrame s (finishComputation i s) := by
  have hready : ∀ e u, MeshFrame s { s with eng := e, pres := u } := fun e u => ⟨e, u, rfl⟩
  unfold finishComputation
  dsimp only
  split
  · exact hready _ _
  · exact (hready _ _).trans (trySwap_frame _)

theorem completeComputation_portLaw (i : BankId) (snap : Snapshot) {s : State} (h : PortLaw s.port) :
    PortLaw (completeComputation i snap s).port := by
  have hclip : PortLaw (reportVertexClip (meshStored s i snap) snap).port := by
    unfold reportVertexClip
    split
    · exact h
    · unfold reportClip
      split
      · exact raise_portLaw _ _ (s := { meshStored s i snap with geo := _ }) h
      · exact h
  rw [completeComputation_eq]
  dsimp only
  split
  · exact hclip
  · have e := (finishComputation_meshFrame i (reportVertexClip (meshStored s i snap) snap)).frame.same (p := .port) (by simp)
    exact e ▸ hclip

theorem placeA_portLaw (id : Option Byte) (k : Status) (d : List Byte) {s : State} (h : PortLaw s.port) :
    PortLaw (placeA id k d s).port := portLaw_of_same h rfl rfl rfl fun hf => ⟨hf.1, hf.2, hf.3, hf.4⟩

theorem countFrame_portLaw {s : State} (h : PortLaw s.port) : PortLaw (countFrame s).port :=
  portLaw_of_same h rfl rfl rfl fun hf => ⟨hf.1, hf.2, hf.3, hf.4⟩

theorem answerTo_portLaw (p : Port) (id : Byte) (unit : State → Answer)
    (hunit : ∀ s, PortLaw s.port → PortLaw (unit s).st.port) {s : State} (h : PortLaw s.port) :
    PortLaw (answerTo p id unit s).port := by
  unfold answerTo
  split
  · exact h
  · split
    · exact placeA_portLaw _ _ _ (hunit s h)
    · dsimp only
      split
      · exact placeB_portLaw _ (hunit _ (countFrame_portLaw h))
      · exact countFrame_portLaw h

theorem arrival_portLaw (i : Instr) {s : State} (h : PortLaw s.port) : PortLaw (arrivalOf i s).port := by
  by_cases hreach : .port ∈ arrivalReach i
  · cases hown : ownEffect i with
    | false => exact (arrivalOf_moves i s hown).portLaw h
    | true =>
      cases i <;> (try exact absurd hown Bool.false_ne_true) <;> (try simp [arrivalReach] at hreach)
      case computationCompletion =>
        change PortLaw (computationCompleted s).port
        unfold computationCompleted
        split
        · exact h
        · exact completeComputation_portLaw _ _ h
      case i2cWriteOverflow =>
        change PortLaw (writeOverflow s).port
        unfold writeOverflow
        split
        · exact h
        · exact placeA_portLaw _ _ _ h
      case interbyteGapExpiry => exact portLaw_of_same h rfl rfl rfl fun hf => ⟨hf.1, hf.2, hf.3, hf.4⟩
      case txFrameSent => exact sendHead_portLaw h
      case unknownCommand p id =>
        change PortLaw (unknownTaken p id s).port
        unfold unknownTaken
        split
        · exact h
        · exact answerTo_portLaw _ _ _ (fun _ hu => hu) h
      case reset p v =>
        change PortLaw (resetCommand p v s).port
        unfold resetCommand
        split
        · split
          · exact h
          · exact resetPart_portLaw _ _
        · refine answerTo_portLaw _ _ _ (fun u hu => ?_) h
          exact Kept.checked (P := fun s => PortLaw s.port) _ _ _ _ (fun _ hv => hv) hu
      case powerOnReset | powerLoss | rstnLow | rstnRise => exact resetPart_portLaw _ _
      case loadCompletion =>
        change PortLaw (loadCompleted s).port
        rcases loadCompleted_cases s with e | ⟨-, e⟩ <;> rw [e]
        · exact h
        · exact startUp_portLaw h
  · rw [show _ = _ from (arrivalOf_frame i s).same hreach]
    exact h

theorem portLaw_kept : Kept fun s => PortLaw s.port where
  pending _ _ h := h
  begin _ h := beginHead_portLaw h
  placeA _ i k d h := placeA_portLaw i k d h
  placeB _ l h := placeB_portLaw l h
  countFrame _ h := countFrame_portLaw h
  setReceiver _ _ h := portLaw_of_same h rfl rfl rfl fun hf => ⟨hf.1, hf.2, hf.3, hf.4⟩
  answer i s _ h := by
    cases hown : ownEffect i with
    | false => exact (answerOf_moves i s hown).portLaw h
    | true =>
      cases i <;> (try exact absurd hown Bool.false_ne_true)
      case readEvents p v => cases v <;> [exact emptyEvents_portLaw p h; exact h]
      case setEventMask p v => cases v <;> [exact setEventMask_portLaw p _ h; exact h]
      all_goals exact h
  arrival i _ h := arrival_portLaw i h

/-- Settles O54: ATTN_A and the notice are judged at every change of events or masks (10 R177, R178), and a frame joins
only a queue with room (10 R172). -/
theorem portStaysLawful : Obligations.PortStaysLawful := fun _ _ h hst => portLaw_kept.step h hst

end Sys2Proof.Machine
end

section
/-! The Motion Queue operation by operation: a law that survives each operation on a request survives the end of a
request, a dispatch, and what follows every arrival that can change the test of 07 R117. Then the bounds of the queue. -/

namespace Sys2Proof.Machine

/-- A law that survives each operation on requests and their axes (07 R117 to R121). -/
structure MotionKept (P : State → Prop) : Prop where
  raise : ∀ d k s, P s → P (raise d k s)
  settle : ∀ r s, r ∈ s.mq.requests → P s → P (settleGeometry r s).1
  account : ∀ r s, P s → P (accountComp r s)
  drop : ∀ k s, P s → P (dropRequest k s)
  list : ∀ r o s, P s → P (listOutcome r o s)
  bind : ∀ r s, P s → P (bindRequest r s)
  hand : ∀ r o s, allIdle s r = true → (o = none ∨ ∃ n : Nat, s.set.slots[n]?.join = o) → P s → P (handTargets r o s)
  home : ∀ r s, P s → P (startHomingAxes r s)

namespace MotionKept
variable {P : State → Prop} {s : State}

/-- Only a request that is held ends DONE. -/
theorem endRequest (hP : MotionKept P) {r : Request} {o : Outcome} (ho : o = .done → r ∈ s.mq.requests) (h : P s) :
    P (endRequest r o s) := by
  have hfirst : P (if o = .done && r.kind = .recall then settleGeometry r s else (s, o)).1 := by
    split
    · rename_i hc
      simp only [Bool.and_eq_true, decide_eq_true_eq] at hc
      exact hP.settle r s (ho hc.1) h
    · exact h
  unfold Machine.endRequest
  generalize (if o = .done && r.kind = .recall then settleGeometry r s else (s, o)) = q at hfirst
  have hlisted := hP.list r q.2 _ (hP.drop r.serial _ (hP.account r _ hfirst))
  unfold recordOutcome raiseOutcome
  dsimp only
  split
  · split
    · exact hP.raise _ _ _ hlisted
    · exact hlisted
  · exact hP.raise _ _ _ hlisted

theorem endIfAtRest (hP : MotionKept P) (k : Nat) (h : P s) : P (endIfAtRest k s) := by
  unfold Machine.endIfAtRest
  split
  · exact h
  · rename_i r hr
    split
    · exact hP.endRequest (fun _ => List.mem_of_find?_eq_some hr) h
    · exact h

theorem dispatch (hP : MotionKept P) (r : Request) (h : P s) : P (dispatch r s) := by
  have hbound := hP.bind r s h
  unfold Machine.dispatch
  generalize bindRequest r s = u at hbound
  have hfault : ∀ q, P (Machine.endRequest q .fault u) := fun q => hP.endRequest (fun e => by cases e) hbound
  have hnone : allIdle u r = true → P (Machine.endIfAtRest r.serial (handTargets r none u)) := fun hi =>
    hP.endIfAtRest _ (hP.hand r none u hi (.inl rfl) hbound)
  unfold dispatchWork
  split
  · exact hP.endIfAtRest _ (hP.home r u hbound)
  · split
    · rename_i hi
      split
      · exact hP.endRequest (fun e => by cases e) hbound
      · rename_i q hq
        exact hP.endIfAtRest _ (hP.hand r (some q) u hi (.inr ⟨_, hq⟩) hbound)
    · exact hfault _
  all_goals
    split
    · rename_i hi
      exact hnone hi
    · exact hfault _

theorem dispatchPass (hP : MotionKept P) (n : Nat) (h : P s) : P (dispatchPass n s) := by
  induction n generalizing s with
  | zero => exact h
  | succ n ih =>
    unfold Machine.dispatchPass
    split
    · exact h
    · exact ih (hP.dispatch _ h)

theorem settleQueue (hP : MotionKept P) (h : P s) : P (settleQueue s) := by
  have hfinish : ∀ n (u : State), P u → P (finishRequests n u) := by
    intro n
    induction n with
    | zero => exact fun _ hu => hu
    | succ n ih =>
      intro u hu
      unfold finishRequests
      split
      · exact hu
      · rename_i r hr
        exact ih _ (hP.dispatchPass _ (hP.endRequest (fun _ => List.mem_of_find?_eq_some hr) hu))
  exact hP.dispatchPass _ (hfinish _ s h)

end MotionKept

/-! ## The bounds of the queue (07 R113, R121, R129) -/

/-- The number of COMP requests of a list. -/
def compsIn (l : List Request) : Nat := (l.filter fun r => decide (r.kind = .comp)).length

/-- The law of the queue without what keeps it empty in the load. -/
structure QueueFree (s : State) : Prop where
  length : s.mq.requests.length ≤ 8
  comp : compsIn s.mq.requests ≤ 1
  outcomesA : s.mq.outcomes.a.length ≤ 4
  outcomesB : s.mq.outcomes.b.length ≤ 4

theorem queueFree_looksAt : LooksAt [.mq] QueueFree := by
  intro s t hs h
  have e : t.mq = s.mq := hs .mq (by simp)
  exact ⟨e ▸ h.length, e ▸ h.comp, e ▸ h.outcomesA, e ▸ h.outcomesB⟩

/-- The records of s become those of l: no more of them, no more COMP requests. -/
theorem QueueFree.of_requests {s t : State} (h : QueueFree s) (hl : t.mq.requests.length ≤ s.mq.requests.length)
    (hc : compsIn t.mq.requests ≤ compsIn s.mq.requests) (ho : t.mq.outcomes = s.mq.outcomes) : QueueFree t :=
  ⟨hl.trans h.length, hc.trans h.comp, ho ▸ h.outcomesA, ho ▸ h.outcomesB⟩

theorem compsIn_filter (p : Request → Bool) (l : List Request) : compsIn (l.filter p) ≤ compsIn l := by
  unfold compsIn
  exact (List.filter_sublist.filter _).length_le

theorem compsIn_map (f : Request → Request) (hf : ∀ r, (f r).kind = r.kind) (l : List Request) :
    compsIn (l.map f) = compsIn l := by
  unfold compsIn
  rw [List.filter_map, List.length_map]
  simp only [Function.comp_def, hf]

theorem compsIn_append (l m : List Request) : compsIn (l ++ m) = compsIn l + compsIn m := by
  simp [compsIn]

/-- A change of records that leaves their kinds. -/
theorem QueueFree.map {s t : State} (h : QueueFree s) (f : Request → Request) (hf : ∀ r, (f r).kind = r.kind)
    (hr : t.mq.requests = s.mq.requests.map f) (ho : t.mq.outcomes = s.mq.outcomes) : QueueFree t := by
  refine h.of_requests ?_ ?_ ho <;> rw [hr]
  · rw [List.length_map]
  · rw [compsIn_map f hf]

/-- Records leave the queue. -/
theorem QueueFree.filter {s t : State} (h : QueueFree s) (p : Request → Bool)
    (hr : t.mq.requests = s.mq.requests.filter p) (ho : t.mq.outcomes = s.mq.outcomes) : QueueFree t := by
  refine h.of_requests ?_ ?_ ho <;> rw [hr]
  · exact List.length_filter_le _ _
  · exact compsIn_filter _ _

theorem QueueFree.update {s t : State} (h : QueueFree s) (k : Nat) (f : Request → Request) (hf : ∀ r, (f r).kind = r.kind)
    (hr : t.mq = (updateRequest k f s).mq) : QueueFree t :=
  h.map (fun r => if r.serial = k then f r else r) (fun r => by split <;> simp [hf]) (by rw [hr]; rfl) (by rw [hr]; rfl)

theorem queueFree_motion : MotionKept QueueFree where
  raise _ _ _ h := ⟨h.1, h.2, h.3, h.4⟩
  settle r s _ h := h.of_requests (by rw [settleGeometry_mq]) (by rw [settleGeometry_mq]) (by rw [settleGeometry_mq])
  account r s h := h.of_requests (by rw [accountComp_mq]) (by rw [accountComp_mq]) (by rw [accountComp_mq])
  drop k s h := h.filter _ rfl rfl
  list r o s h := by
    have hpush : ∀ (l : List OutcomeEntry) e, (pushWindow 4 l e).length ≤ 4 := fun l e =>
      length_pushWindow 4 l e (by decide)
    unfold listOutcome
    split
    · exact h
    · rename_i p _
      cases p
      · exact ⟨h.1, h.2, hpush _ _, h.4⟩
      · exact ⟨h.1, h.2, h.3, hpush _ _⟩
  bind r s h := h.update r.serial (fun q => { q with dispatched := true, focusStart := s.axes.focus.position })
    (fun _ => rfl) rfl
  hand r o s _ _ h := h.update r.serial
    (fun q => { q with
      targets := r.axes.map fun x b => if b then some (dispatchTarget s r o x) else none,
      payload := o.bind SlotRec.offsets }) (fun _ => rfl) rfl
  home r s h := by
    unfold startHomingAxes
    split
    · exact h.update r.serial (fun q => { q with failed := true }) (fun _ => rfl) rfl
    · exact ⟨h.1, h.2, h.3, h.4⟩

/-- No request is held. -/
def NothingHeld (s : State) : Prop := s.mq.requests = []

theorem nothingHeld_motion : MotionKept NothingHeld where
  raise _ _ _ h := h
  settle r s hr h := by
    unfold NothingHeld at h
    rw [h] at hr
    cases hr
  account r s h := by
    unfold NothingHeld
    rw [accountComp_mq]
    exact h
  drop k s h := by
    unfold NothingHeld dropRequest at *
    rw [h]
    rfl
  list r o s h := by
    unfold listOutcome
    split <;> exact h
  bind r s h := by
    unfold NothingHeld bindRequest updateRequest at *
    rw [h]
    rfl
  hand r o s _ _ h := by
    unfold NothingHeld handTargets updateRequest at *
    rw [h]
    rfl
  home r s h := by
    unfold NothingHeld startHomingAxes updateRequest at *
    split
    · rw [h]
      rfl
    · exact h

/-! ## The commands and arrivals -/

theorem dispatchPass_queueFree (n : Nat) {s : State} (h : QueueFree s) : QueueFree (dispatchPass n s) :=
  queueFree_motion.dispatchPass n h

theorem settleQueue_queueFree {s : State} (h : QueueFree s) : QueueFree (settleQueue s) := queueFree_motion.settleQueue h

theorem partFailed_queueFree (x : Axis) {s : State} (h : QueueFree s) : QueueFree (partFailed x s) := by
  unfold partFailed
  split
  · exact settleQueue_queueFree h
  · rename_i r _
    refine settleQueue_queueFree (h.update r.serial (fun q => { q with failed := true, stopped := q.stopped || _ }) ?_ rfl)
    exact fun _ => rfl

theorem stopNamed_queueFree (w : PerAxis Bool) {s : State} (h : QueueFree s) : QueueFree (stopNamed w s) :=
  settleQueue_queueFree (h.map (fun r => if r.dispatched && sharesAxis r.axes w then { r with stopped := true } else r)
    (fun r => by split <;> rfl) rfl rfl)

theorem driverFault_queueFree {s : State} (h : QueueFree s) : QueueFree (driverFault s) :=
  settleQueue_queueFree (h.map (fun r => if r.dispatched then { r with failed := true } else r)
    (fun r => by split <;> rfl) rfl rfl)

theorem homeTimedOut_queueFree (x : Axis) {s : State} (h : QueueFree s) : QueueFree (homeTimedOut x s) :=
  partFailed_queueFree x (s := s.setAxis x _) ⟨h.1, h.2, h.3, h.4⟩

theorem compsIn_single {r : Request} (n : Nat) (h : r.kind ≠ .comp) : compsIn [{ r with serial := n }] = 0 := by
  simp [compsIn, h]

/-- An accepted request finds room, a waiting COMP request that it displaces not counted (07 R114, R129). -/
theorem tryEnqueue_queueFree {r : Request} (k : Status) {s : State} (hr : r.kind ≠ .comp) (h : QueueFree s) :
    QueueFree (tryEnqueue r k s).st := by
  unfold tryEnqueue
  split
  · exact h
  · rename_i hfull
    split
    · exact h
    · have hroom : (s.mq.requests.filter fun q => !(r.axes.focus && q.waitingComp)).length < 8 := by
        simpa [queueFull] using hfull
      have hcomp : compsIn (joinQueue r s).mq.requests ≤ 1 := by
        change compsIn (s.mq.requests ++ [{ r with serial := s.mq.nextSerial }]) ≤ 1
        rw [compsIn_append, compsIn_single _ hr]
        exact h.comp
      unfold enqueue
      dsimp only
      refine dispatchPass_queueFree _ ?_
      split
      · rename_i hfocus
        refine ⟨?_, (compsIn_filter _ _).trans hcomp, h.outcomesA, h.outcomesB⟩
        change ((s.mq.requests ++ [_]).filter fun q : Request => !q.waitingComp).length ≤ 8
        rw [List.filter_append, List.length_append]
        simp only [hfocus, Bool.true_and] at hroom
        have hone : ([{ r with serial := s.mq.nextSerial }].filter fun q => !q.waitingComp).length ≤ 1 :=
          List.length_filter_le _ _
        omega
      · rename_i hfocus
        refine ⟨?_, hcomp, h.outcomesA, h.outcomesB⟩
        change (s.mq.requests ++ [_]).length ≤ 8
        simp only [hfocus, Bool.false_and, Bool.not_false, List.filter_true] at hroom
        rw [List.length_append, List.length_singleton]
        omega

theorem compsIn_zero {l : List Request} (h : (l.any fun r => decide (r.kind = .comp)) = false) : compsIn l = 0 := by
  unfold compsIn
  rw [List.length_eq_zero_iff, List.filter_eq_nil_iff]
  intro r hr
  simpa using List.any_eq_false.1 h r hr

theorem evaluateComp_queueFree (v : Int) {s : State} (h : QueueFree s) : QueueFree (evaluateComp v s) := by
  have hasked : ∀ u, QueueFree u → QueueFree (askComp (compTargetOf s.set.fc v) u) := fun u hu => by
    unfold askComp
    split
    · exact hu.map (fun r => if r.waitingComp then { r with compTarget := compTargetOf s.set.fc v } else r)
        (fun r => by split <;> rfl) rfl rfl
    · split
      · exact hu
      · rename_i hcomp
        split
        · exact hu
        · rename_i hroom
          refine dispatchPass_queueFree _ ⟨?_, ?_, hu.outcomesA, hu.outcomesB⟩
          · change (u.mq.requests ++ [_]).length ≤ 8
            rw [List.length_append, List.length_singleton]
            omega
          · change compsIn (u.mq.requests ++ [_]) ≤ 1
            rw [compsIn_append, compsIn_zero (by simpa using hcomp), Nat.zero_add]
            exact List.length_filter_le _ _
  unfold evaluateComp
  dsimp only
  split
  · exact hasked _ ⟨h.1, h.2, h.3, h.4⟩
  · exact ⟨h.1, h.2, h.3, h.4⟩

theorem startRequests_queueFree {s : State} (h : QueueFree s) (hnone : NothingHeld s) : QueueFree (startRequests s) := by
  unfold NothingHeld at hnone
  unfold startRequests
  split
  · refine dispatchPass_queueFree _ ?_
    split
    all_goals refine ⟨?_, ?_, h.outcomesA, h.outcomesB⟩ <;> simp [joinQueue, hnone, startRequest, compsIn]
  · exact h

theorem startUp_queueFree {s : State} (h : QueueFree s) (hnone : NothingHeld s) : QueueFree (startUp s) := by
  have hlook : LooksAt [.mq] fun s => QueueFree s ∧ NothingHeld s := fun s t hs h =>
    ⟨queueFree_looksAt s t hs h.1, by
      unfold NothingHeld
      rw [show t.mq = s.mq from hs .mq (by simp)]
      exact h.2⟩
  have hkeep {l : List Part} {u v : State} (hu : QueueFree u ∧ NothingHeld u) (hf : Frame l u v) (h1 : .mq ∉ l) :
      QueueFree v ∧ NothingHeld v := hlook.of_frame hf (by simp [Meets, h1]) hu
  have htaken := hkeep ⟨h, hnone⟩ (takeSettings_frame s) (by simp)
  have hloaded := hkeep htaken (loaded_frame s) (by simp)
  have hfans := hkeep hloaded (startFans_frame _) (by simp)
  have hprot := hkeep hfans (startProtection_frame _) (by simp)
  have hcomposed := hkeep hprot (firstComposition_frame _) (by simp [composeParts])
  have hmdflt : ∀ u, QueueFree u ∧ NothingHeld u → QueueFree (examineMdflt u) ∧ NothingHeld (examineMdflt u) :=
    fun u hu => by
      unfold examineMdflt
      split
      · refine ⟨driverFault_queueFree hu.1, nothingHeld_motion.settleQueue ?_⟩
        change u.mq.requests.map _ = []
        rw [show u.mq.requests = [] from hu.2]
        rfl
      · exact hu
  have hfaults := hkeep (hmdflt _ hcomposed) (examineFaults_frame _) (by simp)
  rw [startUp_eq]
  exact startRequests_queueFree hfaults.1 hfaults.2

/-- A request of a port is no COMP request. -/
theorem newRequest_kind (p : Port) (k : Kind) (m : PerAxis Bool) (v : PerAxis (Option Int)) (slot tag : Nat) :
    (newRequest p k m v slot tag).kind = k := rfl

theorem answerOf_queueFree (i : Instr) {s : State} (hm : Meets [.mq] (reach i)) (h : QueueFree s) :
    QueueFree (answerOf i s).st := by
  have hfree : ∀ {t : State}, t.mq = s.mq → QueueFree t := fun e => ⟨e ▸ h.1, e ▸ h.2, e ▸ h.3, e ▸ h.4⟩
  cases i <;> (try simp [Meets, reach, motionParts, composeParts] at hm)
  all_goals
    rename_i v
    cases v
  case stop.form a =>
    change QueueFree (stopCommand a s).st
    unfold stopCommand
    split
    · exact h
    · exact stopNamed_queueFree _ h
  case axisSetParams.form a =>
    change QueueFree (axisSetParams a s).st
    unfold axisSetParams
    split
    · split
      · split
        · exact h
        · unfold replaceAxisSettings
          dsimp only
          split
          · exact settleQueue_queueFree (hfree rfl)
          · exact hfree rfl
      · exact h
    · exact h
  case mqMove.form p a =>
    change QueueFree (mqMove p a s).st
    unfold mqMove
    dsimp only
    split
    · exact tryEnqueue_queueFree _ (by simp [newRequest_kind]) h
    · exact h
  case mqStep.form p a =>
    change QueueFree (mqStep p a s).st
    unfold mqStep
    dsimp only
    split
    · exact tryEnqueue_queueFree _ (by simp [newRequest_kind]) h
    · exact h
  case mqHome.form p a =>
    change QueueFree (mqHome p a s).st
    unfold mqHome
    split
    · exact tryEnqueue_queueFree _ (by simp [newRequest_kind]) h
    · exact h
  case mqRecall.form p a =>
    change QueueFree (mqRecall p a s).st
    unfold mqRecall
    split
    · exact tryEnqueue_queueFree _ (by simp [newRequest_kind]) h
    · exact h
  case flush.form p a => exact dispatchPass_queueFree _ (h.filter _ rfl rfl)
  case mqOutcomes.form p a =>
    cases p
    · exact ⟨h.1, h.2, Nat.zero_le _, h.4⟩
    · exact ⟨h.1, h.2, h.3, Nat.zero_le _⟩
  case fcSet.form a =>
    change QueueFree (fcSet a s).st
    unfold fcSet
    split
    · exact h
    · split
      · dsimp only
        split
        · exact hfree rfl
        · exact dispatchPass_queueFree _ (h.filter _ rfl rfl)
      · exact h
  all_goals exact h

theorem arrivalOf_queueFree (i : Instr) {s : State} (hne : arrivalReach i ≠ allParts)
    (hm : Meets [.mq] (arrivalReach i)) (h : QueueFree s) : QueueFree (arrivalOf i s) := by
  have hfree : ∀ {t : State}, t.mq = s.mq → QueueFree t := fun e => ⟨e ▸ h.1, e ▸ h.2, e ▸ h.3, e ▸ h.4⟩
  cases i <;> (try simp [Meets, arrivalReach, motionParts, composeParts, completionParts, conversionParts] at hm)
  case conversionCompletion code =>
    have hlook {l : List Part} {u v : State} (hf : Frame l u v) (h1 : .mq ∉ l) (hu : QueueFree u) : QueueFree v :=
      queueFree_looksAt.of_frame hf (by simp [Meets, h1]) hu
    refine conversionCompleted_keeps code (fun t k r => hlook (frame_smp t _) (by simp)) (fun t k q ht => ?_)
      (fun t => hlook (judgeStartup_frame t) (by simp)) (fun t rest => hlook (endConversion_frame t rest) (by simp)) h
    exact handOn_keeps k q (fun c v => hlook (offerAngle_frame t c v) (by simp [composeParts]))
      (fun v => evaluateComp_queueFree v) (hlook (frame_raise _ _ t) (by simp))
      (fun c u => hlook (frame_att u _) (by simp)) ht
  case settleTimeExpiry x =>
    change QueueFree (settleExpired x s)
    unfold settleExpired
    dsimp only
    split
    · refine settleQueue_queueFree ?_
      split
      · exact queueFree_looksAt.of_frame (zoomSettle_frame _).frame (by simp [Meets, composeParts]) (hfree rfl)
      · exact hfree rfl
    · exact h
  case homeTimeout x =>
    change QueueFree (Machine.homeTimeout x s)
    unfold Machine.homeTimeout
    dsimp only
    split
    · split
      · exact homeTimedOut_queueFree x h
      · exact h
    · exact h
  case indexEdge x =>
    change QueueFree (Machine.indexEdge x s)
    unfold Machine.indexEdge
    dsimp only
    split
    · exact h
    · split
      · exact partFailed_queueFree x (hfree rfl)
      · exact hfree rfl
  case mdfltActivation =>
    change QueueFree (mdfltActivated s)
    unfold mdfltActivated
    dsimp only
    split
    · exact h
    · split
      · exact hfree rfl
      · exact driverFault_queueFree (hfree rfl)
  case stepIssued x d =>
    change QueueFree (Machine.stepIssued x d s)
    unfold Machine.stepIssued
    dsimp only
    split
    · exact hfree rfl
    · exact hfree rfl
    · split
      · split
        · exact homeTimedOut_queueFree x h
        · exact hfree rfl
      · exact h
    · exact h
  all_goals exact absurd rfl hne

theorem resetPart_queueFree (c : ResetCause) (s : State) : QueueFree (resetPart c s) :=
  ⟨Nat.zero_le _, Nat.zero_le _, Nat.zero_le _, Nat.zero_le _⟩

/-- Settles O53: a request joins only where there is room, and an outcome list is a window of 4 (07 R113, R121, R129). -/
theorem queueStaysBounded : Obligations.QueueStaysBounded := by
  intro s t ⟨h1, h2, h3, h4, hquiet⟩ hst
  have hkept := Kept.of_looksAt queueFree_looksAt (by simp) loadQuiet_kept
    (fun i u hm _ hu _ => answerOf_queueFree i hm hu) (fun c u => resetPart_queueFree c u)
    (fun u hl hu hq => startUp_queueFree hu (hq.atRest hl).requests)
    (fun i u hne hm hu _ => arrivalOf_queueFree i hne hm hu)
  obtain ⟨⟨k1, k2, k3, k4⟩, hq⟩ := hkept.step ⟨⟨h1, h2, h3, h4⟩, hquiet⟩ hst
  exact ⟨k1, k2, k3, k4, hq⟩

end Sys2Proof.Machine
end

section
/-! Homed axes stay within their soft limits, and every axis within the ranges of its record (06 R93, R95, R97, R106). -/

namespace Sys2Proof.Machine

/-! ## One axis -/

/-- The law of one axis, with its settings in range. -/
structure AxisFits (g : AxisSettings) (r : AxisRec) : Prop where
  ok : g.ok = true
  position : 0 ≤ r.position ∧ r.position ≤ 65535
  count : (r.homingCount : Int) ≤ g.travel + g.travel / 10
  level : 1 ≤ r.jogLevel ∧ r.jogLevel ≤ 4
  lawful : axisLawful g r

/-- The states in which the position is known (07 R128). -/
def AxisState.known : AxisState → Bool
  | .idle | .moving | .jog | .settling => true
  | .unhomed | .homing | .lost | .fault => false

theorem axisFits_iff (g : AxisSettings) (r : AxisRec) :
    AxisFits g r ↔ g.ok = true ∧ axisRanges g r ∧ axisLawful g r :=
  ⟨fun h => ⟨h.ok, ⟨h.position, h.count, h.level⟩, h.lawful⟩,
    fun ⟨hok, ⟨hposition, hcount, hlevel⟩, hlawful⟩ => ⟨hok, hposition, hcount, hlevel, hlawful⟩⟩

theorem travel_range {g : AxisSettings} (h : g.ok = true) : 1000 ≤ g.travel ∧ g.travel ≤ 65000 := by
  simp only [AxisSettings.ok, Bool.and_eq_true, within, decide_eq_true_eq] at h
  omega

/-- The law says nothing of an axis whose position is not known. -/
theorem axisLawful_of_unknown {g : AxisSettings} {r : AxisRec} (h : r.state.known = false) : axisLawful g r := by
  unfold axisLawful
  cases hs : r.state <;> simp_all [AxisState.known]

theorem axisLawful_of_rest {g : AxisSettings} {r : AxisRec} (hs : r.state ≠ .moving) (hp : inTravel g r.position) :
    axisLawful g r := by
  unfold axisLawful
  cases h : r.state <;> simp_all

theorem axisLawful_moving {g : AxisSettings} {r : AxisRec} (hs : r.state = .moving) :
    axisLawful g r ↔ inTravel g r.position ∧ inTravel g r.legEnd ∧ ∀ t, r.target = some t → inTravel g t := by
  unfold axisLawful
  rw [hs]

namespace AxisFits
variable {g : AxisSettings} {r q : AxisRec}

theorem inTravel (h : AxisFits g r) (hk : r.state.known = true) : inTravel g r.position := by
  have hl := h.lawful
  unfold axisLawful at hl
  cases hs : r.state <;> simp_all [AxisState.known]

theorem moving (h : AxisFits g r) (hs : r.state = .moving) :
    Machine.inTravel g r.position ∧ Machine.inTravel g r.legEnd ∧ ∀ t, r.target = some t → Machine.inTravel g t :=
  (axisLawful_moving hs).1 h.lawful

theorem position_of_travel (h : AxisFits g r) {p : Int} (hp : Machine.inTravel g p) : 0 ≤ p ∧ p ≤ 65535 := by
  have := travel_range h.ok
  have hp' : 0 ≤ p ∧ p ≤ g.travel := hp
  omega

/-- A write that the law does not see. -/
theorem same (h : AxisFits g r) (hstate : q.state = r.state) (hposition : q.position = r.position)
    (hcount : q.homingCount = r.homingCount) (hlevel : q.jogLevel = r.jogLevel) (hend : q.legEnd = r.legEnd)
    (htarget : q.target = r.target) : AxisFits g q := by
  obtain ⟨h1, h2, h3, h4, h5⟩ := h
  refine ⟨h1, hposition ▸ h2, hcount ▸ h3, hlevel ▸ h4, ?_⟩
  unfold axisLawful at *
  rw [hstate, hposition, hend, htarget]
  exact h5

/-- The axis passes to a position in its travel, and does not move. -/
theorem rest (h : AxisFits g r) (hstate : q.state ≠ .moving) (hposition : Machine.inTravel g q.position)
    (hcount : q.homingCount = r.homingCount) (hlevel : 1 ≤ q.jogLevel ∧ q.jogLevel ≤ 4) : AxisFits g q :=
  ⟨h.ok, h.position_of_travel hposition, hcount ▸ h.count, hlevel, axisLawful_of_rest hstate hposition⟩

/-- The axis moves. -/
theorem move (h : AxisFits g r) (hstate : q.state = .moving) (hposition : Machine.inTravel g q.position)
    (hend : Machine.inTravel g q.legEnd) (htarget : ∀ t, q.target = some t → Machine.inTravel g t)
    (hcount : q.homingCount = r.homingCount) (hlevel : q.jogLevel = r.jogLevel) : AxisFits g q :=
  ⟨h.ok, h.position_of_travel hposition, hcount ▸ h.count, hlevel ▸ h.level,
    (axisLawful_moving hstate).2 ⟨hposition, hend, htarget⟩⟩

/-- The axis passes to a state in which its position is not known. -/
theorem unknown (h : AxisFits g r) (hstate : q.state.known = false) (hposition : q.position = r.position)
    (hcount : (q.homingCount : Int) ≤ g.travel + g.travel / 10) (hlevel : q.jogLevel = r.jogLevel) : AxisFits g q :=
  ⟨h.ok, hposition ▸ h.position, hcount, hlevel ▸ h.level, axisLawful_of_unknown hstate⟩

theorem settleAxis (h : AxisFits g r) (hp : Machine.inTravel g r.position) : AxisFits g (settleAxis r) :=
  h.rest (by simp) hp rfl h.level

theorem haltAxis (h : AxisFits g r) {k : AxisState} (hk : k.known = false) : AxisFits g (haltAxis k r) :=
  h.unknown hk rfl h.count rfl

theorem startHoming (h : AxisFits g r) (switch : Bool) : AxisFits g (startHoming switch r) := by
  have := travel_range h.ok
  exact h.unknown rfl rfl (by simp only [Machine.startHoming]; omega) rfl

theorem leg1End_inTravel {p t : Int} (h : AxisFits g r) (ht : Machine.inTravel g t) :
    Machine.inTravel g (leg1End g p t) := by
  have := travel_range h.ok
  unfold leg1End
  split
  · exact ht
  · split <;> exact clamp_range _ _ _ (by omega)

theorem handTarget (h : AxisFits g r) (hs : r.state = .idle) {t : Int} (ht : Machine.inTravel g t) :
    AxisFits g (handTarget g t r) := by
  have hp := h.inTravel (by rw [hs]; rfl)
  unfold Machine.handTarget
  split
  · exact h
  · exact h.move rfl hp (h.leg1End_inTravel ht) (fun u hu => Option.some.inj hu ▸ ht) rfl rfl

theorem endJog (h : AxisFits g r) (hs : r.state = .jog) : AxisFits g (endJog g r) := by
  unfold Machine.endJog
  split
  · have hrest : AxisFits g (if r.dir = r.jogDir then slowJog g r else r) := by
      split
      · exact h.same rfl rfl rfl rfl rfl rfl
      · exact h
    exact hrest.same rfl rfl rfl rfl rfl rfl
  · exact h.settleAxis (h.inTravel (by rw [hs]; rfl))
  · exact h

theorem stopAxis (h : AxisFits g r) : AxisFits g (stopAxis g r) := by
  unfold Machine.stopAxis
  split
  · split
    · exact h.same rfl rfl rfl rfl rfl rfl
    · exact h.same rfl rfl rfl rfl rfl rfl
    · exact h
  · rename_i hs
    exact h.endJog hs
  · exact h.unknown rfl rfl h.count rfl
  · exact h

/-- A position in the travel, the rest of the record as the law sees it unchanged. -/
theorem moved (h : AxisFits g r) (hk : r.state.known = true) (hstate : q.state = r.state)
    (hposition : Machine.inTravel g q.position) (hcount : q.homingCount = r.homingCount)
    (hlevel : q.jogLevel = r.jogLevel) (hend : q.legEnd = r.legEnd) (htarget : q.target = r.target) :
    AxisFits g q := by
  by_cases hm : r.state = .moving
  · obtain ⟨-, h2, h3⟩ := h.moving hm
    exact h.move (hstate.trans hm) hposition (hend ▸ h2) (htarget ▸ h3) hcount hlevel
  · exact h.rest (fun e => hm (hstate.symm.trans e)) hposition hcount (hlevel ▸ h.level)

theorem stepPosition (h : AxisFits g r) (hk : r.state.known = true) : AxisFits g (stepPosition g r) := by
  unfold Machine.stepPosition
  dsimp only
  split
  · rename_i hw
    simp only [within, decide_eq_true_eq] at hw
    exact h.moved hk rfl hw rfl rfl rfl rfl
  · exact h

theorem runStep (h : AxisFits g r) (hk : r.state.known = true) : AxisFits g (runStep g r) := by
  unfold Machine.runStep
  split
  · exact (h.stepPosition hk).same rfl rfl rfl rfl rfl rfl
  · exact h

theorem stepMotion (h : AxisFits g r) (hk : r.state.known = true) (d : StepDir) : AxisFits g (stepMotion g d r) := by
  unfold Machine.stepMotion
  split
  · split
    · exact h.stepPosition hk
    · exact h
  · split
    · exact h.stepPosition hk
    · exact h
  · split
    · exact h.stepPosition hk
    · exact h
  · split
    · split
      · exact h.runStep hk
      · exact h
    · split
      · split
        · exact h.runStep hk
        · exact h
      · split
        · exact AxisFits.runStep (h.same (q := beginRun g d r) rfl rfl rfl rfl rfl rfl) hk
        · exact h
  · exact h

theorem endLeg (h : AxisFits g r) (hs : r.state = .moving) : AxisFits g (endLeg r) := by
  obtain ⟨-, hend, htarget⟩ := h.moving hs
  have hat : AxisFits g { r with position := r.legEnd } :=
    h.moved (by rw [hs]; rfl) rfl hend rfl rfl rfl rfl
  unfold Machine.endLeg
  dsimp only
  split
  · rename_i t _ ht
    split
    · exact hat.settleAxis hend
    · exact hat.move hs hend (htarget t ht) htarget rfl rfl
  · exact hat.settleAxis hend

theorem softLimit_inTravel (h : AxisFits g r) (d : StepDir) : Machine.inTravel g (softLimit g d) := by
  have := travel_range h.ok
  cases d <;> simp only [softLimit, Machine.inTravel] <;> omega

end AxisFits

/-! ## All axes -/

/-- The law of the axes without what holds in the load. -/
def AxesFit (s : State) : Prop := ∀ x, AxisFits (s.set.axes.get x) (s.axes.get x)

theorem axesFit_looksAt : LooksAt [.axisSet, .axes] AxesFit := by
  intro s t hs h x
  have e1 : t.set.axes = s.set.axes := hs .axisSet (by simp)
  have e2 : t.axes = s.axes := hs .axes (by simp)
  rw [e1, e2]
  exact h x

/-- A write that leaves the axes and their settings. -/
theorem AxesFit.of_eq {s t : State} (h : AxesFit s) (h1 : t.set.axes = s.set.axes) (h2 : t.axes = s.axes) :
    AxesFit t := fun x => by
  rw [h1, h2]
  exact h x

theorem AxesFit.setAxis {s : State} (h : AxesFit s) {x : Axis} {r : AxisRec} (hr : AxisFits (s.set.axes.get x) r) :
    AxesFit (s.setAxis x r) := by
  intro y
  change AxisFits (s.set.axes.get y) ((s.axes.set x r).get y)
  by_cases hxy : x = y
  · subst hxy
    rw [PerAxis.get_set_same]
    exact hr
  · rw [PerAxis.get_set_other _ _ _ _ hxy]
    exact h y

/-- A change of every record. -/
theorem AxesFit.map {s t : State} (h : AxesFit s) (f : Axis → AxisRec → AxisRec)
    (hf : ∀ x r, AxisFits (s.set.axes.get x) r → s.axes.get x = r → AxisFits (s.set.axes.get x) (f x r))
    (h1 : t.set.axes = s.set.axes) (h2 : t.axes = s.axes.map f) : AxesFit t := fun x => by
  rw [h1, h2, PerAxis.get_map]
  exact hf x _ (h x) rfl

/-- The target that a dispatch hands an IDLE axis is in its travel (07 R118). -/
theorem dispatchTarget_inTravel {s : State} (h : AxesFit s) (r : Request) (o : Option SlotRec) (x : Axis)
    (hs : (s.axes.get x).state = .idle) : inTravel (s.set.axes.get x) (dispatchTarget s r o x) := by
  have htravel := travel_range (h x).ok
  have hclamp : ∀ v, inTravel (s.set.axes.get x) (clamp 0 (s.set.axes.get x).travel v) := fun v =>
    clamp_range _ _ _ (by omega)
  have hposition := (h x).inTravel (by rw [hs]; rfl)
  unfold dispatchTarget
  dsimp only
  split
  · split <;> exact hclamp _
  · exact hclamp _
  · exact hclamp _
  · split <;> first | exact hposition | exact hclamp _
  · exact hposition

theorem allIdle_state {s : State} {r : Request} (h : allIdle s r = true) {x : Axis} (hx : r.names x = true) :
    (s.axes.get x).state = .idle := by
  have := List.all_eq_true.1 h x (mem_allAxes x)
  simpa [hx] using this

theorem axesFit_motion : MotionKept AxesFit where
  raise _ _ _ h := h.of_eq rfl rfl
  settle r s _ h := by
    have hf : Frame composeParts s (settleGeometry r s).1 := by
      unfold settleGeometry
      split
      · exact Frame.refl _ s
      · split
        · exact Frame.refl _ s
        · exact (compose_frame _ _ s).frame
    exact axesFit_looksAt.of_frame hf (by simp [Meets, composeParts]) h
  account r s h := by
    unfold accountComp
    split <;> exact h.of_eq rfl rfl
  drop k s h := h.map (fun _ a => if a.running = some k then { a with running := none } else a) (fun x r hr _ => by
    split
    · exact hr.same rfl rfl rfl rfl rfl rfl
    · exact hr) rfl rfl
  list r o s h := by
    unfold listOutcome
    split <;> exact h.of_eq rfl rfl
  bind r s h := h.map (fun x a => if r.names x then { a with running := some r.serial } else a) (fun x q hq _ => by
    split
    · exact hq.same rfl rfl rfl rfl rfl rfl
    · exact hq) rfl rfl
  hand r o s hi _ h := h.map
    (fun x a => if r.names x then handTarget (s.set.axes.get x) (dispatchTarget s r o x) a else a) (fun x q hq hx => by
    split
    · rename_i hn
      have hidle := allIdle_state hi hn
      exact hq.handTarget (hx ▸ hidle) (dispatchTarget_inTravel h r o x hidle)
    · exact hq) rfl rfl
  home r s h := by
    unfold startHomingAxes
    split
    · exact h.of_eq rfl rfl
    · refine h.map (fun x a => if r.names x then startHoming (s.inputs.home.get x).level a else a) (fun x q hq _ => ?_)
        rfl rfl
      split
      · exact hq.startHoming _
      · exact hq

theorem settleQueue_axesFit {s : State} (h : AxesFit s) : AxesFit (settleQueue s) := axesFit_motion.settleQueue h

theorem dispatchPass_axesFit (n : Nat) {s : State} (h : AxesFit s) : AxesFit (dispatchPass n s) :=
  axesFit_motion.dispatchPass n h

theorem stopAxes_axesFit (w : PerAxis Bool) {s : State} (h : AxesFit s) : AxesFit (stopAxes w s) :=
  h.map (fun x r => if w.get x then stopAxis (s.set.axes.get x) r else r) (fun x r hr _ => by
    split
    · exact hr.stopAxis
    · exact hr) rfl rfl

theorem partFailed_axesFit (x : Axis) {s : State} (h : AxesFit s) : AxesFit (partFailed x s) := by
  unfold partFailed
  split
  · exact settleQueue_axesFit h
  · exact settleQueue_axesFit ((stopAxes_axesFit _ h).of_eq rfl rfl)

theorem stopNamed_axesFit (w : PerAxis Bool) {s : State} (h : AxesFit s) : AxesFit (stopNamed w s) := by
  unfold stopNamed
  exact settleQueue_axesFit (stopAxes_axesFit _ (h.of_eq rfl rfl))

theorem driverFault_axesFit {s : State} (h : AxesFit s) : AxesFit (driverFault s) :=
  settleQueue_axesFit (h.map (fun _ r => { haltAxis .fault r with reason := .driver }) (fun _ _ hr _ =>
    (hr.haltAxis rfl).same rfl rfl rfl rfl rfl rfl) rfl rfl)

theorem homeTimedOut_axesFit (x : Axis) {s : State} (h : AxesFit s) : AxesFit (homeTimedOut x s) := by
  have htravel := travel_range (h x).ok
  refine partFailed_axesFit x (h.setAxis ((h x).unknown rfl rfl ?_ rfl))
  simp only [homingLimit]
  omega

theorem tryEnqueue_axesFit (r : Request) (k : Status) {s : State} (h : AxesFit s) : AxesFit (tryEnqueue r k s).st := by
  unfold tryEnqueue
  split
  · exact h
  · split
    · exact h
    · unfold enqueue
      dsimp only
      refine dispatchPass_axesFit _ ?_
      split <;> exact h.of_eq rfl rfl

theorem evaluateComp_axesFit (v : Int) {s : State} (h : AxesFit s) : AxesFit (evaluateComp v s) := by
  have hasked : ∀ u, AxesFit u → AxesFit (askComp (compTargetOf s.set.fc v) u) := fun u hu => by
    unfold askComp
    split
    · exact hu.of_eq rfl rfl
    · split
      · exact hu
      · split
        · exact hu
        · exact dispatchPass_axesFit _ (hu.of_eq rfl rfl)
  unfold evaluateComp
  dsimp only
  split
  · exact hasked _ (h.of_eq rfl rfl)
  · exact h.of_eq rfl rfl

/-! ## The load -/

/-- The loaded settings fit axes that are at rest since the reset (06 R111). -/
theorem takeSettings_axesFit {s : State} (h : AxesFit s) (hrest : AtRest s) : AxesFit (takeSettings s) := fun x => by
  have hok := (takeSettings_sound s).axes x
  have htravel := travel_range hok
  have hstate : (s.axes.get x).state.known = false := by
    rw [hrest.axis x]
    rfl
  refine ⟨hok, (h x).position, ?_, (h x).level, axisLawful_of_unknown hstate⟩
  have : ((takeSettings s).axes.get x).homingCount = 0 := hrest.count x
  omega

theorem startUp_axesFit {s : State} (h : AxesFit s) (hrest : AtRest s) : AxesFit (startUp s) := by
  have hkeep {l : List Part} {u v : State} (hu : AxesFit u) (hf : Frame l u v) (h1 : .axisSet ∉ l) (h2 : .axes ∉ l) :
      AxesFit v := axesFit_looksAt.of_frame hf (by simp [Meets, h1, h2]) hu
  have hloaded := hkeep (takeSettings_axesFit h hrest) (loaded_frame s) (by simp) (by simp)
  have hfans := hkeep hloaded (startFans_frame _) (by simp) (by simp)
  have hprot := hkeep hfans (startProtection_frame _) (by simp) (by simp)
  have hcomposed := hkeep hprot (firstComposition_frame _) (by simp [composeParts]) (by simp [composeParts])
  have hmdflt : ∀ u, AxesFit u → AxesFit (examineMdflt u) := fun u hu => by
    unfold examineMdflt
    split
    · exact driverFault_axesFit hu
    · exact hu
  have hfaults := hkeep (hmdflt _ hcomposed) (examineFaults_frame _) (by simp) (by simp)
  rw [startUp_eq]
  unfold startRequests
  split
  · refine dispatchPass_axesFit _ ?_
    split <;> exact AxesFit.of_eq hfaults rfl rfl
  · exact hfaults

/-! ## The commands -/

theorem startJog_fits {s : State} (h : AxesFit s) (p : Port) (x : Axis) (d : StepDir) {n : Nat}
    (hs : (s.axes.get x).state = .idle) (hn : 1 ≤ n ∧ n ≤ 4) :
    AxisFits (s.set.axes.get x) (startJog s p x d n) := by
  have hposition := (h x).inTravel (by rw [hs]; rfl)
  unfold startJog
  dsimp only
  split <;> exact (h x).rest (by simp [beginRun]) hposition rfl hn

theorem refreshJog_fits {s : State} (h : AxesFit s) (x : Axis) (d : StepDir) {n : Nat}
    (hs : (s.axes.get x).state = .jog) (hn : 1 ≤ n ∧ n ≤ 4) : AxisFits (s.set.axes.get x) (refreshJog s x d n) := by
  have hposition := (h x).inTravel (by rw [hs]; rfl)
  have hr : AxisFits (s.set.axes.get x) { startTimeout s.set.jogTimeout (s.axes.get x) with jogLevel := n } :=
    (h x).rest (by simp [startTimeout, hs]) hposition rfl hn
  unfold refreshJog
  dsimp only
  split
  · split
    · exact hr
    · exact hr.same rfl rfl rfl rfl rfl rfl
  · split
    · split
      · exact hr.same rfl rfl rfl rfl rfl rfl
      · exact hr.same rfl rfl rfl rfl rfl rfl
    · split
      · exact hr
      · exact hr.same rfl rfl rfl rfl rfl rfl

theorem jogCommand_axesFit (p : Port) (a : JogArgs) {s : State} (h : AxesFit s) : AxesFit (jogCommand p a s).st := by
  unfold jogCommand
  split
  · exact h
  · rename_i x _
    dsimp only
    split
    · exact h
    · rename_i d _
      split
      · rename_i hlevel
        split
        · rename_i hs
          split
          · exact h.setAxis (refreshJog_fits h x d hs hlevel)
          · exact h
        · split
          · rename_i hidle
            exact h.setAxis (startJog_fits h p x d hidle.1 hlevel)
          · exact h
      · exact h

theorem jogEndCommand_axesFit (p : Port) (a : Nat) {s : State} (h : AxesFit s) : AxesFit (jogEndCommand p a s).st := by
  unfold jogEndCommand
  split
  · exact h
  · dsimp only
    split
    · rename_i hs
      split
      · exact h.setAxis ((h _).endJog hs.1)
      · exact h
    · exact h

/-- New settings of an axis that is at rest (06 R109). -/
theorem replaceAxisSettings_axesFit (x : Axis) {g : AxisSettings} (hg : g.ok = true) {s : State} (h : AxesFit s) :
    AxesFit (replaceAxisSettings x g s) := by
  have hset : ∀ (r : AxisRec), AxisFits g r →
      AxesFit { s with set := { s.set with axes := s.set.axes.set x g }, axes := s.axes.set x r } := fun r hr y => by
    by_cases hxy : x = y
    · subst hxy
      change AxisFits ((s.set.axes.set x g).get x) ((s.axes.set x r).get x)
      rw [PerAxis.get_set_same, PerAxis.get_set_same]
      exact hr
    · change AxisFits ((s.set.axes.set x g).get y) ((s.axes.set x r).get y)
      rw [PerAxis.get_set_other _ _ _ _ hxy, PerAxis.get_set_other _ _ _ _ hxy]
      exact h y
  have htravel := travel_range hg
  unfold replaceAxisSettings
  dsimp only
  split
  · refine settleQueue_axesFit (hset _ ⟨hg, (h x).position, ?_, (h x).level, axisLawful_of_unknown rfl⟩)
    simp only [homingLimit]
    omega
  · rename_i hsame
    have hsame : g.travel = (s.set.axes.get x).travel := by simpa using hsame
    have hr : AxisFits g (s.axes.get x) := by
      obtain ⟨-, h2, h3, h4, h5⟩ := h x
      refine ⟨hg, h2, hsame ▸ h3, h4, ?_⟩
      unfold axisLawful inTravel at *
      rw [hsame]
      exact h5
    have hself : s.axes.set x (s.axes.get x) = s.axes := by cases x <;> rfl
    have := hset _ hr
    rw [hself] at this
    exact this

theorem answerOf_axesFit (i : Instr) {s : State} (hm : Meets [.axisSet, .axes] (reach i)) (h : AxesFit s) :
    AxesFit (answerOf i s).st := by
  cases i <;> (try simp [Meets, reach, motionParts, composeParts] at hm)
  all_goals
    rename_i v
    cases v
  case jog.form p a => exact jogCommand_axesFit p a h
  case jogEnd.form p a => exact jogEndCommand_axesFit p a h
  case stop.form a =>
    change AxesFit (stopCommand a s).st
    unfold stopCommand
    split
    · exact h
    · exact stopNamed_axesFit _ h
  case axisSetParams.form a =>
    change AxesFit (axisSetParams a s).st
    unfold axisSetParams
    split
    · split
      · rename_i hok
        split
        · exact h
        · exact replaceAxisSettings_axesFit _ hok h
      · exact h
    · exact h
  case mqMove.form p a =>
    change AxesFit (mqMove p a s).st
    unfold mqMove
    dsimp only
    split
    · exact tryEnqueue_axesFit _ _ h
    · exact h
  case mqStep.form p a =>
    change AxesFit (mqStep p a s).st
    unfold mqStep
    dsimp only
    split
    · exact tryEnqueue_axesFit _ _ h
    · exact h
  case mqHome.form p a =>
    change AxesFit (mqHome p a s).st
    unfold mqHome
    split
    · exact tryEnqueue_axesFit _ _ h
    · exact h
  case mqRecall.form p a =>
    change AxesFit (mqRecall p a s).st
    unfold mqRecall
    split
    · exact tryEnqueue_axesFit _ _ h
    · exact h
  case flush.form p a => exact dispatchPass_axesFit _ (h.of_eq rfl rfl)
  case fcSet.form a =>
    change AxesFit (fcSet a s).st
    unfold fcSet
    split
    · exact h
    · split
      · dsimp only
        split
        · exact h.of_eq rfl rfl
        · exact dispatchPass_axesFit _ (h.of_eq rfl rfl)
      · exact h
  all_goals exact h

/-! ## The arrivals -/

theorem homeEdge_axesFit (x : Axis) {s : State} (h : AxesFit s) : AxesFit (homeEdge x s) := by
  have htravel := travel_range (h x).ok
  unfold homeEdge
  dsimp only
  split
  · exact h
  · have hin : AxesFit { s with inputs := { s.inputs with home := s.inputs.home.set x (s.inputs.home.get x).confirm } } :=
      h.of_eq rfl rfl
    split
    · rename_i hs _ _
      exact hin.setAxis ((h x).unknown (by simp [hs, AxisState.known]) rfl (by dsimp only; omega) rfl)
    · exact hin.setAxis ((h x).rest (by simp) ⟨Int.le_refl 0, by simp [settleAxis]; omega⟩ rfl (h x).level)
    · exact hin

theorem arrivalOf_axesFit (i : Instr) {s : State} (hne : arrivalReach i ≠ allParts)
    (hm : Meets [.axisSet, .axes] (arrivalReach i)) (h : AxesFit s) : AxesFit (arrivalOf i s) := by
  cases i <;> (try simp [Meets, arrivalReach, motionParts, composeParts, completionParts, conversionParts] at hm)
  case conversionCompletion code =>
    have hlook {l : List Part} {u v : State} (hf : Frame l u v) (h1 : .axisSet ∉ l) (h2 : .axes ∉ l) (hu : AxesFit u) :
        AxesFit v := axesFit_looksAt.of_frame hf (by simp [Meets, h1, h2]) hu
    refine conversionCompleted_keeps code (fun t k r => hlook (frame_smp t _) (by simp) (by simp)) (fun t k q ht => ?_)
      (fun t => hlook (judgeStartup_frame t) (by simp) (by simp))
      (fun t rest => hlook (endConversion_frame t rest) (by simp) (by simp)) h
    exact handOn_keeps k q (fun c v => hlook (offerAngle_frame t c v) (by simp [composeParts]) (by simp [composeParts]))
      (fun v => evaluateComp_axesFit v) (hlook (frame_raise _ _ t) (by simp) (by simp))
      (fun c u => hlook (frame_att u _) (by simp) (by simp)) ht
  case legEnd x =>
    change AxesFit (legEnded x s)
    unfold legEnded
    dsimp only
    split
    · rename_i hs _
      split
      · exact h.setAxis ((h x).endLeg hs)
      · exact h
    · rename_i hs _
      split
      · exact h.setAxis ((h x).endLeg hs)
      · exact h
    · exact h
  case stopDecelerationEnd x =>
    change AxesFit (stopDecelerationEnded x s)
    unfold stopDecelerationEnded
    dsimp only
    split
    · rename_i hs _
      split
      · exact h.setAxis ((h x).settleAxis ((h x).moving hs).1)
      · exact h
    · exact h
  case settleTimeExpiry x =>
    change AxesFit (settleExpired x s)
    unfold settleExpired
    dsimp only
    split
    · rename_i hs
      have hidle : AxesFit (s.setAxis x { s.axes.get x with state := .idle }) :=
        h.setAxis ((h x).rest (by simp) ((h x).inTravel (by rw [hs]; rfl)) rfl (h x).level)
      refine settleQueue_axesFit ?_
      split
      · exact axesFit_looksAt.of_frame (zoomSettle_frame _).frame (by simp [Meets, composeParts]) hidle
      · exact hidle
    · exact h
  case homeSwitchEdge x => exact homeEdge_axesFit x h
  case homeTimeout x =>
    change AxesFit (Machine.homeTimeout x s)
    unfold Machine.homeTimeout
    dsimp only
    split
    · split
      · exact homeTimedOut_axesFit x h
      · exact h
    · exact h
  case indexEdge x =>
    change AxesFit (Machine.indexEdge x s)
    unfold Machine.indexEdge
    dsimp only
    split
    · exact h
    · have hin : AxesFit { s with inputs := { s.inputs with index := s.inputs.index.set x (s.inputs.index.get x).confirm } } :=
        h.of_eq rfl rfl
      split
      · exact partFailed_axesFit x (hin.setAxis (((h x).haltAxis (k := .lost) rfl).same rfl rfl rfl rfl rfl rfl))
      · exact hin
  case mdfltActivation =>
    change AxesFit (mdfltActivated s)
    unfold mdfltActivated
    dsimp only
    split
    · exact h
    · split
      · exact h.of_eq rfl rfl
      · exact driverFault_axesFit (h.of_eq rfl rfl)
  case jogSoftLimitReached x =>
    change AxesFit (jogLimitReached x s)
    unfold jogLimitReached
    dsimp only
    split
    · rename_i hs _
      split
      · exact h.setAxis ((h x).rest (by simp [hs]) ((h x).softLimit_inTravel _) rfl (h x).level)
      · exact h
    · exact h
  case jogTimeoutExpiry e =>
    change AxesFit (jogTimedOut e s)
    unfold jogTimedOut
    dsimp only
    split
    · rename_i hs
      split
      · exact h.setAxis ((h _).endJog hs)
      · exact h
    · exact h
  case jogStopEnd x =>
    change AxesFit (jogStopped x s)
    unfold jogStopped
    dsimp only
    split
    · rename_i hs _
      split
      · exact h.setAxis ((h x).settleAxis ((h x).inTravel (by rw [hs]; rfl)))
      · exact h
    · exact h
  case stepIssued x d =>
    change AxesFit (Machine.stepIssued x d s)
    unfold Machine.stepIssued
    dsimp only
    split
    · rename_i hs
      exact h.setAxis ((h x).stepMotion (by rw [hs]; rfl) d)
    · rename_i hs
      exact h.setAxis ((h x).stepMotion (by rw [hs]; rfl) d)
    · rename_i hs
      split
      · split
        · exact homeTimedOut_axesFit x h
        · rename_i hlimit
          refine h.setAxis ((h x).unknown (by simp [hs, AxisState.known]) rfl ?_ rfl)
          simp only [homingLimit] at hlimit
          push_cast
          omega
      · exact h
    · exact h
  all_goals exact absurd rfl hne

theorem resetPart_axesFit (c : ResetCause) (s : State) : AxesFit (resetPart c s) := fun x => by
  have hdefault : ∀ x, AxisFits (defaultSettings.axes.get x) AxisRec.reset := fun x =>
    (axisFits_iff _ _).2 (by cases x <;> exact ⟨by decide, ⟨by decide, by decide, by decide, by decide⟩, .intro⟩)
  have := hdefault x
  cases x <;> exact this

/-- Settles O55: a position changes by a step within the soft limits, or to an end of travel (06 R95, R97, R106). -/
theorem axesStayInTravel : Obligations.AxesStayInTravel := by
  intro s t ⟨hquiet, haxes⟩ hst
  have hkept := Kept.of_looksAt axesFit_looksAt (by simp) loadQuiet_kept
    (fun i u hm _ hu _ => answerOf_axesFit i hm hu) (fun c u => resetPart_axesFit c u)
    (fun u hl hu hq => startUp_axesFit hu (hq.atRest hl))
    (fun i u hne hm hu _ => arrivalOf_axesFit i hne hm hu)
  obtain ⟨hfit, hq⟩ := hkept.step ⟨fun x => (axisFits_iff _ _).2 (haxes x), hquiet⟩ hst
  exact ⟨hq, fun x => (axisFits_iff _ _).1 (hfit x)⟩

end Sys2Proof.Machine
end

section
/-! Every setting stays in its range (11 R182; 04 R56), with the corner offsets that a running RECALL is to write (07
R118, R120). -/

namespace Sys2Proof.Machine

/-! ## Offsets, rows and vectors -/

theorem PerCorner.all_iff {α : Type} (p : α → Bool) (v : PerCorner α) : v.all p = true ↔ ∀ c, p (v.get c) = true := by
  constructor
  · intro h c
    simp only [PerCorner.all, Bool.and_eq_true] at h
    obtain ⟨⟨⟨h1, h2⟩, h3⟩, h4⟩ := h
    cases c <;> assumption
  · intro h
    simp only [PerCorner.all, Bool.and_eq_true]
    exact ⟨⟨⟨h .tl, h .tr⟩, h .bl⟩, h .br⟩

theorem PerCorner.all_set {α : Type} {p : α → Bool} {v : PerCorner α} (c : Corner) {a : α} (hv : v.all p = true)
    (ha : p a = true) : (v.set c a).all p = true := by
  rw [PerCorner.all_iff] at *
  intro d
  have hd := hv d
  cases c <;> cases d <;> first | exact ha | exact hd

theorem clampOffset_ok (d : Pt) : offsetOk (clampOffset d) = true := by
  have hx := clamp_range (-15360) 15360 d.x (by decide)
  have hy := clamp_range (-15360) 15360 d.y (by decide)
  simp only [offsetOk, clampOffset, within, Bool.and_eq_true]
  exact ⟨decide_eq_true hx, decide_eq_true hy⟩

theorem all_setAt {α : Type} {n : Nat} {p : α → Bool} {v : Vector α n} (i : Nat) {a : α}
    (hv : v.toList.all p = true) (ha : p a = true) : (setAt v i a).toList.all p = true := by
  unfold setAt
  split
  · rw [List.all_eq_true] at *
    intro b hb
    rw [Vector.mem_toList_iff] at hb
    rcases Vector.mem_or_eq_of_mem_set hb with hb | rfl
    · exact hv b (Vector.mem_toList_iff.2 hb)
    · exact ha
  · exact hv

/-! ## The law -/

/-- The offsets that requests are to write are in range. -/
def PayloadsOk (l : List Request) : Prop := ∀ r ∈ l, ∀ d, r.payload = some d → d.all offsetOk = true

/-- The law of the settings, check by check. -/
structure SettingsHold (s : State) : Prop where
  sound : Sound s.set
  payloads : PayloadsOk s.mq.requests

theorem settingsSound_iff (s : State) : SettingsSound s ↔ SettingsHold s :=
  ⟨fun h => ⟨(sound_iff _).1 h.1, h.2⟩, fun h => ⟨(sound_iff _).2 h.sound, h.payloads⟩⟩

/-- What the law looks at. -/
def settingsParts : List Part := [.round, .record, .axisSet, .fanSet, .protSet, .restSet, .mq]

theorem settingsHold_looksAt : LooksAt settingsParts SettingsHold := by
  intro s t hs h
  have e : t.set = s.set := Frame.set_eq (l := [.smp, .att, .geo, .eng, .pres, .axes, .fan, .prot, .port, .store])
    (fun p => by
      by_cases hp : p ∈ settingsParts
      · exact .inr (hs p hp)
      · exact .inl (by cases p <;> simp_all [settingsParts])) (by simp)
  have e2 : t.mq = s.mq := hs .mq (by simp [settingsParts])
  exact ⟨e ▸ h.sound, e2 ▸ h.payloads⟩

theorem SettingsHold.of_eq {s t : State} (h : SettingsHold s) (h1 : t.set = s.set) (h2 : t.mq = s.mq) : SettingsHold t :=
  ⟨h1 ▸ h.sound, h2 ▸ h.payloads⟩

/-- New settings. -/
theorem SettingsHold.set {s : State} (h : SettingsHold s) {g : Settings} (hg : Sound g) :
    SettingsHold { s with set := g } := ⟨hg, h.payloads⟩

/-- Other requests. -/
theorem SettingsHold.requests {s t : State} (h : SettingsHold s) (hset : t.set = s.set)
    (hr : PayloadsOk t.mq.requests) : SettingsHold t := ⟨hset ▸ h.sound, hr⟩

theorem PayloadsOk.filter {l : List Request} (h : PayloadsOk l) (p : Request → Bool) : PayloadsOk (l.filter p) :=
  fun r hr => h r (List.mem_of_mem_filter hr)

theorem PayloadsOk.map {l : List Request} (h : PayloadsOk l) (f : Request → Request)
    (hf : ∀ r, (f r).payload = r.payload ∨ ∀ d, (f r).payload = some d → d.all offsetOk = true) : PayloadsOk (l.map f) := by
  intro r hr d hd
  obtain ⟨q, hq, rfl⟩ := List.mem_map.1 hr
  rcases hf q with e | e
  · exact h q hq d (e ▸ hd)
  · exact e d hd

theorem PayloadsOk.append {l : List Request} (h : PayloadsOk l) {r : Request} (hr : r.payload = none) :
    PayloadsOk (l ++ [r]) := by
  intro q hq d hd
  rcases List.mem_append.1 hq with hq | hq
  · exact h q hq d hd
  · rw [List.mem_singleton.1 hq, hr] at hd
    cases hd

/-! ## Compositions -/

/-- A record that is in range, with the fine limit in force. -/
def Fits (s : State) (g : GeoRecord) : Prop := g.ok = true ∧ g.fineLimit = s.set.geo.fineLimit

theorem geoOk_iff (g : GeoRecord) :
    g.ok = true ↔ panelOk g.width g.height = true ∧ g.offsets.all offsetOk = true ∧ coeffOk g.coeff = true
      ∧ within 0 2048 g.fineLimit = true := by
  simp only [GeoRecord.ok, Bool.and_eq_true]
  tauto

theorem compose_settingsHold {g : GeoRecord} (d : Dest) {s : State} (hg : Fits s g) (h : SettingsHold s) :
    SettingsHold (compose g d s).1 := by
  cases hshape : shapeOk g.width g.height (candidate g s).corners with
  | true =>
    obtain ⟨-, k, e, p, u, he⟩ := compose_accepted g d s hshape
    rw [he]
    have hlayer := h.sound.layer
    rw [← hg.2] at hlayer
    exact ⟨{ h.sound with geo := hg.1, layer := hlayer }, h.payloads⟩
  | false =>
    obtain ⟨-, k, u, he⟩ := compose_refused g d s hshape
    rw [he]
    exact h.of_eq rfl rfl

theorem SettingsHold.fits {s : State} (h : SettingsHold s) : Fits s s.set.geo := ⟨h.sound.geo, rfl⟩

/-- A trial record with other offsets. -/
theorem SettingsHold.fits_offsets {s : State} (h : SettingsHold s) {d : PerCorner Pt} (hd : d.all offsetOk = true)
    (on : Bool) : Fits s { s.set.geo with offsets := d, corners := on } := by
  obtain ⟨h1, -, h3, h4⟩ := (geoOk_iff _).1 h.sound.geo
  exact ⟨(geoOk_iff _).2 ⟨h1, hd, h3, h4⟩, rfl⟩

theorem composeOrHold_settingsHold (d : Dest) {s : State} (h : SettingsHold s) : SettingsHold (composeOrHold d s) := by
  have hc := compose_settingsHold d h.fits h
  unfold composeOrHold
  dsimp only
  split
  · exact hc
  · exact hc.of_eq rfl rfl

theorem tryRecord_settingsHold (p : Port) {g : GeoRecord} (k : Status) {s : State} (hg : Fits s g) (h : SettingsHold s) :
    SettingsHold (tryRecord p g k s).st := by
  unfold tryRecord
  dsimp only
  split <;> exact compose_settingsHold _ hg h

/-! ## The Motion Queue -/

/-- The slots that a RECALL reads are sound (07 R118). -/
theorem slot_offsets {s : State} (h : SettingsHold s) {o : Option SlotRec}
    (ho : o = none ∨ ∃ n : Nat, s.set.slots[n]?.join = o) {d : PerCorner Pt} (hd : o.bind SlotRec.offsets = some d) :
    d.all offsetOk = true := by
  rcases ho with rfl | ⟨n, rfl⟩
  · cases hd
  · obtain ⟨q, hq, hoff⟩ := Option.bind_eq_some_iff.1 hd
    have hmem : some q ∈ s.set.slots.toList := by
      rw [Option.join_eq_some_iff] at hq
      exact Vector.mem_toList_iff.2 (Vector.mem_of_getElem? hq)
    have hok := h.sound.slots _ hmem q rfl
    simp only [SlotRec.ok, hoff, Bool.and_eq_true] at hok
    exact hok.2

theorem settingsHold_motion : MotionKept SettingsHold where
  raise _ _ _ h := h.of_eq rfl rfl
  settle r s hr h := by
    unfold settleGeometry
    split
    · exact h
    · rename_i d hd
      split
      · exact h
      · exact compose_settingsHold _ (h.fits_offsets (h.payloads r hr d hd) true) h
  account r s h := by
    unfold accountComp
    split
    · exact h.of_eq rfl rfl
    · exact h
  drop k s h := h.requests rfl (h.payloads.filter _)
  list r o s h := by
    unfold listOutcome
    split
    · exact h
    · exact h.requests rfl h.payloads
  bind r s h := h.requests rfl (h.payloads.map _ fun q => .inl (by split <;> rfl))
  hand r o s _ ho h := h.requests rfl (h.payloads.map _ fun q => by
    split
    · exact .inr fun d hd => slot_offsets h ho hd
    · exact .inl rfl)
  home r s h := by
    unfold startHomingAxes
    split
    · exact h.requests rfl (h.payloads.map _ fun q => .inl (by split <;> rfl))
    · exact h.of_eq rfl rfl

theorem settleQueue_settingsHold {s : State} (h : SettingsHold s) : SettingsHold (settleQueue s) :=
  settingsHold_motion.settleQueue h

theorem dispatchPass_settingsHold (n : Nat) {s : State} (h : SettingsHold s) : SettingsHold (dispatchPass n s) :=
  settingsHold_motion.dispatchPass n h

theorem partFailed_settingsHold (x : Axis) {s : State} (h : SettingsHold s) : SettingsHold (partFailed x s) := by
  unfold partFailed
  split
  · exact settleQueue_settingsHold h
  · exact settleQueue_settingsHold (h.requests rfl (h.payloads.map _ fun q => .inl (by split <;> rfl)))

theorem stopNamed_settingsHold (w : PerAxis Bool) {s : State} (h : SettingsHold s) : SettingsHold (stopNamed w s) :=
  settleQueue_settingsHold (h.requests rfl (h.payloads.map _ fun q => .inl (by split <;> rfl)))

theorem driverFault_settingsHold {s : State} (h : SettingsHold s) : SettingsHold (driverFault s) :=
  settleQueue_settingsHold (h.requests rfl (h.payloads.map _ fun q => .inl (by split <;> rfl)))

theorem homeTimedOut_settingsHold (x : Axis) {s : State} (h : SettingsHold s) : SettingsHold (homeTimedOut x s) :=
  partFailed_settingsHold x (s := s.setAxis x _) (h.of_eq rfl rfl)

theorem tryEnqueue_settingsHold {r : Request} (k : Status) {s : State} (hr : r.payload = none) (h : SettingsHold s) :
    SettingsHold (tryEnqueue r k s).st := by
  have hjoined : SettingsHold (joinQueue r s) := h.requests rfl (h.payloads.append hr)
  unfold tryEnqueue
  split
  · exact h
  · split
    · exact h
    · unfold enqueue
      dsimp only
      refine dispatchPass_settingsHold _ ?_
      split
      · exact hjoined.requests rfl (hjoined.payloads.filter _)
      · exact hjoined

theorem evaluateComp_settingsHold (v : Int) {s : State} (h : SettingsHold s) : SettingsHold (evaluateComp v s) := by
  have hasked : ∀ u, SettingsHold u → SettingsHold (askComp (compTargetOf s.set.fc v) u) := fun u hu => by
    unfold askComp
    split
    · exact hu.requests rfl (hu.payloads.map _ fun q => .inl (by split <;> rfl))
    · split
      · exact hu
      · split
        · exact hu
        · exact dispatchPass_settingsHold _ (hu.requests rfl (hu.payloads.append rfl))
  unfold evaluateComp
  dsimp only
  split
  · exact hasked _ (h.of_eq rfl rfl)
  · exact h.of_eq rfl rfl

/-! ## Attitude and conversions -/

theorem setPitch_settingsHold (app ref : Int) {s : State} (h : SettingsHold s) : SettingsHold (setPitch app ref s) :=
  ⟨{ h.sound with }, h.payloads⟩

theorem changeOrientation_settingsHold (o : Orientation) (d : Dest) {s : State} (h : SettingsHold s) :
    SettingsHold (changeOrientation o d s) := by
  have hraised : SettingsHold (raise d .orientationChanged { s with att := { s.att with effective := o } }) := h.of_eq rfl rfl
  exact (composeOrHold_settingsHold d hraised).of_eq rfl rfl

theorem follow_settingsHold (f : Int) {s : State} (h : SettingsHold s) : SettingsHold (follow f s) := by
  have hp : SettingsHold (setPitch f s.set.pRef s) := setPitch_settingsHold _ _ h
  have hc := compose_settingsHold (g := s.set.geo) .both (s := setPitch f s.set.pRef s) hp.fits hp
  unfold follow
  dsimp only
  split
  · exact hc
  · exact (setPitch_settingsHold s.att.pApp s.set.pRef hc).of_eq rfl rfl

theorem offerAngle_settingsHold (c : AngleCh) (v : Int) {s : State} (h : SettingsHold s) :
    SettingsHold (offerAngle c v s) := by
  have hdecided : ∀ u, SettingsHold u → SettingsHold (angleDecision c u) := fun u hu => by
    unfold angleDecision
    split
    · exact hu
    · split <;> split
      · unfold followDecision
        split
        · exact hu.of_eq rfl rfl
        · split
          · exact follow_settingsHold _ hu
          · exact hu
      · exact hu
      · unfold rollTest
        split
        · split
          · exact hu.of_eq rfl rfl
          · exact hu
        · split
          · exact hu.of_eq rfl rfl
          · exact hu
      · exact hu
      · unfold detectOrientation
        split
        · exact hu.of_eq rfl rfl
        · split
          · exact hu.of_eq rfl rfl
          · split
            · exact changeOrientation_settingsHold _ _ (hu.of_eq rfl rfl)
            · exact hu.of_eq rfl rfl
      · exact hu
  unfold offerAngle
  split
  · exact h
  · exact hdecided _ (h.of_eq rfl rfl)

theorem captureLevel_settingsHold (p : Port) {s : State} (h : SettingsHold s) :
    SettingsHold (captureLevel p () s).st := by
  unfold captureLevel
  split
  · exact h
  · rename_i f _
    split
    · have hp : SettingsHold (setPitch f f s) := setPitch_settingsHold _ _ h
      have hc := compose_settingsHold (g := s.set.geo) (.port p) (s := setPitch f f s) hp.fits hp
      dsimp only
      split
      · exact hc
      · exact setPitch_settingsHold _ _ hc
    · exact h

theorem attSetOrientation_settingsHold (p : Port) (a : Nat) {s : State} (h : SettingsHold s) :
    SettingsHold (attSetOrientation p a s).st := by
  have hset : ∀ g, SettingsHold (setOrientation g s) := fun g => ⟨{ h.sound with }, h.payloads⟩
  have hname : ∀ o g, SettingsHold (nameOrientation p o (setOrientation g s)) := fun o g => by
    unfold nameOrientation
    split
    · exact hset g
    · exact changeOrientation_settingsHold _ _ (hset g)
  unfold attSetOrientation
  split
  · exact hname _ _
  · exact hname _ _
  · exact hset _
  · exact h

/-! ## The fine-warp layer (04 R56 to R63) -/

/-- The components of an entry lie within a limit. -/
def entryWithin (limit : Int) (d : Pt) : Bool := within (-limit) limit d.x && within (-limit) limit d.y

theorem layerOk_iff (limit : Int) (l : FineLayer) : layerOk limit l = l.toList.all (entryWithin limit) := rfl

theorem SettingsHold.limit {s : State} (h : SettingsHold s) : 0 ≤ s.set.geo.fineLimit := by
  obtain ⟨-, -, -, h4⟩ := (geoOk_iff _).1 h.sound.geo
  exact (of_decide_eq_true h4).1

theorem entryWithin_zero {limit : Int} (h : 0 ≤ limit) : entryWithin limit ⟨0, 0⟩ = true := by
  simp only [entryWithin, within, Bool.and_eq_true, decide_eq_true_eq]
  omega

theorem layerEntry_within {s : State} (h : SettingsHold s) (i j : Nat) :
    entryWithin s.set.geo.fineLimit (layerEntry i j s) = true := by
  have hlayer := h.sound.layer
  rw [layerOk_iff, List.all_eq_true] at hlayer
  unfold layerEntry meshAt
  cases hk : s.set.layer[meshIndex i j]? with
  | none => exact entryWithin_zero h.limit
  | some d => exact hlayer d (Vector.mem_toList_iff.2 (Vector.mem_of_getElem? hk))

theorem putComps_within {limit : Int} {v : Comps} {d : Pt} (hd : entryWithin limit d = true)
    (hv : allComps (within (-limit) limit) v = true) : entryWithin limit (putComps v d) = true := by
  simp only [entryWithin, Bool.and_eq_true] at *
  cases v with
  | x a => exact ⟨hv, hd.2⟩
  | y b => exact ⟨hd.1, hv⟩
  | both a b =>
    simp only [allComps, Bool.and_eq_true] at hv
    exact hv

theorem within_clamp {limit : Int} (h : 0 ≤ limit) (v : Int) : within (-limit) limit (clamp (-limit) limit v) = true :=
  decide_eq_true (clamp_range (-limit) limit v (by omega))

theorem saturateComps_within {limit : Int} (h : 0 ≤ limit) (v : Comps) :
    allComps (within (-limit) limit) (saturateComps limit v) = true := by
  cases v with
  | x a => exact within_clamp h a
  | y b => exact within_clamp h b
  | both a b =>
    simp only [allComps, saturateComps, Bool.and_eq_true]
    exact ⟨within_clamp h a, within_clamp h b⟩

theorem zeroComps_within {limit : Int} (h : 0 ≤ limit) (c : Selector) :
    allComps (within (-limit) limit) (zeroComps c) = true := by
  have h0 : within (-limit) limit 0 = true := decide_eq_true (by omega)
  cases c <;> simp [allComps, zeroComps, h0]

theorem rebuildIfWarped_settingsHold {s : State} (h : SettingsHold s) : SettingsHold (rebuildIfWarped s) := by
  unfold rebuildIfWarped
  split
  · exact settingsHold_looksAt.of_frame (rebuild_frame false s).frame (by simp [Meets, settingsParts]) h
  · exact h

theorem acceptEdit_settingsHold (i j : Nat) {d : Pt} (k : Status) {s : State} (h : SettingsHold s)
    (hd : entryWithin s.set.geo.fineLimit d = true) : SettingsHold (acceptEdit i j d k s).st := by
  have hlayer : layerOk s.set.geo.fineLimit (setAt s.set.layer (meshIndex i j) d) = true := all_setAt _ h.sound.layer hd
  exact rebuildIfWarped_settingsHold (s := setEntry i j d s) ⟨{ h.sound with layer := hlayer }, h.payloads⟩

theorem rangeReply_settingsHold (i j : Nat) {s : State} (h : SettingsHold s) : SettingsHold (rangeReply i j s).st := by
  unfold rangeReply
  split <;> exact h

theorem editChecks_settingsHold (i j : Nat) (ok : Bool) (e : Option Comps) (edit : State → Answer) {s : State}
    (hedit : SettingsHold (edit s).st) (h : SettingsHold s) : SettingsHold (editChecks i j ok e edit s).st := by
  unfold editChecks
  split
  · split
    · exact h
    · exact hedit
  · exact rangeReply_settingsHold i j h

theorem fwSet_settingsHold (a : EditArgs) {s : State} (h : SettingsHold s) : SettingsHold (fwSet a s).st := by
  refine editChecks_settingsHold _ _ _ _ _ ?_ h
  split
  · rename_i hv
    exact acceptEdit_settingsHold _ _ _ h (putComps_within (layerEntry_within h _ _) hv)
  · exact h

theorem fwNudge_settingsHold (a : EditArgs) {s : State} (h : SettingsHold s) : SettingsHold (fwNudge a s).st :=
  editChecks_settingsHold _ _ _ _ _
    (acceptEdit_settingsHold _ _ _ h (putComps_within (layerEntry_within h _ _) (saturateComps_within h.limit _))) h

theorem fwZero_settingsHold (a : ZeroArgs) {s : State} (h : SettingsHold s) : SettingsHold (fwZero a s).st :=
  editChecks_settingsHold _ _ _ _ _
    (acceptEdit_settingsHold _ _ _ h (putComps_within (layerEntry_within h _ _) (zeroComps_within h.limit _))) h

theorem fwZeroAll_settingsHold {s : State} (h : SettingsHold s) : SettingsHold (fwZeroAll () s).st := by
  have hlayer : layerOk s.set.geo.fineLimit (Vector.replicate 153 ⟨0, 0⟩) = true := by
    rw [layerOk_iff, List.all_eq_true]
    intro d hd
    rw [Vector.mem_toList_iff, Vector.mem_replicate] at hd
    rw [hd.2]
    exact entryWithin_zero h.limit
  exact rebuildIfWarped_settingsHold (s := { s with set := { s.set with layer := Vector.replicate 153 ⟨0, 0⟩ } })
    ⟨{ h.sound with layer := hlayer }, h.payloads⟩

theorem fwSetLimit_settingsHold (n : Nat) {s : State} (h : SettingsHold s) : SettingsHold (fwSetLimit n s).st := by
  unfold fwSetLimit
  split
  · rename_i hn
    have hgeo : ({ s.set.geo with fineLimit := (n : Int) } : GeoRecord).ok = true := by
      obtain ⟨h1, h2, h3, -⟩ := (geoOk_iff _).1 h.sound.geo
      exact (geoOk_iff _).2 ⟨h1, h2, h3, decide_eq_true (by dsimp only; omega)⟩
    have hlayer : layerOk n (s.set.layer.map (saturateEntry n)) = true := by
      rw [layerOk_iff, List.all_eq_true]
      intro d hd
      rw [Vector.mem_toList_iff, Vector.mem_map] at hd
      obtain ⟨e, -, rfl⟩ := hd
      simp only [entryWithin, saturateEntry, Bool.and_eq_true]
      exact ⟨within_clamp (by omega) _, within_clamp (by omega) _⟩
    have happlied : SettingsHold (applyLimit n s) := ⟨{ h.sound with geo := hgeo, layer := hlayer }, h.payloads⟩
    dsimp only
    split
    · exact rebuildIfWarped_settingsHold happlied
    · exact happlied
  · exact h

/-- Of the record, follow and fine warp have no range. -/
theorem setFollow_settingsHold (on : Bool) {s : State} (h : SettingsHold s) : SettingsHold (setFollow on s) := by
  have hgeo : ({ s.set.geo with follow := on } : GeoRecord).ok = true := h.sound.geo
  exact ⟨{ h.sound with geo := hgeo }, h.payloads⟩

theorem fwEnable_settingsHold (n : Nat) {s : State} (h : SettingsHold s) : SettingsHold (fwEnable n s).st := by
  have hset : ∀ on, SettingsHold (rebuild false (setFineWarp on s)) := fun on => by
    have hgeo : ({ s.set.geo with fineWarp := on } : GeoRecord).ok = true := h.sound.geo
    exact settingsHold_looksAt.of_frame (rebuild_frame false _).frame (by simp [Meets, settingsParts])
      (show SettingsHold (setFineWarp on s) from ⟨{ h.sound with geo := hgeo }, h.payloads⟩)
  unfold fwEnable
  split
  · exact hset _
  · exact hset _
  · exact h

/-! ## The other commands -/

theorem smpSetChannel_settingsHold (a : ChannelArgs) {s : State} (h : SettingsHold s) :
    SettingsHold (smpSetChannel a s).st := by
  unfold smpSetChannel
  split
  · split
    · split
      · exact ⟨{ h.sound with }, h.payloads⟩
      · exact h
    · exact h
  · split
    · split
      · exact h
      · rename_i c _
        split
        · rename_i hok
          obtain ⟨h1, h2, h3⟩ := h.sound.angle
          refine ⟨{ h.sound with angle := ?_ }, h.payloads⟩
          cases c
          · exact ⟨hok, h2, h3⟩
          · exact ⟨h1, hok, h3⟩
          · exact ⟨h1, h2, hok⟩
        · exact h
    · exact h

/-- A slot that is in range, or empty. -/
theorem setSlot_settingsHold (i : Nat) {o : Option SlotRec} {s : State} (ho : ∀ q, o = some q → q.ok = true)
    (h : SettingsHold s) : SettingsHold (setSlot i o s) := by
  refine ⟨{ h.sound with slots := fun r hr => ?_ }, h.payloads⟩
  change r ∈ (setAt s.set.slots i o).toList at hr
  unfold setAt at hr
  split at hr
  · rw [Vector.mem_toList_iff] at hr
    rcases Vector.mem_or_eq_of_mem_set hr with hr | rfl
    · exact h.sound.slots r (Vector.mem_toList_iff.2 hr)
    · exact ho
  · exact h.sound.slots r hr

theorem memSave_settingsHold (a : SaveArgs) {s : State} (h : SettingsHold s) : SettingsHold (memSave a s).st := by
  unfold memSave
  split
  · exact h
  · rename_i label hlabel
    split
    · exact h
    · split
      · exact h
      · split
        · exact h
        · refine setSlot_settingsHold _ (fun q hq => ?_) h
          cases hq
          simp only [SlotRec.ok, savedSlot, Bool.and_eq_true]
          constructor
          · unfold labelOf at hlabel
            split at hlabel
            · split at hlabel
              · cases hlabel
                assumption
              · cases hlabel
            · cases hlabel
              rfl
          · by_cases hg : a.flags.testBit 0 = true
            · rw [if_pos hg]
              exact ((geoOk_iff _).1 h.sound.geo).2.1
            · rw [if_neg hg]

theorem fanSettingsOk_iff (g : FanSettings) :
    g.ok = true ↔ curveOk g.curve = true ∧ boundOk g.bound = true
      ∧ fanParamsOk g.spinFloor g.quietCap g.stallSpeed = true := by
  simp only [FanSettings.ok, Bool.and_eq_true]
  tauto

theorem setFanSettings_sound (f : Fan) {g : FanSettings} {s : State} (hg : g.ok = true) (h : SettingsHold s) :
    SettingsHold (setFanSettings f g s) := by
  refine ⟨{ h.sound with fans := fun k => ?_ }, h.payloads⟩
  have hk := h.sound.fans k
  cases f <;> cases k <;> first | exact hg | exact hk

theorem boundSet_ok {l : List Nat} (h : bindingOk l = true) : boundOk (boundSet l) = true := by
  simp only [bindingOk, Bool.and_eq_true, decide_eq_true_eq, List.all_eq_true] at h
  obtain ⟨⟨⟨hpos, -⟩, -⟩, hall⟩ := h
  obtain ⟨n, hn⟩ := List.exists_mem_of_length_pos (Nat.lt_of_lt_of_le Nat.zero_lt_one hpos)
  unfold boundOk
  rw [List.any_eq_true]
  refine ⟨true, Vector.mem_toList_iff.2 (Vector.mem_ofFn.2 ⟨⟨n, hall n hn⟩, ?_⟩), rfl⟩
  exact List.contains_iff_mem.2 hn

theorem replaceAxisSettings_settingsHold (x : Axis) {g : AxisSettings} (hg : g.ok = true) {s : State}
    (h : SettingsHold s) : SettingsHold (replaceAxisSettings x g s) := by
  have hset : SettingsHold { s with set := { s.set with axes := s.set.axes.set x g } } := by
    refine ⟨{ h.sound with axes := fun y => ?_ }, h.payloads⟩
    have hy := h.sound.axes y
    cases x <;> cases y <;> first | exact hg | exact hy
  unfold replaceAxisSettings
  dsimp only
  split
  · exact settleQueue_settingsHold (hset.of_eq rfl rfl)
  · exact hset

theorem answerOf_settingsHold (i : Instr) {s : State} (hm : Meets settingsParts (reach i)) (h : SettingsHold s) :
    SettingsHold (answerOf i s).st := by
  have hsound := h.sound
  have hpanel := (geoOk_iff _).1 hsound.geo
  cases i <;> (try simp [Meets, settingsParts, reach, motionParts, composeParts] at hm)
  all_goals
    rename_i v
    cases v
  case smpSetRound.form a =>
    change SettingsHold (smpSetRound a s).st
    unfold smpSetRound
    split
    · exact h
    · split
      · rename_i hok
        exact ⟨{ hsound with round := hok }, h.payloads⟩
      · exact h
  case smpSetTrigger.form a =>
    change SettingsHold (smpSetTrigger a s).st
    unfold smpSetTrigger
    split
    · exact h
    · split
      · rename_i hok
        exact ⟨{ hsound with trigger := hok }, h.payloads⟩
      · exact h
  case smpSetTable.form a =>
    change SettingsHold (smpSetTable a s).st
    unfold smpSetTable
    split
    · exact h
    · split
      · rename_i hok
        exact ⟨{ hsound with tables := all_setAt _ hsound.tables hok.2 }, h.payloads⟩
      · exact h
  case smpSetChannel.form a => exact smpSetChannel_settingsHold a h
  case captureLevel.form p a => exact captureLevel_settingsHold p h
  case attSetOrientation.form p a => exact attSetOrientation_settingsHold p a h
  case attSetParams.form a =>
    change SettingsHold (attSetParams a s).st
    unfold attSetParams
    dsimp only
    split
    · rename_i hok
      exact ⟨{ hsound with att := hok }, h.payloads⟩
    · exact h
  case geoSetCorner.form p a =>
    change SettingsHold (geoSetCorner p a s).st
    unfold geoSetCorner
    split
    · exact h
    · exact tryRecord_settingsHold _ _ (h.fits_offsets (PerCorner.all_set _ hpanel.2.1 (clampOffset_ok _)) _) h
  case geoSetCorners.form p a =>
    exact tryRecord_settingsHold _ _
      (h.fits_offsets ((PerCorner.all_iff _ _).2 fun c => by cases c <;> exact clampOffset_ok _) _) h
  case geoNudgeCorner.form p a =>
    change SettingsHold (geoNudgeCorner p a s).st
    unfold geoNudgeCorner
    split
    · exact h
    · split
      · exact tryRecord_settingsHold _ _ (h.fits_offsets (PerCorner.all_set _ hpanel.2.1 (clampOffset_ok _)) _) h
      · exact h
  case geoZeroCorners.form p a =>
    exact tryRecord_settingsHold _ _
      (h.fits_offsets ((PerCorner.all_iff _ _).2 fun c => by cases c <;> rfl) _) h
  case geoSetMode.form p a =>
    change SettingsHold (geoSetMode p a s).st
    unfold geoSetMode
    split
    · exact tryRecord_settingsHold _ _ (h.fits_offsets hpanel.2.1 false) h
    · exact tryRecord_settingsHold _ _ (h.fits_offsets hpanel.2.1 true) h
    · exact h
  case geoSetFollow.form a =>
    change SettingsHold (geoSetFollow a s).st
    unfold geoSetFollow
    split
    · exact setFollow_settingsHold _ h
    · exact setFollow_settingsHold _ h
    · exact h
  case geoSetPanel.form p a =>
    change SettingsHold (geoSetPanel p a s).st
    unfold geoSetPanel
    split
    · rename_i hok
      exact tryRecord_settingsHold _ _ ⟨(geoOk_iff _).2 ⟨hok, hpanel.2⟩, rfl⟩ h
    · exact h
  case geoSetZoomTable.form p a =>
    change SettingsHold (geoSetZoomTable p a s).st
    unfold geoSetZoomTable
    split
    · exact h
    · split
      · rename_i hok
        exact tryRecord_settingsHold _ _ ⟨(geoOk_iff _).2 ⟨hpanel.1, hpanel.2.1, hok, hpanel.2.2.2⟩, rfl⟩ h
      · exact h
  case fwSet.form a => exact fwSet_settingsHold a h
  case fwNudge.form a => exact fwNudge_settingsHold a h
  case fwZero.form a => exact fwZero_settingsHold a h
  case fwSet.noForm a b | fwNudge.noForm a b | fwZero.noForm a b => exact rangeReply_settingsHold a b h
  case fwZeroAll.form a => exact fwZeroAll_settingsHold h
  case fwSetLimit.form a => exact fwSetLimit_settingsHold a h
  case fwEnable.form a => exact fwEnable_settingsHold a h
  case stop.form a =>
    change SettingsHold (stopCommand a s).st
    unfold stopCommand
    split
    · exact h
    · exact stopNamed_settingsHold _ h
  case axisSetParams.form a =>
    change SettingsHold (axisSetParams a s).st
    unfold axisSetParams
    split
    · split
      · rename_i hok
        split
        · exact h
        · exact replaceAxisSettings_settingsHold _ hok h
      · exact h
    · exact h
  case axisSetJog.form a =>
    change SettingsHold (axisSetJog a s).st
    unfold axisSetJog
    split
    · rename_i hok
      exact ⟨{ hsound with jogTimeout := hok }, h.payloads⟩
    · exact h
  case mqMove.form p a =>
    change SettingsHold (mqMove p a s).st
    unfold mqMove
    dsimp only
    split
    · exact tryEnqueue_settingsHold _ rfl h
    · exact h
  case mqStep.form p a =>
    change SettingsHold (mqStep p a s).st
    unfold mqStep
    dsimp only
    split
    · exact tryEnqueue_settingsHold _ rfl h
    · exact h
  case mqHome.form p a =>
    change SettingsHold (mqHome p a s).st
    unfold mqHome
    split
    · exact tryEnqueue_settingsHold _ rfl h
    · exact h
  case mqRecall.form p a =>
    change SettingsHold (mqRecall p a s).st
    unfold mqRecall
    split
    · exact tryEnqueue_settingsHold _ rfl h
    · exact h
  case flush.form p a => exact dispatchPass_settingsHold _ (h.requests rfl (h.payloads.filter _))
  case memSave.form a => exact memSave_settingsHold a h
  case memDelete.form a =>
    change SettingsHold (memDelete a s).st
    unfold memDelete
    split
    · exact h
    · exact setSlot_settingsHold _ (fun q hq => by cases hq) h
  case memSetPoweron.form a =>
    change SettingsHold (memSetPoweron a s).st
    unfold memSetPoweron
    split
    · exact ⟨{ hsound with }, h.payloads⟩
    · split
      · exact ⟨{ hsound with }, h.payloads⟩
      · exact h
  case fcSet.form a =>
    change SettingsHold (fcSet a s).st
    unfold fcSet
    split
    · exact h
    · split
      · rename_i hok
        dsimp only
        split
        · exact ⟨{ hsound with fc := hok }, h.payloads⟩
        · exact dispatchPass_settingsHold _ ⟨{ hsound with fc := hok }, h.payloads.filter _⟩
      · exact h
  case fanSetQuiet.form a =>
    change SettingsHold (fanSetQuiet a s).st
    unfold fanSetQuiet
    split
    · exact ⟨{ hsound with }, h.payloads⟩
    · exact ⟨{ hsound with }, h.payloads⟩
    · exact h
  case fanSetCurve.form a =>
    change SettingsHold (fanSetCurve a s).st
    unfold fanSetCurve
    split
    · exact h
    · split
      · rename_i f _ hok
        have hf := (fanSettingsOk_iff _).1 (hsound.fans f)
        exact setFanSettings_sound f ((fanSettingsOk_iff _).2 ⟨hok, hf.2⟩) h
      · exact h
  case fanSetBinding.form a =>
    change SettingsHold (fanSetBinding a s).st
    unfold fanSetBinding
    split
    · exact h
    · split
      · rename_i f _ hok
        have hf := (fanSettingsOk_iff _).1 (hsound.fans f)
        exact setFanSettings_sound f ((fanSettingsOk_iff _).2 ⟨hf.1, boundSet_ok hok, hf.2.2⟩) h
      · exact h
  case fanSetParams.form a =>
    change SettingsHold (fanSetParams a s).st
    unfold fanSetParams
    split
    · exact h
    · split
      · rename_i f _ hok
        have hf := (fanSettingsOk_iff _).1 (hsound.fans f)
        have hg : ({ s.set.fans.get f with
            spinFloor := a.spinFloor, quietCap := a.quietCap, stallSpeed := a.stallSpeed } : FanSettings).ok = true :=
          (fanSettingsOk_iff _).2 ⟨hf.1, hf.2.1, hok⟩
        exact (setFanSettings_sound f hg h).of_eq rfl rfl
      · exact h
  case fanSetOffsets.form a =>
    change SettingsHold (fanSetOffsets a s).st
    unfold fanSetOffsets
    split
    · rename_i hok
      exact ⟨{ hsound with offsets := all_setAt _ hsound.offsets hok.2 }, h.payloads⟩
    · exact h
  case fanSetSlew.form a =>
    change SettingsHold (fanSetSlew a s).st
    unfold fanSetSlew
    split
    · rename_i hok
      exact ⟨{ hsound with slew := hok }, h.payloads⟩
    · exact h
  case protSetParams.form a =>
    change SettingsHold (protSetParams a s).st
    unfold protSetParams
    split
    · rename_i hok
      have hset : SettingsHold { s with set := { s.set with prot := protSettingsOf a } } :=
        ⟨{ hsound with prot := hok }, h.payloads⟩
      change SettingsHold (liftToFloor _)
      unfold liftToFloor
      split
      · obtain ⟨u, e⟩ := setAllowance_frame (protSettingsOf a).floor
          { s with set := { s.set with prot := protSettingsOf a } }
        exact e ▸ hset.of_eq rfl rfl
      · exact hset
    · exact h
  case protSetThresholds.form a =>
    change SettingsHold (protSetThresholds a s).st
    unfold protSetThresholds
    split
    · rename_i hok
      exact ⟨{ hsound with thresholds := all_setAt _ hsound.thresholds hok.2 }, h.payloads⟩
    · exact h
  case setRights.form a =>
    change SettingsHold (setRights a s).st
    unfold setRights
    split
    · exact ⟨{ hsound with }, h.payloads⟩
    · exact h
  case setAutohome.form a =>
    change SettingsHold (setAutohome a s).st
    unfold setAutohome
    split
    · exact ⟨{ hsound with }, h.payloads⟩
    · exact ⟨{ hsound with }, h.payloads⟩
    · exact h
  case mqOutcomes.form p a => exact h.requests rfl h.payloads
  all_goals exact h

/-! ## The arrivals and the load -/

theorem arrivalOf_settingsHold (i : Instr) {s : State} (hne : arrivalReach i ≠ allParts)
    (hm : Meets settingsParts (arrivalReach i)) (h : SettingsHold s) : SettingsHold (arrivalOf i s) := by
  cases i <;> (try simp [Meets, settingsParts, arrivalReach, motionParts, composeParts, completionParts,
    conversionParts] at hm)
  case conversionCompletion code =>
    refine conversionCompleted_keeps code (fun t k r ht => ht.of_eq rfl rfl) (fun t k q ht => ?_)
      (fun t => settingsHold_looksAt.of_frame (judgeStartup_frame t) (by simp [Meets, settingsParts]))
      (fun t rest => settingsHold_looksAt.of_frame (endConversion_frame t rest) (by simp [Meets, settingsParts])) h
    exact handOn_keeps k q (fun c v => offerAngle_settingsHold c v) (fun v => evaluateComp_settingsHold v)
      (fun hu => hu.of_eq rfl rfl) (fun c u hu => hu.of_eq rfl rfl) ht
  case settleTimeExpiry x =>
    change SettingsHold (settleExpired x s)
    unfold settleExpired
    dsimp only
    split
    · refine settleQueue_settingsHold ?_
      split
      · unfold zoomSettle
        dsimp only
        split
        · exact h.of_eq rfl rfl
        · exact composeOrHold_settingsHold _ (h.of_eq rfl rfl)
      · exact h.of_eq rfl rfl
    · exact h
  case homeTimeout x =>
    change SettingsHold (Machine.homeTimeout x s)
    unfold Machine.homeTimeout
    dsimp only
    split
    · split
      · exact homeTimedOut_settingsHold x h
      · exact h
    · exact h
  case indexEdge x =>
    change SettingsHold (Machine.indexEdge x s)
    unfold Machine.indexEdge
    dsimp only
    split
    · exact h
    · split
      · exact partFailed_settingsHold x (h.of_eq rfl rfl)
      · exact h.of_eq rfl rfl
  case mdfltActivation =>
    change SettingsHold (mdfltActivated s)
    unfold mdfltActivated
    dsimp only
    split
    · exact h
    · split
      · exact h.of_eq rfl rfl
      · exact driverFault_settingsHold (h.of_eq rfl rfl)
  case stepIssued x d =>
    change SettingsHold (Machine.stepIssued x d s)
    unfold Machine.stepIssued
    dsimp only
    split
    · exact h.of_eq rfl rfl
    · exact h.of_eq rfl rfl
    · split
      · split
        · exact homeTimedOut_settingsHold x h
        · exact h.of_eq rfl rfl
      · exact h
    · exact h
  all_goals exact absurd rfl hne

theorem firstComposition_settingsHold {s : State} (h : SettingsHold s) : SettingsHold (firstComposition s) := by
  have hc := compose_settingsHold .both h.fits h
  unfold firstComposition
  dsimp only
  split
  · exact hc
  · exact settingsHold_looksAt.of_frame (rebuild_frame false _).frame (by simp [Meets, settingsParts])
      (hc.of_eq rfl rfl)

theorem startRequests_settingsHold {s : State} (h : SettingsHold s) : SettingsHold (startRequests s) := by
  have hhome : SettingsHold (joinQueue (startRequest .home 0) s) := h.requests rfl (h.payloads.append rfl)
  unfold startRequests
  split
  · refine dispatchPass_settingsHold _ ?_
    split
    · exact hhome
    · exact hhome.requests rfl (hhome.payloads.append rfl)
  · exact h

theorem startUp_settingsHold {s : State} (h : SettingsHold s) : SettingsHold (startUp s) := by
  have hkeep {l : List Part} {u v : State} (hu : SettingsHold u) (hf : Frame l u v) (hl : ¬ Meets settingsParts l) :
      SettingsHold v := settingsHold_looksAt.of_frame hf hl hu
  have htaken : SettingsHold (takeSettings s) := ⟨takeSettings_sound s, h.payloads⟩
  have hloaded := hkeep htaken (loaded_frame s) (by simp [Meets, settingsParts])
  have hfans := hkeep hloaded (startFans_frame _) (by simp [Meets, settingsParts])
  have hprot := hkeep hfans (startProtection_frame _) (by simp [Meets, settingsParts])
  have hmdflt : ∀ u, SettingsHold u → SettingsHold (examineMdflt u) := fun u hu => by
    unfold examineMdflt
    split
    · exact driverFault_settingsHold hu
    · exact hu
  have hfaults := hkeep (hmdflt _ (firstComposition_settingsHold hprot)) (examineFaults_frame _)
    (by simp [Meets, settingsParts])
  rw [startUp_eq]
  exact startRequests_settingsHold hfaults

/-- Settles O48: each setting is written by its own command after its check, or by a sound load (11 R182, R183). -/
theorem settingsStaySound : Obligations.SettingsStaySound := by
  intro s t h hst
  have hkept := Kept.of_looksAt settingsHold_looksAt (by simp [settingsParts]) Kept.trivial
    (fun i u hm _ hu _ => answerOf_settingsHold i hm hu)
    (fun c u => ⟨(sound_iff _).1 defaultSettings_sound, fun r hr => absurd hr List.not_mem_nil⟩)
    (fun u _ hu _ => startUp_settingsHold hu) (fun i u hne hm hu _ => arrivalOf_settingsHold i hne hm hu)
  exact (settingsSound_iff t).2 (hkept.step ⟨(settingsSound_iff s).1 h, .intro⟩ hst).1

end Sys2Proof.Machine
end

section
/-! The queue of arrivals (log 1) and the commands of the Sampling Unit (01 R2, R3, R5, R16, R17). -/

namespace Sys2Proof.Machine

/-- A command that reaches its unit, from the unit's answer. -/
theorem command_eq {α : Type} {p : Port} {id : Byte} {need : Need} {a : α} {unit : α → State → Answer} {s t : State}
    {k : Status} {d : List Byte} (h : canUse p need s) (hu : unit a (taken p s) = { st := t, status := k, data := d }) :
    command p id need (.form a) unit s = .next (replied p id k d s t) := by
  rw [command_served p id need a unit s h, hu]

/-! ## The queue of arrivals -/

/-- Settles O1, by the definition of a step. -/
theorem stepTakesFront : Obligations.StepTakesFront := fun _ _ => rfl

/-- An idle step begins the head of the transmit queue. -/
theorem step_idle {s : State} (h : s.pending = []) : step s = .next (beginFrame s) := by
  unfold step
  rw [h]

/-- The transmit queue alone changes when its head begins. -/
theorem beginHead_tx (u : PortUnit) : u.beginHead = { u with tx := u.beginHead.tx } := by
  rcases beginHead_cases u with e | ⟨_, _, _, _, e, _⟩ <;> rw [e]

/-- Settles O2, by the cases of the queue's head. -/
theorem idleStep : Obligations.IdleStep := by
  intro s h
  refine ⟨s.port.beginHead.tx, ?_, fun pay rest e => ?_, fun rest e => ?_, fun pay rest e => ?_, fun pay rest e => ?_,
    fun e => ?_⟩
  · rw [step_idle h, beginFrame, ← beginHead_tx]
  all_goals simp [PortUnit.beginHead, e]

/-! ## The commands of the Sampling Unit -/

theorem channelIds_val (l : List (Fin 10)) : channelIds (l.map Fin.val) = some l := by
  induction l with
  | nil => rfl
  | cons k l ih => simp [channelIds, ih, k.isLt]

theorem smpSetRound_of_ok (l : List (Fin 10)) (s : State) (h1 : 1 ≤ l.length) (h2 : l.length ≤ 16) :
    smpSetRound (l.map Fin.val) s = accept { s with set := { s.set with round := l } } := by
  simp [smpSetRound, channelIds_val, roundOk, h1, h2]

theorem smpSetTrigger_of_ok {a : TriggerArgs} {g : TriggerSettings} (s : State) (hg : triggerSettingsOf a = some g)
    (hok : g.ok = true) : smpSetTrigger a s = accept (applyTrigger g s) := by
  simp [smpSetTrigger, hg, hok]

theorem triggerOk {m : TrigMode} {n d t : Nat} (h1 : 1 ≤ n) (h2 : n ≤ 16) (h3 : d ≤ 10000) (h4 : 5 ≤ t) (h5 : t ≤ 1000) :
    (⟨m, n, d, t⟩ : TriggerSettings).ok = true := decide_eq_true ⟨h1, h2, h3, h4, h5⟩

theorem rowOf_toList {α : Type} {n : Nat} (v : Vector α n) : rowOf n v.toList = some v := by
  unfold rowOf
  rw [dif_pos v.length_toList]
  rfl

theorem setAt_of_lt {α : Type} {n : Nat} (v : Vector α n) (i : Fin n) (a : α) : setAt v i.val a = v.set i a := by
  unfold setAt
  rw [dif_pos i.isLt]

theorem smpSetTable_of_ok (k : Fin 4) (t : Vector Int 17) (s : State) (ht : ∀ v ∈ t.toList, -400 ≤ v ∧ v ≤ 1500) :
    smpSetTable ⟨k.val, t.toList⟩ s = accept { s with set := { s.set with tables := s.set.tables.set k t } } := by
  have hok : tableOk t = true := List.all_eq_true.2 fun v hv => decide_eq_true (ht v hv)
  simp [smpSetTable, rowOf_toList, hok, setAt_of_lt, k.isLt]

theorem smpSetChannel_temp (c : Fin 7) (k : Fin 4) (s : State) :
    smpSetChannel (.temp c.val k.val) s = accept { s with set := { s.set with tempTable := s.set.tempTable.set c k } } := by
  simp [smpSetChannel, c.isLt, k.isLt, setAt_of_lt]

/-- The kind of an ANGLE channel's number. -/
theorem kindOf_channel (c : AngleCh) : kindOf c.channel = .angle c := by cases c <;> rfl

theorem smpSetChannel_angle (c : AngleCh) (z k : Nat) (s : State) (hz : z ≤ 4095) (h1 : 1 ≤ k) (h2 : k ≤ 1023) :
    smpSetChannel (.angle c.channel.val z k) s =
      accept { s with set := { s.set with angle := s.set.angle.set c ⟨z, k⟩ } } := by
  have hok : (⟨z, k⟩ : AngleSettings).ok = true := by
    simp only [AngleSettings.ok, within, Bool.and_eq_true, decide_eq_true_eq]
    omega
  have hlt : c.channel.val < 10 := c.channel.isLt
  simp [smpSetChannel, hlt, kindOf_channel, hok]

theorem smpClearPeak_of_lt (m : Nat) (s : State) (h : m < 128) : smpClearPeak m s = accept (clearPeaks m s) := if_pos h

theorem smpReadChannel_eq (k : Fin 10) (s : State) : smpReadChannel k.val s = reply s (recordData (s.smp.records.get k)) := by
  simp [smpReadChannel, Vector.get_eq_getElem]

/-- Settles O3: each command with its values in range is accepted by its unit. -/
theorem samplingCommands : Obligations.SamplingCommands := by
  refine ⟨fun p s h => ⟨fun l h1 h2 => command_eq h (smpSetRound_of_ok l _ h1 h2),
    fun n d t h1 h2 h3 h4 h5 => ⟨command_eq h (smpSetTrigger_of_ok _ rfl (triggerOk h1 h2 h3 h4 h5)),
      fun hv => ?_, fun hv => ?_⟩,
    fun k t ht => command_eq h (smpSetTable_of_ok k t _ ht),
    fun c k => command_eq h (smpSetChannel_temp c k _),
    fun c z k hz h1 h2 => command_eq h (smpSetChannel_angle c z k _ hz h1 h2)⟩,
    fun p s h => ⟨fun hc m hm => ⟨_, command_eq hc (smpClearPeak_of_lt m _ hm), fun k => ?_⟩, fun k => ?_, ?_⟩⟩
  · refine command_eq h ((smpSetTrigger_of_ok _ rfl (triggerOk h1 h2 h3 h4 h5)).trans ?_)
    simp [accept, applyTrigger, trigStateOf, hv]
  · refine command_eq h ((smpSetTrigger_of_ok _ rfl (triggerOk h1 h2 h3 h4 h5)).trans ?_)
    simp [accept, applyTrigger, trigStateOf, hv]
  · simp [Vector.get_eq_getElem, clearPeaks]
  · refine command_eq h ((smpReadChannel_eq k _).trans ?_)
    rw [taken_smp]
    rfl
  · refine command_eq h (?_ : smpStatus () (taken p s) = _)
    simp only [smpStatus, smpStatusData, reply, taken_smp, taken_set]

/-! ## Rounds and frames (01 R4 to R8) -/

theorem roundTrigger_of_idle {s : State} (h : s.smp.round = []) :
    roundTrigger s = { s with smp := { s.smp with round := s.set.round } } := by
  simp [roundTrigger, h]

theorem roundTrigger_of_busy {s : State} (h : s.smp.round ≠ []) :
    roundTrigger s = { s with smp := { s.smp with overrun := true } } := by
  unfold roundTrigger
  split
  · contradiction
  · rfl

/-- With no bank READY a frame start runs the video watch and gives its count to the Sampling Unit (05 R79). -/
theorem frameStart_of_no_ready {s : State} (hd : s.deaf = false) (hr : s.pres.banks.find .ready = none) :
    frameStart s = { frameToSampling s with pres := { s.pres with video := true } } := by
  have hp : (frameToSampling s).pres = s.pres := (frameToSampling_frame s).same (p := .pres) (by simp)
  unfold frameStart frameToPresentation trySwap
  simp [hd, hp, hr]

section
variable {s : State}

theorem frameToSampling_free (h : s.smp.trigState = .freeRun) :
    frameToSampling s = { s with smp := { s.smp with video := true } } := by
  simp [frameToSampling, h]

theorem frameToSampling_locked (h : s.smp.trigState = .syncLocked) :
    frameToSampling s = countFrameStart { s with smp := { s.smp with video := true } } := by
  simp [frameToSampling, h]

theorem frameToSampling_fallback (h : s.smp.trigState = .syncFallback) :
    frameToSampling s = countFrameStart { s with smp := { s.smp with
      video := true, trigState := .syncLocked, periodRunning := false, divCount := 0 } } := by
  simp [frameToSampling, h, lockSync]

theorem countFrameStart_short (h : s.smp.divCount + 1 < s.set.trigger.divider) :
    countFrameStart s = { s with smp := { s.smp with divCount := s.smp.divCount + 1 } } :=
  if_neg (by omega)

theorem countFrameStart_full (h : s.smp.divCount + 1 = s.set.trigger.divider) :
    countFrameStart s = qualified { s with smp := { s.smp with divCount := 0 } } :=
  if_pos (by omega)

theorem qualified_delaying (h : s.smp.delayRunning = true) :
    qualified s = { s with smp := { s.smp with overrun := true } } := if_pos h

theorem qualified_delay (h : s.smp.delayRunning = false) (hd : 0 < s.set.trigger.delay) :
    qualified s = { s with smp := { s.smp with delayRunning := true } } := by
  have hd : ¬ s.set.trigger.delay = 0 := by omega
  simp [qualified, h, hd]

theorem qualified_now (h : s.smp.delayRunning = false) (hd : s.set.trigger.delay = 0) : qualified s = roundTrigger s := by
  simp [qualified, h, hd]

end

/-- A frame start with no bank READY, from what the Sampling Unit makes of it. -/
theorem exec_frameStart {s : State} {m : Sampling} (hd : s.deaf = false) (hr : s.pres.banks.find .ready = none)
    (hm : frameToSampling s = { s with smp := m }) :
    exec .frameStart s = .next { s with smp := m, pres := { s.pres with video := true } } := by
  change Host.Outcome.next (frameStart s) = _
  rw [frameStart_of_no_ready hd hr, hm]

/-- The timers and the loss of video. -/
theorem timers_start_rounds (s : State) :
    (s.smp.delayRunning = true → s.smp.round = [] →
       exec .delayTimerExpiry s = .next { s with smp := { s.smp with delayRunning := false, round := s.set.round } })
     ∧ (s.smp.delayRunning = true → s.smp.round ≠ [] →
       exec .delayTimerExpiry s = .next { s with smp := { s.smp with delayRunning := false, overrun := true } })
     ∧ (s.deaf = false → s.smp.periodRunning = true → s.smp.round = [] →
       exec .periodTimerExpiry s = .next { s with smp := { s.smp with round := s.set.round } })
     ∧ (s.deaf = false → s.smp.periodRunning = true → s.smp.round ≠ [] →
       exec .periodTimerExpiry s = .next { s with smp := { s.smp with overrun := true } })
     ∧ (s.smp.video = true → s.smp.trigState = .syncLocked →
       exec .smpVideoWatchExpiry s =
         .next { s with smp := { s.smp with
           video := false, trigState := .syncFallback, delayRunning := false, divCount := 0, periodRunning := true } })
     ∧ (s.smp.video = true → s.smp.trigState ≠ .syncLocked →
       exec .smpVideoWatchExpiry s = .next { s with smp := { s.smp with video := false } }) := by
  have hdelay : s.smp.delayRunning = true →
      exec .delayTimerExpiry s = .next (roundTrigger { s with smp := { s.smp with delayRunning := false } }) := fun h =>
    congrArg Host.Outcome.next (if_pos h)
  have hperiod : s.deaf = false → s.smp.periodRunning = true →
      exec .periodTimerExpiry s = .next (roundTrigger s) := fun hd h =>
    congrArg Host.Outcome.next (by simp [periodExpired, hd, h])
  refine ⟨fun h hr => ?_, fun h hr => ?_, fun hd h hr => ?_, fun hd h hr => ?_, fun hv h => ?_, fun hv h => ?_⟩
  · rw [hdelay h, roundTrigger_of_idle (by exact hr)]
  · rw [hdelay h, roundTrigger_of_busy (by exact hr)]
  · rw [hperiod hd h, roundTrigger_of_idle hr]
  · rw [hperiod hd h, roundTrigger_of_busy hr]
  · exact congrArg Host.Outcome.next (by simp [smpVideoExpired, hv, h])
  · refine congrArg Host.Outcome.next ?_
    cases ht : s.smp.trigState <;> simp_all [smpVideoExpired]

/-- Settles O4, by what each trigger state makes of a frame start. -/
theorem roundsAndFrames : Obligations.RoundsAndFrames := by
  refine ⟨timers_start_rounds, fun s hd hr => ?_⟩
  refine ⟨fun h => exec_frameStart hd hr (frameToSampling_free h), fun h hn => exec_frameStart hd hr ?_,
    fun h hn hdel => exec_frameStart hd hr ?_, fun h hn hdel hpos => exec_frameStart hd hr ?_,
    fun h hn hdel hz hround => exec_frameStart hd hr ?_, fun h hn hdel hz hround => exec_frameStart hd hr ?_,
    fun h hn hdel hz hround => exec_frameStart hd hr ?_, fun h => ⟨fun hn => exec_frameStart hd hr ?_,
      fun hn hdel => exec_frameStart hd hr ?_, fun hn hdel hpos => exec_frameStart hd hr ?_,
      fun hn hdel hz hround => exec_frameStart hd hr ?_⟩⟩
  · rw [frameToSampling_locked h, countFrameStart_short (by exact hn)]
  · rw [frameToSampling_locked h, countFrameStart_full (by exact hn), qualified_delaying (by exact hdel)]
  · rw [frameToSampling_locked h, countFrameStart_full (by exact hn), qualified_delay (by exact hdel) (by exact hpos)]
  · rw [frameToSampling_locked h, countFrameStart_full (by exact hn), qualified_now (by exact hdel) (by exact hz),
      roundTrigger_of_idle (by exact hround)]
  · rw [frameToSampling_locked h, countFrameStart_full (by exact hn), qualified_now (by exact hdel) (by exact hz),
      roundTrigger_of_busy (by exact hround)]
  · rw [frameToSampling_fallback h, countFrameStart_full (by simp [hn]), qualified_now (by exact hdel) (by exact hz),
      roundTrigger_of_idle (by exact hround)]
  · rw [frameToSampling_fallback h, countFrameStart_short (by simpa using hn)]
  · rw [frameToSampling_fallback h, countFrameStart_full (by simp [hn]), qualified_delaying (by exact hdel)]
  · rw [frameToSampling_fallback h, countFrameStart_full (by simp [hn]), qualified_delay (by exact hdel) (by exact hpos)]
  · rw [frameToSampling_fallback h, countFrameStart_full (by simp [hn]), qualified_now (by exact hdel) (by exact hz),
      roundTrigger_of_busy (by exact hround)]

end Sys2Proof.Machine
end

section
/-! Conversions (01 R8 to R15): what a sample does to its record, and what becomes of the rest of the state. -/

namespace Sys2Proof.Machine

/-! ## Arithmetic of the records -/

theorem roundDiv_bounds (n : Int) {d : Int} (hd : 0 < d) :
    2 * d * roundDiv n d ≤ 2 * n + d ∧ 2 * n + d < 2 * d * (roundDiv n d + 1) := by
  have hpos : 0 < 2 * d := by omega
  exact ⟨Int.mul_ediv_self_le hpos.ne', Int.lt_mul_ediv_self_add hpos |>.trans_eq (by rw [roundDiv, Int.mul_add, Int.mul_one])⟩

@[simp] theorem meanOf_nil : meanOf [] = none := rfl

theorem meanOf_of_ne_nil {l : List Int} (h : l ≠ []) : meanOf l = some (roundDiv l.sum l.length) :=
  if_neg (by simpa using h)

theorem meanOf_singleton (x : Int) : meanOf [x] = some x := by
  rw [meanOf_of_ne_nil (by simp)]
  simpa using roundDiv_mul_self x 1 (by decide)

theorem pushWindow_of_lt {α : Type} {n : Nat} {l : List α} (x : α) (h : l.length < n) : pushWindow n l x = l ++ [x] := by
  rw [pushWindow, if_neg (by omega)]

theorem pushWindow_of_full {α : Type} {n : Nat} {l : List α} (x : α) (h : l.length = n) :
    pushWindow n l x = l.tail ++ [x] := by
  have hone : l.length + 1 - n = 1 := by omega
  rw [pushWindow, if_pos (by omega), hone, List.drop_one]

theorem pushWindow_ne_nil {α : Type} (n : Nat) (l : List α) (x : α) : pushWindow n l x ≠ [] := by simp [pushWindow]

theorem tableTemp_segment (t : Vector Int 17) (k : Fin 16) {c : Nat} (h1 : 256 * k.val ≤ c) (h2 : c < 256 * (k.val + 1)) :
    tableTemp t c = t.get k.castSucc
      + roundDiv ((t.get k.succ - t.get k.castSucc) * ((c : Int) - 256 * (k.val : Int))) 256 := by
  have hk : c / 256 = k.val := by omega
  have hlo : (t[k.val]?).getD 0 = t.get k.castSucc := by
    rw [Vector.getElem?_eq_getElem (by omega)]
    rfl
  have hhi : (t[k.val + 1]?).getD 0 = t.get k.succ := by
    rw [Vector.getElem?_eq_getElem (by omega)]
    rfl
  simp only [tableTemp, hk, hlo, hhi]

/-! ## A sample in a record (01 R9 to R11) -/

section
variable {accept : ChannelRec → ChannelRec} {c : Nat} {r : ChannelRec}

theorem takeSample_valid (h1 : 32 ≤ c) (h2 : c ≤ 4063) :
    takeSample accept c r = takeValid accept { r with lastCode := c } := if_pos (decide_eq_true ⟨h1, h2⟩)

theorem takeSample_invalid (h : c < 32 ∨ 4063 < c) : takeSample accept c r = takeInvalid { r with lastCode := c } :=
  if_neg (by simp only [validCode, decide_eq_true_eq]; omega)

theorem takeValid_sound (h : r.validity ≠ .fault) :
    takeValid accept r = (accept { r with
      validRun := min 255 (r.validRun + 1), invalidRun := 0, validity := .valid }, .accepted) := by
  unfold takeValid
  cases hv : r.validity with
  | fault => exact absurd hv h
  | new => simp [hv]
  | valid => simp [hv]

theorem takeValid_recovers (h : r.validity = .fault) (hrun : r.validRun = 3) :
    takeValid accept r = (accept { r with validRun := 4, invalidRun := 0, validity := .valid, history := [] },
      .accepted) := by
  simp [takeValid, h, hrun]

theorem takeValid_awaits (h : r.validity = .fault) (hrun : r.validRun < 3) :
    takeValid accept r = ({ r with validRun := r.validRun + 1, invalidRun := 0 }, .discarded) := by
  have hmin : min 255 (r.validRun + 1) = r.validRun + 1 := by omega
  have hne : r.validRun + 1 ≠ 4 := by omega
  simp only [takeValid, h, hmin, if_neg hne]

theorem takeInvalid_fails (h : r.validity ≠ .fault) (hrun : r.invalidRun = 2) :
    takeInvalid r = ({ r with invalidRun := 3, validRun := 0, validity := .fault }, .enteredFault) := by
  unfold takeInvalid
  cases hv : r.validity with
  | fault => exact absurd hv h
  | new => simp [hv, hrun]
  | valid => simp [hv, hrun]

theorem takeInvalid_counts (h : r.validity = .fault ∨ r.invalidRun < 2) :
    takeInvalid r = ({ r with invalidRun := min 255 (r.invalidRun + 1), validRun := 0 }, .discarded) := by
  unfold takeInvalid
  cases hv : r.validity with
  | fault => simp
  | new =>
    have hne : min 255 (r.invalidRun + 1) ≠ 3 := by simp [hv] at h; omega
    simp only [if_neg hne]
  | valid =>
    have hne : min 255 (r.invalidRun + 1) ≠ 3 := by simp [hv] at h; omega
    simp only [if_neg hne]

end

/-! ## A completion (01 R8) -/

/-- The Sampling Unit after a conversion: the record, the rest of the round, and the count when it was the last. -/
def converted (s : State) (k : Fin 10) (rest : List (Fin 10)) (r : ChannelRec) : Sampling :=
  { s.smp with
    round := rest, roundCount := if rest = [] then (s.smp.roundCount + 1) % 65536 else s.smp.roundCount,
    records := s.smp.records.set k r }

theorem endConversion_eq (rest : List (Fin 10)) (s : State) :
    endConversion rest s = { s with smp := { s.smp with
      round := rest, roundCount := if rest = [] then (s.smp.roundCount + 1) % 65536 else s.smp.roundCount } } := by
  cases rest <;> rfl

/-- A completion in a round, from the judgement of its sample. -/
theorem exec_conversion {s : State} {k : Fin 10} {rest : List (Fin 10)} {code : Nat} {q : ChannelRec × Judgement}
    (hround : s.smp.round = k :: rest) (hcode : code ≤ 4095)
    (hq : takeSample (acceptCode s k code) code (s.smp.records.get k) = q) :
    exec (.conversionCompletion code) s =
      .next (endConversion rest
        (handValidity k (s.smp.records.get k).validity q.1.validity (handOn (putRecord s k q.1) k q))) := by
  have hmod : code % 4096 = code := Nat.mod_eq_of_lt (by omega)
  change Host.Outcome.next (conversionCompleted code s) = _
  simp only [conversionCompleted, hround, hmod, deliverCode_eq, hq]

/-! ## TEMP channels -/

theorem kindOf_temp {k : Fin 10} (hk : k.val < 7) : kindOf k = .temp (Fin.ofNat 7 k.val) := by
  simp [kindOf, hk, Fin.ofNat, Nat.mod_eq_of_lt hk]

/-- The Protection Unit after the start-up test that a change of a TEMP channel's validity asks for (09 R163). -/
def startupJudged (s : State) (k : Fin 10) (r : ChannelRec) : Protection :=
  if s.prot.startup = false ∧ (s.smp.records.get k).validity ≠ r.validity
      ∧ ∀ c : Fin 7, ((s.smp.records.set k r).get (Fin.castLE (by decide) c)).validity ≠ .new then
    { s.prot with startup := true, lsen := s.prot.lightRequest && s.prot.trip.isNone }
  else s.prot

theorem tempChannels_all (p : Fin 7 → Bool) : tempChannels.all p = true ↔ ∀ c, p c = true := by
  simp only [tempChannels, List.all_eq_true]
  exact ⟨fun h c => h c (by fin_cases c <;> simp), fun h c _ => h c⟩

theorem handValidity_temp {s t : State} {k : Fin 10} (hk : k.val < 7) {r : ChannelRec} (hp : t.prot = s.prot)
    (hrecords : t.smp.records = s.smp.records.set k r) :
    handValidity k (s.smp.records.get k).validity r.validity t = { t with prot := startupJudged s k r } := by
  have hself : ({ t with prot := s.prot } : State) = t := by rw [← hp]
  have hall : (tempChannels.all fun c => decide ((tempRec t c).validity ≠ .new)) = true ↔
      ∀ c : Fin 7, ((s.smp.records.set k r).get (Fin.castLE (by decide) c)).validity ≠ .new := by
    simp only [tempChannels_all, tempRec, hrecords, decide_eq_true_eq]
  simp only [handValidity, kindOf_temp hk, startupJudged]
  split
  · rename_i heq
    rw [if_neg (fun h => h.2.1 heq), hself]
  · rename_i hne
    unfold judgeStartup
    split
    · rename_i hst
      rw [if_neg (fun h => by simp [← hp, hst] at h), hself]
    · rename_i hst
      split
      · rename_i hnone
        rw [if_pos ⟨by simpa [hp] using hst, hne, hall.1 hnone⟩]
        simp [judgeLsen, Protection.judgeLsen, hp]
      · rename_i hsome
        rw [if_neg (fun h => hsome (hall.2 h.2.2)), hself]

/-- A completion of a TEMP channel, from what its sample is handed on to. -/
theorem exec_conversion_temp {s t : State} {k : Fin 10} {rest : List (Fin 10)} {code : Nat} {q : ChannelRec × Judgement}
    (hround : s.smp.round = k :: rest) (hcode : code ≤ 4095) (hk : k.val < 7)
    (hq : takeSample (acceptCode s k code) code (s.smp.records.get k) = q) (ht : handOn (putRecord s k q.1) k q = t)
    (hp : t.prot = s.prot) (hsmp : t.smp = (putRecord s k q.1).smp) :
    exec (.conversionCompletion code) s =
      .next { t with smp := converted s k rest q.1, prot := startupJudged s k q.1 } := by
  rw [exec_conversion hround hcode hq, ht, handValidity_temp hk hp (by rw [hsmp]; rfl), endConversion_eq]
  simp only [hsmp]
  rfl

theorem startupJudged_same {s : State} {k : Fin 10} {r : ChannelRec} (h : r.validity = (s.smp.records.get k).validity) :
    startupJudged s k r = s.prot := if_neg fun hc => hc.2.1 h.symm

/-- What an accepted sample of a TEMP channel is handed on to: T_LB to Focus Compensation. -/
theorem handAccepted_temp {k : Fin 10} (hk : k.val < 7) (v : Int) (s : State) :
    handAccepted k (some v) s = if k.val = 6 then evaluateComp v s else s := by
  have hsix : Fin.ofNat 7 k.val = 6 ↔ k.val = 6 := by
    simp [Fin.ext_iff, Fin.ofNat, Nat.mod_eq_of_lt hk]
  simp only [handAccepted, kindOf_temp hk, hsix]

theorem acceptTemp_eq (t : Int) (r : ChannelRec) :
    acceptTemp t r = { r with
      history := pushWindow 4 r.history t, filtered := meanOf (pushWindow 4 r.history t),
      peak := max r.peak ((meanOf (pushWindow 4 r.history t)).getD 0) } := by
  simp [acceptTemp, meanOf_of_ne_nil (pushWindow_ne_nil 4 r.history t)]

/-- A completion of a TEMP channel with a sample that its record accepts. -/
theorem exec_conversion_temp_accepted {s : State} {k : Fin 10} {rest : List (Fin 10)} {code : Nat} {r : ChannelRec} {v : Int}
    (hround : s.smp.round = k :: rest) (hcode : code ≤ 4095) (hk : k.val < 7)
    (hq : takeSample (acceptCode s k code) code (s.smp.records.get k) = (r, .accepted)) (hv : r.filtered = some v) :
    exec (.conversionCompletion code) s =
      .next { (if k.val = 6 then evaluateComp v (putRecord s k r) else putRecord s k r) with
        smp := converted s k rest r, prot := startupJudged s k r } := by
  have ht : handOn (putRecord s k r) k (r, .accepted) =
      if k.val = 6 then evaluateComp v (putRecord s k r) else putRecord s k r := by
    rw [← handAccepted_temp hk, ← hv]
    rfl
  have hframe : Frame motionParts (putRecord s k r)
      (if k.val = 6 then evaluateComp v (putRecord s k r) else putRecord s k r) := by
    split
    · exact (evaluateComp_frame _ _).frame
    · exact Frame.refl _ _
  exact exec_conversion_temp hround hcode hk hq ht (hframe.same (p := .prot) (by simp [motionParts, composeParts]))
    (hframe.same (p := .smp) (by simp [motionParts, composeParts]))

/-- A completion of a TEMP channel with a sample that its record only counts. -/
theorem exec_conversion_temp_discarded {s : State} {k : Fin 10} {rest : List (Fin 10)} {code : Nat} {r : ChannelRec}
    (hround : s.smp.round = k :: rest) (hcode : code ≤ 4095) (hk : k.val < 7)
    (hq : takeSample (acceptCode s k code) code (s.smp.records.get k) = (r, .discarded))
    (hv : r.validity = (s.smp.records.get k).validity) :
    exec (.conversionCompletion code) s = .next { s with smp := converted s k rest r } := by
  rw [exec_conversion_temp hround hcode hk hq rfl rfl rfl, startupJudged_same hv]
  rfl

/-- A completion of a TEMP channel whose record enters FAULT. -/
theorem exec_conversion_temp_fault {s : State} {k : Fin 10} {rest : List (Fin 10)} {code : Nat} {r : ChannelRec}
    (hround : s.smp.round = k :: rest) (hcode : code ≤ 4095) (hk : k.val < 7)
    (hq : takeSample (acceptCode s k code) code (s.smp.records.get k) = (r, .enteredFault)) :
    exec (.conversionCompletion code) s = .next { s with
      smp := converted s k rest r, prot := startupJudged s k r, port := s.port.raise .both .sensorFault } := by
  have ht : handOn (putRecord s k r) k (r, .enteredFault) = raise .both .sensorFault (putRecord s k r) := by
    simp [handOn, handFault, kindOf_temp hk]
  rw [exec_conversion_temp hround hcode hk hq ht rfl rfl]
  rfl

/-- The conversions of a TEMP channel, by the state of its record and the code. -/
theorem temp_conversions {s : State} {k : Fin 10} {rest : List (Fin 10)} {code : Nat}
    (hround : s.smp.round = k :: rest) (hk : k.val < 7) (hcode : code ≤ 4095) {temp : Int}
    (htemp : temp = tableTemp (s.set.tables.get (s.set.tempTable.get (Fin.ofNat 7 k.val))) code) :
    let old := s.smp.records.get k
    let mean := meanOf (pushWindow 4 old.history temp)
    let handed (r : ChannelRec) (t : Int) : State :=
      if k.val = 6 then evaluateComp t (putRecord s k r) else putRecord s k r
    (32 ≤ code → code ≤ 4063 → old.validity ≠ .fault →
      let r : ChannelRec := ⟨code, .valid, 0, min 255 (old.validRun + 1), pushWindow 4 old.history temp, mean,
        max old.peak (mean.getD 0)⟩
      exec (.conversionCompletion code) s =
        .next { handed r (mean.getD 0) with smp := converted s k rest r, prot := startupJudged s k r })
    ∧ (32 ≤ code → code ≤ 4063 → old.validity = .fault → old.validRun = 3 →
      let r : ChannelRec := ⟨code, .valid, 0, 4, [temp], some temp, max old.peak temp⟩
      exec (.conversionCompletion code) s =
        .next { handed r temp with smp := converted s k rest r, prot := startupJudged s k r })
    ∧ (32 ≤ code → code ≤ 4063 → old.validity = .fault → old.validRun < 3 →
      exec (.conversionCompletion code) s = .next { s with
        smp := converted s k rest { old with lastCode := code, invalidRun := 0, validRun := old.validRun + 1 } })
    ∧ ((code < 32 ∨ 4063 < code) → old.validity ≠ .fault → old.invalidRun = 2 →
      let r : ChannelRec := { old with lastCode := code, validity := .fault, invalidRun := 3, validRun := 0 }
      exec (.conversionCompletion code) s = .next { s with
        smp := converted s k rest r, prot := startupJudged s k r, port := s.port.raise .both .sensorFault })
    ∧ ((code < 32 ∨ 4063 < code) → (old.validity = .fault ∨ old.invalidRun < 2) →
      exec (.conversionCompletion code) s = .next { s with
        smp := converted s k rest
          { old with lastCode := code, invalidRun := min 255 (old.invalidRun + 1), validRun := 0 } }) := by
  have haccept : acceptCode s k code = acceptTemp temp := by
    rw [htemp]
    simp only [acceptCode, kindOf_temp hk]
  refine ⟨fun h1 h2 hv => ?_, fun h1 h2 hv hrun => ?_, fun h1 h2 hv hrun => ?_, fun hc hv hrun => ?_, fun hc hv => ?_⟩
  · refine exec_conversion_temp_accepted hround hcode hk ?_ ?_
    · rw [haccept, takeSample_valid h1 h2, takeValid_sound (by exact hv), acceptTemp_eq]
    · simp [meanOf_of_ne_nil (pushWindow_ne_nil 4 _ _)]
  · refine exec_conversion_temp_accepted hround hcode hk ?_ rfl
    rw [haccept, takeSample_valid h1 h2, takeValid_recovers (by exact hv) (by exact hrun), acceptTemp_eq]
    simp [pushWindow, meanOf_singleton]
  · refine exec_conversion_temp_discarded hround hcode hk ?_ rfl
    rw [takeSample_valid h1 h2, takeValid_awaits (by exact hv) (by exact hrun)]
  · refine exec_conversion_temp_fault hround hcode hk ?_
    rw [takeSample_invalid hc, takeInvalid_fails (by exact hv) (by exact hrun)]
  · refine exec_conversion_temp_discarded hround hcode hk ?_ rfl
    rw [takeSample_invalid hc, takeInvalid_counts (by exact hv)]

/-- Settles O5, by the judgement of a sample and what it is handed on to. -/
theorem tempConversion : Obligations.TempConversion :=
  ⟨fun n _ hd => roundDiv_bounds n hd, fun _ => ⟨rfl, meanOf_of_ne_nil⟩,
    fun _ _ x _ => ⟨pushWindow_of_lt x, pushWindow_of_full x⟩, fun t k _ => tableTemp_segment t k,
    fun _ _ _ _ hround hk hcode => temp_conversions hround hk hcode rfl⟩

/-! ## ANGLE channels -/

/-- A completion of an ANGLE channel, from what its sample is handed on to. -/
theorem exec_conversion_angle {s t : State} {c : AngleCh} {rest : List (Fin 10)} {code : Nat} {q : ChannelRec × Judgement}
    (hround : s.smp.round = c.channel :: rest) (hcode : code ≤ 4095)
    (hq : takeSample (acceptCode s c.channel code) code (s.smp.records.get c.channel) = q)
    (ht : handOn (putRecord s c.channel q.1) c.channel q = t) (hsmp : t.smp = (putRecord s c.channel q.1).smp) :
    exec (.conversionCompletion code) s = .next { t with smp := converted s c.channel rest q.1 } := by
  rw [exec_conversion hround hcode hq, ht, endConversion_eq]
  simp only [handValidity, kindOf_channel, hsmp]
  rfl


/-- A completion of an ANGLE channel with a sample that its record only counts. -/
theorem exec_conversion_angle_discarded {s : State} {c : AngleCh} {rest : List (Fin 10)} {code : Nat} {r : ChannelRec}
    (hround : s.smp.round = c.channel :: rest) (hcode : code ≤ 4095)
    (hq : takeSample (acceptCode s c.channel code) code (s.smp.records.get c.channel) = (r, .discarded)) :
    exec (.conversionCompletion code) s = .next { s with smp := converted s c.channel rest r } :=
  exec_conversion_angle (t := putRecord s c.channel r) hround hcode hq rfl rfl

/-- A completion of an ANGLE channel whose record enters FAULT (02 R21). -/
theorem exec_conversion_angle_fault {s : State} {c : AngleCh} {rest : List (Fin 10)} {code : Nat} {r : ChannelRec}
    (hround : s.smp.round = c.channel :: rest) (hcode : code ≤ 4095)
    (hq : takeSample (acceptCode s c.channel code) code (s.smp.records.get c.channel) = (r, .enteredFault)) :
    exec (.conversionCompletion code) s = .next { s with
      smp := converted s c.channel rest r, port := s.port.raise .both .sensorFault,
      att := { s.att with windows := s.att.windows.set c [], count := if c = .vert then 0 else s.att.count } } := by
  have ht : handOn (putRecord s c.channel r) c.channel (r, .enteredFault) =
      emptyWindow c (raise .both .sensorFault (putRecord s c.channel r)) := by
    simp only [handOn, handFault, kindOf_channel]
  rw [exec_conversion_angle hround hcode hq ht (by cases c <;> rfl)]
  cases c <;> rfl

/-! ## Freezing (02 R20) -/

theorem busy_iff (a : AxisState) : a.busy = true ↔ a = .homing ∨ a = .moving ∨ a = .jog ∨ a = .settling := by
  cases a <;> simp [AxisState.busy]

theorem any_allAxes (p : Axis → Bool) : allAxes.any p = true ↔ ∃ x, p x = true := by
  simp only [List.any_eq_true]
  exact ⟨fun ⟨x, _, h⟩ => ⟨x, h⟩, fun ⟨x, h⟩ => ⟨x, by cases x <;> simp [allAxes], h⟩⟩

theorem any_allFans (p : Fan → Bool) : allFans.any p = true ↔ ∃ f, p f = true := by
  simp only [List.any_eq_true]
  exact ⟨fun ⟨f, _, h⟩ => ⟨f, h⟩, fun ⟨f, h⟩ => ⟨f, by cases f <;> simp [allFans], h⟩⟩

theorem frozenByAxes_iff (s : State) : frozenByAxes s = true ↔
    ∃ x : Axis, (s.axes.get x).state = .homing ∨ (s.axes.get x).state = .moving ∨ (s.axes.get x).state = .jog
      ∨ (s.axes.get x).state = .settling := by
  simp only [frozenByAxes, any_allAxes, busy_iff]

theorem frozenByFans_iff (s : State) : frozenByFans s = true ↔ ∃ f : Fan, (s.fan.fans.get f).state = .spinup := by
  simp only [frozenByFans, any_allFans, beq_iff_eq]

/-! ## Validity of attitude (02 R21) -/

theorem angleReady_iff (s : State) (c : AngleCh) : angleReady s c = true ↔
    (s.att.windows.get c).length = 16 ∧ (s.smp.records.get c.channel).validity ≠ .fault := by
  simp [angleReady, angleFault]

theorem attitudeValid_iff (s : State) : attitudeValid s = true ↔ ∀ c, angleReady s c = true := by
  simp only [attitudeValid, Bool.and_eq_true]
  exact ⟨fun ⟨⟨hp, hr⟩, hv⟩ c => by cases c <;> assumption, fun h => ⟨⟨h .pitch, h .roll⟩, h .vert⟩⟩

theorem AngleCh.channel_inj {c d : AngleCh} (h : c.channel = d.channel) : c = d := by
  cases c <;> cases d <;> simp_all [AngleCh.channel]

/-! ## An accepted angle (02 R19) -/

theorem length_pushWindow_short {α : Type} {n : Nat} {l : List α} (x : α) (h : l.length + 1 < n) :
    (pushWindow n l x).length = l.length + 1 := by
  rw [pushWindow_of_lt x (by omega)]
  simp

theorem length_pushWindow_full {α : Type} {n : Nat} {l : List α} (x : α) (h : n ≤ l.length + 1) (hn : 0 < n) :
    (pushWindow n l x).length = n := by
  unfold pushWindow
  split <;> simp <;> omega

/-- The state in which a channel's window takes an angle, with its record. -/
def offeredAngle (s : State) (c : AngleCh) (v : Int) (r : ChannelRec) : State :=
  { s with
    smp := { s.smp with records := s.smp.records.set c.channel r },
    att := { s.att with windows := s.att.windows.set c (pushWindow 16 (s.att.windows.get c) v) } }

theorem offerAngle_frozen {s : State} (c : AngleCh) (v : Int) (h : frozen s = true) : offerAngle c v s = s := if_pos h

theorem offerAngle_free {s : State} (c : AngleCh) (v : Int) (r : ChannelRec) (h : frozen s = false) :
    offerAngle c v (putRecord s c.channel r) = angleDecision c (offeredAngle s c v r) :=
  if_neg (by change ¬ frozen s = true; simp [h])

section
variable {s : State} {c : AngleCh} {v : Int} {r : ChannelRec}

theorem offeredAngle_window_same :
    (offeredAngle s c v r).att.windows.get c = pushWindow 16 (s.att.windows.get c) v := PerAngle.get_set_same _ _ _

theorem offeredAngle_ready_same (hr : r.validity ≠ .fault) :
    angleReady (offeredAngle s c v r) c = true ↔ 15 ≤ (s.att.windows.get c).length := by
  have hrec : (offeredAngle s c v r).smp.records.get c.channel = r := by
    simp [offeredAngle, Vector.get_eq_getElem]
  rw [angleReady_iff, hrec, offeredAngle_window_same]
  constructor
  · rintro ⟨hlen, -⟩
    by_contra hshort
    rw [length_pushWindow_short v (by omega)] at hlen
    omega
  · exact fun h => ⟨length_pushWindow_full v (by omega) (by decide), hr⟩

theorem offeredAngle_ready_other {d : AngleCh} (h : d ≠ c) : angleReady (offeredAngle s c v r) d = angleReady s d := by
  have hrec : (offeredAngle s c v r).smp.records.get d.channel = s.smp.records.get d.channel := by
    rcases Vector.get_set_cases s.smp.records c.channel d.channel r with ⟨e, -⟩ | ⟨-, e⟩
    · exact absurd (AngleCh.channel_inj e).symm h
    · exact e
  have hwindow : (offeredAngle s c v r).att.windows.get d = s.att.windows.get d :=
    PerAngle.get_set_other _ _ _ _ h.symm
  simp only [angleReady, angleFault, hrec, hwindow]

theorem offeredAngle_filtered :
    filteredAngle (offeredAngle s c v r) c = some ((meanOf (pushWindow 16 (s.att.windows.get c) v)).getD 0) := by
  rw [filteredAngle, offeredAngle_window_same, meanOf_of_ne_nil (pushWindow_ne_nil 16 _ _)]
  rfl

/-- With a window short of 16 values no decision is taken, nor for VERT while the setting is not AUTO. -/
theorem angleDecision_none (hr : r.validity ≠ .fault)
    (h : (s.att.windows.get c).length < 15 ∨ c = .vert ∧ s.set.orientation ≠ .auto) :
    angleDecision c (offeredAngle s c v r) = offeredAngle s c v r := by
  have hready : (s.att.windows.get c).length < 15 → angleReady (offeredAngle s c v r) c = false := fun hs => by
    rw [← Bool.not_eq_true, offeredAngle_ready_same hr]
    omega
  unfold angleDecision
  rw [offeredAngle_filtered]
  cases c with
  | pitch =>
    have hs : (s.att.windows.get .pitch).length < 15 := by simpa using h
    have hv : ¬ attitudeValid (offeredAngle s .pitch v r) = true := fun hv => by
      have hp := (attitudeValid_iff _).1 hv .pitch
      rw [hready hs] at hp
      exact Bool.false_ne_true hp
    exact if_neg hv
  | roll =>
    have hs : (s.att.windows.get .roll).length < 15 := by simpa using h
    exact if_neg (by rw [hready hs]; exact Bool.false_ne_true)
  | vert =>
    rcases h with hs | ⟨-, hset⟩
    · exact if_neg (by rw [hready hs]; exact Bool.false_ne_true)
    · exact if_neg (by simp [offeredAngle, hset])

end

/-- The decision on a filter update acts on the filtered angle (02 R19, R21, R27, R29). -/
theorem angleDecision_ready {s : State} {c : AngleCh} {v f : Int} {r : ChannelRec} (hr : r.validity ≠ .fault)
    (hlen : 15 ≤ (s.att.windows.get c).length) (hf : f = (meanOf (pushWindow 16 (s.att.windows.get c) v)).getD 0) :
    (c = .vert → s.set.orientation = .auto →
      angleDecision c (offeredAngle s c v r) = detectOrientation f (offeredAngle s c v r))
    ∧ (c = .roll → angleDecision c (offeredAngle s c v r) = rollTest f (offeredAngle s c v r))
    ∧ (c = .pitch → attitudeValid (offeredAngle s c v r) = true →
      angleDecision c (offeredAngle s c v r) = followDecision f (offeredAngle s c v r))
    ∧ (c = .pitch → attitudeValid (offeredAngle s c v r) = false →
      angleDecision c (offeredAngle s c v r) = offeredAngle s c v r) := by
  have hready := (offeredAngle_ready_same (v := v) hr).2 hlen
  subst hf
  unfold angleDecision
  rw [offeredAngle_filtered]
  refine ⟨?_, ?_, ?_, ?_⟩
  · rintro rfl hset
    have hauto : decide ((offeredAngle s .vert v r).set.orientation = .auto) = true := decide_eq_true hset
    exact if_pos (by rw [hready, hauto]; rfl)
  · rintro rfl
    exact if_pos hready
  · rintro rfl hv
    exact if_pos hv
  · rintro rfl hv
    exact if_neg (by simp [hv])

/-- All three channels are ready after a pitch was offered to a window that it fills. -/
theorem offeredAngle_valid {s : State} {c : AngleCh} {v : Int} {r : ChannelRec} (hr : r.validity ≠ .fault)
    (hlen : 15 ≤ (s.att.windows.get c).length) :
    attitudeValid (offeredAngle s c v r) = true ↔
      ∀ d, d = c ∨ (s.att.windows.get d).length = 16 ∧ (s.smp.records.get d.channel).validity ≠ .fault := by
  rw [attitudeValid_iff]
  refine forall_congr' fun d => ?_
  by_cases hd : d = c
  · subst hd
    simp [(offeredAngle_ready_same (v := v) hr).2 hlen]
  · rw [offeredAngle_ready_other hd, angleReady_iff]
    simp [hd]

theorem handOn_accepted_angle {s : State} {c : AngleCh} {v : Int} {r : ChannelRec} (hv : r.filtered = some v) :
    handOn (putRecord s c.channel r) c.channel (r, .accepted) = offerAngle c v (putRecord s c.channel r) := by
  simp [handOn, handAccepted, kindOf_channel, hv]

/-- What a completion with an accepted angle comes to, by the freeze, the window and the channel. -/
theorem angle_taken {s : State} {c : AngleCh} {rest : List (Fin 10)} {code : Nat} {r : ChannelRec} {v f : Int}
    (hround : s.smp.round = c.channel :: rest) (hcode : code ≤ 4095)
    (hq : takeSample (acceptCode s c.channel code) code (s.smp.records.get c.channel) = (r, .accepted))
    (hv : r.filtered = some v) (hr : r.validity ≠ .fault)
    (hf : f = (meanOf (pushWindow 16 (s.att.windows.get c) v)).getD 0) :
    let otherReady (d : AngleCh) : Prop :=
      d = c ∨ (s.att.windows.get d).length = 16 ∧ (s.smp.records.get d.channel).validity ≠ .fault
    (frozen s = true → exec (.conversionCompletion code) s = .next { s with smp := converted s c.channel rest r })
    ∧ (frozen s = false → ((s.att.windows.get c).length < 15 ∨ c = .vert ∧ s.set.orientation ≠ .auto) →
      exec (.conversionCompletion code) s =
        .next { offeredAngle s c v r with smp := converted s c.channel rest r })
    ∧ (frozen s = false → 15 ≤ (s.att.windows.get c).length →
      (c = .vert → s.set.orientation = .auto →
        exec (.conversionCompletion code) s =
          .next { detectOrientation f (offeredAngle s c v r) with smp := converted s c.channel rest r })
      ∧ (c = .roll → exec (.conversionCompletion code) s =
          .next { rollTest f (offeredAngle s c v r) with smp := converted s c.channel rest r })
      ∧ (c = .pitch → (∀ d, otherReady d) →
        exec (.conversionCompletion code) s =
          .next { followDecision f (offeredAngle s c v r) with smp := converted s c.channel rest r })
      ∧ (c = .pitch → ¬ (∀ d, otherReady d) →
        exec (.conversionCompletion code) s =
          .next { offeredAngle s c v r with smp := converted s c.channel rest r })) := by
  have hframe := (offerAngle_frame (putRecord s c.channel r) c v).same (p := .smp) (by simp [composeParts])
  have hexec : ∀ t, offerAngle c v (putRecord s c.channel r) = t →
      exec (.conversionCompletion code) s = .next { t with smp := converted s c.channel rest r } := fun t ht =>
    exec_conversion_angle hround hcode hq ((handOn_accepted_angle hv).trans ht) (by rw [← ht]; exact hframe)
  refine ⟨fun h => hexec (putRecord s c.channel r) (offerAngle_frozen c v (by exact h)),
    fun h hnone => hexec _ ((offerAngle_free c v r h).trans (angleDecision_none hr hnone)), fun h hlen => ?_⟩
  obtain ⟨hvert, hroll, hpitch, hwaits⟩ := angleDecision_ready hr hlen hf
  have hvalid := offeredAngle_valid (v := v) hr hlen
  refine ⟨fun hc hset => ?_, fun hc => ?_, fun hc hall => ?_, fun hc hall => ?_⟩
  · exact hexec _ ((offerAngle_free c v r h).trans (hvert hc hset))
  · exact hexec _ ((offerAngle_free c v r h).trans (hroll hc))
  · exact hexec _ ((offerAngle_free c v r h).trans (hpitch hc (hvalid.2 hall)))
  · exact hexec _ ((offerAngle_free c v r h).trans (hwaits hc (Bool.eq_false_iff.2 fun hv => hall (hvalid.1 hv))))

/-- Settles O6, by the judgement of a sample and the decision it is offered to. -/
theorem angleConversion : Obligations.AngleConversion := by
  refine ⟨fun s => by rw [frozen, Bool.or_eq_true, frozenByAxes_iff, frozenByFans_iff],
    fun s c rest code hround hcode => ?_⟩
  have haccept : acceptCode s c.channel code = acceptAngle (codeAngle (s.set.angle.get c) code) := by
    simp only [acceptCode, kindOf_channel]
  refine ⟨fun h1 h2 hv => ?_, fun h1 h2 hv hrun => ?_, fun h1 h2 hv hrun => ?_, fun hc hv hrun => ?_, fun hc hv => ?_⟩
  · refine angle_taken hround hcode ?_ rfl (by simp) rfl
    rw [haccept, takeSample_valid h1 h2, takeValid_sound (by exact hv)]
    rfl
  · refine angle_taken hround hcode ?_ rfl (by simp) rfl
    rw [haccept, takeSample_valid h1 h2, takeValid_recovers (by exact hv) (by exact hrun)]
    rfl
  · exact exec_conversion_angle_discarded hround hcode
      ((takeSample_valid h1 h2).trans (takeValid_awaits (by exact hv) (by exact hrun)))
  · exact exec_conversion_angle_fault hround hcode
      ((takeSample_invalid hc).trans (takeInvalid_fails (by exact hv) (by exact hrun)))
  · exact exec_conversion_angle_discarded hround hcode
      ((takeSample_invalid hc).trans (takeInvalid_counts (by exact hv)))

end Sys2Proof.Machine
end

section
/-! The Attitude Unit (02): the follow decision, orientation detection, the roll test and the unit's commands. -/

namespace Sys2Proof.Machine

/-! ## The report of a clamp and the composition (03 R39, R41) -/

/-- The report of a clamp neither reads nor writes the attitude and the settings. -/
theorem reportCornerClip_put (c : Candidate) (d : Dest) (a : Attitude) (g : Settings) (s : State) :
    reportCornerClip c d { s with att := a, set := g } = { reportCornerClip c d s with att := a, set := g } := by
  unfold reportCornerClip
  cases c.clamp with
  | none => rfl
  | some k =>
    dsimp only
    unfold reportClip
    cases s.geo.clip <;> rfl

theorem reportCornerClip_setPitch (c : Candidate) (d : Dest) (a r : Int) (s : State) :
    reportCornerClip c d (setPitch a r s) =
      { reportCornerClip c d s with att := { s.att with pApp := a }, set := { s.set with pRef := r } } :=
  reportCornerClip_put c d _ _ s

@[simp] theorem reportCornerClip_att (c : Candidate) (d : Dest) (s : State) : (reportCornerClip c d s).att = s.att := by
  obtain ⟨k, u, h⟩ := reportCornerClip_frame c d s
  rw [h]

@[simp] theorem reportCornerClip_set (c : Candidate) (d : Dest) (s : State) : (reportCornerClip c d s).set = s.set := by
  obtain ⟨k, u, h⟩ := reportCornerClip_frame c d s
  rw [h]

/-- An accepted composition leaves no refused pitch, whatever was refused before it. -/
theorem ComposedTo.of_refused {g : GeoRecord} {c : Candidate} {s t : State} (h : ComposedTo g c s t) :
    ComposedTo g c { s with att := { s.att with refused := none } } { t with att := { t.att with refused := none } } := by
  obtain ⟨⟨e, q, rfl⟩, hask⟩ := h
  exact ⟨⟨e, q, rfl⟩, hask.of_eq rfl rfl⟩

/-- The refused pitch is cleared before a composition or after it alike. -/
theorem ComposedOrHeld.of_refused {c : Candidate} {d : Dest} {s t : State} (h : ComposedOrHeld c d s t) :
    ComposedOrHeld c d { s with att := { s.att with refused := none } } { t with att := { t.att with refused := none } } := by
  have hclip : reportCornerClip c d { s with att := { s.att with refused := none } } =
      { reportCornerClip c d s with att := { s.att with refused := none } } := reportCornerClip_put c d _ s.set s |>.trans (by
    rw [← reportCornerClip_set c d s])
  refine ⟨fun hs => ?_, fun hs => ?_⟩
  · rw [hclip, ← reportCornerClip_att c d s]
    exact (h.1 hs).of_refused
  · rw [hclip, h.2 hs]
    simp only [reportCornerClip_att]

/-! ## The decisions (02 R23 to R29) -/

theorem refusalAllows_iff (b f : Int) (o : Option Int) :
    refusalAllows b f o = true ↔ o = none ∨ ∃ r, o = some r ∧ b ≤ mag (f - r) := by
  cases o <;> simp [refusalAllows]

theorem followDecision_near {f : Int} {s : State} (h : mag (f - s.att.pApp) < s.set.att.deadband) :
    followDecision f s = { s with att := { s.att with refused := none } } := if_pos h

theorem followDecision_far {f : Int} {s : State} (h : s.set.att.deadband ≤ mag (f - s.att.pApp)) :
    followDecision f s =
      if s.set.geo.follow && refusalAllows s.set.att.deadband f s.att.refused then follow f s else s :=
  if_neg (by omega)

section
variable {f : Int} {s : State}

theorem follow_accepted
    (h : shapeOk s.set.geo.width s.set.geo.height
      (candidateOf s.set.geo s.geo.band f s.set.pRef s.att.effective).corners = true) :
    ComposedTo s.set.geo (candidateOf s.set.geo s.geo.band f s.set.pRef s.att.effective)
      { reportCornerClip (candidateOf s.set.geo s.geo.band f s.set.pRef s.att.effective) .both s with
        att := { s.att with pApp := f } } (follow f s) := by
  obtain ⟨hok, ht⟩ := compose_to s.set.geo .both (setPitch f s.set.pRef s) h
  rw [reportCornerClip_setPitch] at ht
  unfold follow
  rw [if_pos hok]
  simpa [candidate, setPitch] using ht

theorem follow_refused
    (h : shapeOk s.set.geo.width s.set.geo.height
      (candidateOf s.set.geo s.geo.band f s.set.pRef s.att.effective).corners = false) :
    follow f s =
      let clip := reportCornerClip (candidateOf s.set.geo s.geo.band f s.set.pRef s.att.effective) .both s
      { clip with att := { s.att with refused := some f }, port := clip.port.raise .both .attitudeLimit } := by
  have hc := compose_clip s.set.geo .both (setPitch f s.set.pRef s) h
  rw [reportCornerClip_setPitch] at hc
  unfold follow
  rw [hc]
  simp [raise, setPitch, candidate]

end

/-- The clauses on the follow decision. -/
theorem followDecision_clauses (f : Int) (s : State) :
    let far := s.set.att.deadband ≤ mag (f - s.att.pApp)
    let free := s.att.refused = none ∨ ∃ r, s.att.refused = some r ∧ s.set.att.deadband ≤ mag (f - r)
    let c := candidateOf s.set.geo s.geo.band f s.set.pRef s.att.effective
    let clip := reportCornerClip c .both s
    (¬ far → followDecision f s = { s with att := { s.att with refused := none } })
    ∧ (far → (s.set.geo.follow = false ∨ ¬ free) → followDecision f s = s)
    ∧ (far → s.set.geo.follow = true → free → shapeOk s.set.geo.width s.set.geo.height c.corners = true →
      ComposedTo s.set.geo c { clip with att := { s.att with pApp := f } } (followDecision f s))
    ∧ (far → s.set.geo.follow = true → free → shapeOk s.set.geo.width s.set.geo.height c.corners = false →
      followDecision f s =
        { clip with att := { s.att with refused := some f }, port := clip.port.raise .both .attitudeLimit }) := by
  intro far free c clip
  refine ⟨fun h => followDecision_near (by omega), fun h hno => ?_, fun h hon hfree hok => ?_, fun h hon hfree hbad => ?_⟩
  · rw [followDecision_far h, if_neg]
    rw [Bool.and_eq_true, refusalAllows_iff]
    rintro ⟨hon, hfree⟩
    rcases hno with hno | hno
    · exact Bool.false_ne_true (hno.symm.trans hon)
    · exact hno hfree
  · rw [followDecision_far h, if_pos (by rw [Bool.and_eq_true, refusalAllows_iff]; exact ⟨hon, hfree⟩)]
    exact follow_accepted hok
  · rw [followDecision_far h, if_pos (by rw [Bool.and_eq_true, refusalAllows_iff]; exact ⟨hon, hfree⟩)]
    exact follow_refused hbad

/-- A change of the effective orientation composes, or holds, with no refused pitch (02 R28). -/
theorem changeOrientation_to (o : Orientation) (d : Dest) (s : State) : OrientedTo o d s (changeOrientation o d s) :=
  (composeOrHold_to d (raise d .orientationChanged { s with att := { s.att with effective := o } })).of_refused

section
variable {f : Int} {s : State}

theorem pointsTo_none {g : AttSettings} (h1 : -g.threshold ≤ f - g.vertZero) (h2 : f - g.vertZero ≤ g.threshold) :
    pointsTo g f = none := by
  dsimp only [pointsTo]
  rw [if_neg (by omega), if_neg (by omega)]

theorem pointsTo_floor {g : AttSettings} (h0 : 0 ≤ g.threshold) (h : g.threshold < f - g.vertZero) :
    pointsTo g f = some .floor := by
  dsimp only [pointsTo]
  rw [if_neg (by omega), if_pos h]

theorem pointsTo_ceiling {g : AttSettings} (h : f - g.vertZero < -g.threshold) : pointsTo g f = some .ceiling :=
  if_pos h

theorem detectOrientation_none (h : pointsTo s.set.att f = none) :
    detectOrientation f s = { s with att := { s.att with count := 0 } } := by
  simp [detectOrientation, h]

theorem detectOrientation_same {o : Orientation} (h : pointsTo s.set.att f = some o) (ho : s.att.effective = o) :
    detectOrientation f s = { s with att := { s.att with count := 0 } } := by
  simp [detectOrientation, h, ho]

theorem detectOrientation_counts {o : Orientation} (h : pointsTo s.set.att f = some o) (ho : o ≠ s.att.effective)
    (hn : s.att.count < 7) : detectOrientation f s = { s with att := { s.att with count := s.att.count + 1 } } := by
  have hless : ¬ 8 ≤ s.att.count + 1 := by omega
  simp only [detectOrientation, h, if_neg ho, if_neg hless]

theorem detectOrientation_changes {o : Orientation} (h : pointsTo s.set.att f = some o) (ho : o ≠ s.att.effective)
    (hn : s.att.count = 7) :
    OrientedTo o .both { s with att := { s.att with count := 0 } } (detectOrientation f s) := by
  have hfull : 8 ≤ s.att.count + 1 := by omega
  simp only [detectOrientation, h, if_neg ho, if_pos hfull]
  exact changeOrientation_to o .both _

end

/-- Settles O7, by the cases of each decision. -/
theorem followAndOrientation : Obligations.FollowAndOrientation := by
  refine ⟨followDecision_clauses, fun f s => ⟨fun h1 h2 => detectOrientation_none (pointsTo_none h1 h2),
    fun h0 h ho => detectOrientation_same (pointsTo_floor h0 h) ho,
    fun h0 h ho hn => detectOrientation_counts (pointsTo_floor h0 h) (by simp [ho]) hn,
    fun h0 h ho hn => detectOrientation_changes (pointsTo_floor h0 h) (by simp [ho]) hn,
    fun h ho hn => detectOrientation_changes (pointsTo_ceiling h) (by simp [ho]) hn,
    fun h ho hn => detectOrientation_counts (pointsTo_ceiling h) (by simp [ho]) hn,
    fun h ho => detectOrientation_same (pointsTo_ceiling h) ho,
    fun hr h => ?_, fun hr h => ?_, fun hr h => ?_, fun hr h => ?_⟩⟩
  · simp [rollTest, hr, h, raise]
  · simp [rollTest, hr, Int.not_lt.2 h]
  · simp [rollTest, hr, h]
  · simp [rollTest, hr, Int.not_lt.2 h]

/-! ## The commands of the Attitude Unit -/

section
variable {p : Port} {f : Int} {s : State}

theorem captureLevel_invalid (h : attitudeValid s = false) : captureLevel p () s = refuse s .notReady := by
  unfold captureLevel
  split
  · rfl
  · rw [if_neg (by simp [h])]

theorem captureLevel_valid (h : attitudeValid s = true) (hf : meanOf s.att.windows.pitch = some f) :
    captureLevel p () s =
      let r := compose s.set.geo (.port p) (setPitch f f s)
      if r.2 then { st := r.1, status := .ok, data := s16 f }
      else { st := setPitch s.att.pApp s.set.pRef r.1, status := .shape, data := [] } := by
  simp only [captureLevel, filteredAngle, PerAngle.get, hf, h, if_true]

theorem captureLevel_refused (h : attitudeValid s = true) (hf : meanOf s.att.windows.pitch = some f)
    (hbad : shapeOk s.set.geo.width s.set.geo.height
      (candidateOf s.set.geo s.geo.band f f s.att.effective).corners = false) :
    captureLevel p () s = refuse
      (reportCornerClip (candidateOf s.set.geo s.geo.band f f s.att.effective) (.port p) s) .shape := by
  have hc := compose_clip s.set.geo (.port p) (setPitch f f s) hbad
  rw [reportCornerClip_setPitch] at hc
  obtain ⟨k, u, e⟩ := reportCornerClip_frame (candidateOf s.set.geo s.geo.band f f s.att.effective) (.port p) s
  rw [captureLevel_valid h hf, hc]
  simp [refuse, setPitch, candidate, e]

theorem captureLevel_accepted (h : attitudeValid s = true) (hf : meanOf s.att.windows.pitch = some f)
    (hok : shapeOk s.set.geo.width s.set.geo.height
      (candidateOf s.set.geo s.geo.band f f s.att.effective).corners = true) :
    ∃ t, captureLevel p () s = { st := t, status := .ok, data := s16 f }
      ∧ ComposedTo s.set.geo (candidateOf s.set.geo s.geo.band f f s.att.effective)
        { reportCornerClip (candidateOf s.set.geo s.geo.band f f s.att.effective) (.port p) s with
          att := { s.att with pApp := f }, set := { s.set with pRef := f } } t := by
  obtain ⟨hr, ht⟩ := compose_to s.set.geo (.port p) (setPitch f f s) hok
  rw [reportCornerClip_setPitch] at ht
  refine ⟨_, ?_, ht⟩
  rw [captureLevel_valid h hf]
  simp only [hr, if_true]

end

theorem attitudeValid_taken (p : Port) (s : State) : attitudeValid (taken p s) = attitudeValid s := by
  simp only [attitudeValid, angleReady, angleFault, taken_att, taken_smp]

theorem attSettings_ok {d z t r : Int} (hd1 : 5 ≤ d) (hd2 : d ≤ 100) (hz1 : -9000 ≤ z) (hz2 : z ≤ 9000)
    (ht1 : 1000 ≤ t) (ht2 : t ≤ 8000) (hr1 : 100 ≤ r) (hr2 : r ≤ 3000) : (⟨d, z, t, r⟩ : AttSettings).ok = true := by
  simp [AttSettings.ok, within, *]

/-- Settles O8, by what each command of the Attitude Unit does to the state it takes. -/
theorem attitudeCommands : Obligations.AttitudeCommands := by
  refine ⟨fun s => ?_, fun p s h => ⟨fun f hv hf => ⟨fun hok => ?_, fun hbad => ?_⟩, fun hv => ?_, ?_, fun ho => ?_,
    fun ho => ?_, fun ho => ?_, fun ho => ?_⟩, fun p s d z t r h hd1 hd2 hz1 hz2 ht1 ht2 hr1 hr2 => ?_⟩
  · simp only [attitudeValid_iff, angleReady_iff]
  · have hv' : attitudeValid (taken p s) = true := (attitudeValid_taken p s).trans hv
    obtain ⟨t, ht, hto⟩ := captureLevel_accepted (p := p) (f := f) (s := taken p s) hv' (by simpa using hf) (by simpa using hok)
    exact ⟨t, command_eq h ht, by simpa using hto⟩
  · have hv' : attitudeValid (taken p s) = true := (attitudeValid_taken p s).trans hv
    exact command_eq h ((captureLevel_refused (f := f) hv' (by simpa using hf) (by simpa using hbad)).trans (by
      simp [refuse]))
  · exact command_eq h (captureLevel_invalid ((attitudeValid_taken p s).trans hv))
  · exact command_eq h (by simp [attSetOrientation, setOrientation, accept])
  · exact command_eq h (by simp [attSetOrientation, nameOrientation, setOrientation, accept, ho])
  · exact command_eq h (by simp [attSetOrientation, nameOrientation, setOrientation, accept, ho])
  · refine ⟨_, command_eq h (?_ : _ = accept (changeOrientation .floor (.port p) _)), changeOrientation_to _ _ _⟩
    simp [attSetOrientation, nameOrientation, setOrientation, ho]
  · refine ⟨_, command_eq h (?_ : _ = accept (changeOrientation .ceiling (.port p) _)), changeOrientation_to _ _ _⟩
    simp [attSetOrientation, nameOrientation, setOrientation, ho]
  · refine command_eq h ?_
    have hok := attSettings_ok hd1 hd2 hz1 hz2 ht1 ht2 hr1 hr2
    simp [attSetParams, attSettingsOf, hok, accept]

end Sys2Proof.Machine
end

section
/-! The Geometry Unit (03): the arithmetic of a composition and the unit's commands. -/

namespace Sys2Proof.Machine

/-- The first element of an ordered list that passes a test: it passes, and none before it does. -/
theorem find?_eq_some_iff_first {α : Type} {R : α → α → Prop} (hasymm : ∀ a b, R a b → ¬ R b a) {p : α → Bool} {x : α} :
    ∀ {l : List α}, l.Pairwise R → (l.find? p = some x ↔ x ∈ l ∧ p x = true ∧ ∀ y ∈ l, R y x → p y = false)
  | [], _ => by simp
  | a :: l, hl => by
    obtain ⟨ha, htail⟩ := List.pairwise_cons.1 hl
    cases hp : p a with
    | true =>
      rw [List.find?_cons_of_pos hp, Option.some.injEq]
      constructor
      · rintro rfl
        refine ⟨List.mem_cons_self, hp, fun y hy hr => ?_⟩
        rcases List.mem_cons.1 hy with rfl | hy
        · exact absurd hr (hasymm _ _ hr)
        · exact absurd hr (hasymm _ _ (ha y hy))
      · rintro ⟨hx, -, hfirst⟩
        rcases List.mem_cons.1 hx with rfl | hx
        · rfl
        · exact absurd (hp.symm.trans (hfirst a List.mem_cons_self (ha x hx))) (by decide)
    | false =>
      rw [List.find?_cons_of_neg (by simp [hp]), find?_eq_some_iff_first hasymm htail]
      constructor
      · rintro ⟨hx, hpx, hfirst⟩
        refine ⟨List.mem_cons_of_mem _ hx, hpx, fun y hy hr => ?_⟩
        rcases List.mem_cons.1 hy with rfl | hy
        · exact hp
        · exact hfirst y hy hr
      · rintro ⟨hx, hpx, hfirst⟩
        refine ⟨(List.mem_cons.1 hx).resolve_left ?_, hpx, fun y hy => hfirst y (List.mem_cons_of_mem _ hy)⟩
        rintro rfl
        exact absurd (hp.symm.trans hpx) (by decide)

/-! ## The arithmetic of a composition -/

/-- The panel order of the components of the corners: TL, TR, BL, BR, x before y (03 R39). -/
def cornerBefore (a b : Corner × Comp) : Prop :=
  cornerCode a.1 < cornerCode b.1 ∨ a.1 = b.1 ∧ a.2 = .x ∧ b.2 = .y

theorem cornerBefore_asymm (a b : Corner × Comp) (h : cornerBefore a b) : ¬ cornerBefore b a := by
  rcases h with h | ⟨h, hx, hy⟩
  · rintro (h' | ⟨h', -, -⟩)
    · omega
    · rw [h'] at h
      omega
  · rintro (h' | ⟨-, hx', -⟩)
    · rw [h] at h'
      omega
    · exact absurd (hy.symm.trans hx') (by decide)

/-- A component of the panel corners lies outside the panel (03 R39). -/
def cornerOut (w h : Int) (q : PerCorner Pt) (c : Corner) : Comp → Prop
  | .x => (q.get c).x < 0 ∨ 16 * w < (q.get c).x
  | .y => (q.get c).y < 0 ∨ 16 * h < (q.get c).y

section
variable {w h : Int} {q : PerCorner Pt}

theorem not_within_iff (a b x : Int) : (!within a b x) = true ↔ x < a ∨ b < x := by
  simp only [within, Bool.not_eq_true', decide_eq_false_iff_not]
  omega

theorem firstCornerClamp_none : firstCornerClamp w h q = none ↔ ∀ c k, ¬ cornerOut w h q c k := by
  simp only [firstCornerClamp, List.find?_eq_none, cornerOut]
  constructor
  · intro hall c k
    have hmem := hall (c, k) (by cases c <;> cases k <;> simp)
    cases k <;> simpa only [not_within_iff] using hmem
  · rintro hall ⟨c, k⟩ -
    have hout := hall c k
    cases k <;> simpa only [not_within_iff] using hout

theorem firstCornerClamp_some {c : Corner} {k : Comp} : firstCornerClamp w h q = some (c, k) ↔
    cornerOut w h q c k ∧ (k = .y → ¬ cornerOut w h q c .x)
      ∧ ∀ c' k', cornerCode c' < cornerCode c → ¬ cornerOut w h q c' k' := by
  have hsorted : [(Corner.tl, Comp.x), (.tl, .y), (.tr, .x), (.tr, .y), (.bl, .x), (.bl, .y), (.br, .x),
      (.br, .y)].Pairwise cornerBefore := by
    simp [cornerBefore, cornerCode]
  have htest : ∀ c k, (match (c, k).2 with
      | .x => !within 0 (16 * w) (q.get (c, k).1).x
      | .y => !within 0 (16 * h) (q.get (c, k).1).y) = true ↔ cornerOut w h q c k := fun c k => by
    cases k <;> exact not_within_iff _ _ _
  have hmem : ∀ c k, (c, k) ∈ [(Corner.tl, Comp.x), (.tl, .y), (.tr, .x), (.tr, .y), (.bl, .x), (.bl, .y), (.br, .x),
      (.br, .y)] := fun c k => by cases c <;> cases k <;> simp
  unfold firstCornerClamp
  rw [find?_eq_some_iff_first cornerBefore_asymm hsorted]
  constructor
  · rintro ⟨-, hout, hfirst⟩
    refine ⟨(htest c k).1 hout, fun hk hx => ?_, fun c' k' hlt hx => ?_⟩
    · have hfalse := hfirst (c, .x) (hmem _ _) (.inr ⟨rfl, rfl, hk⟩)
      exact Bool.false_ne_true (hfalse.symm.trans ((htest c .x).2 hx))
    · have hfalse := hfirst (c', k') (hmem _ _) (.inl hlt)
      exact Bool.false_ne_true (hfalse.symm.trans ((htest c' k').2 hx))
  · rintro ⟨hout, hx, hfirst⟩
    refine ⟨hmem _ _, (htest c k).2 hout, ?_⟩
    rintro ⟨c', k'⟩ - (hlt | ⟨hc, hk', hk⟩)
    · exact Bool.eq_false_iff.2 fun hp => hfirst c' k' hlt ((htest c' k').1 hp)
    · obtain rfl : c' = c := hc
      obtain rfl : k' = .x := hk'
      exact Bool.eq_false_iff.2 fun hp => hx hk ((htest c' .x).1 hp)

end

/-- The screen corners, by the corner (03 R35, R37). -/
theorem screenCorners_get (g : GeoRecord) (band : Nat) (pApp pRef : Int) (c : Corner) :
    let offset : Pt := if g.corners then g.offsets.get c else ⟨0, 0⟩
    let inset : Int := if g.corners then roundDiv ((pApp - pRef) * (g.coeff[band]?.getD 0)) 256 else 0
    (screenCorners g (tiltInset g band pApp pRef)).get c = match c with
      | .tl => ⟨offset.x + max inset 0, offset.y⟩
      | .tr => ⟨16 * g.width + offset.x - max inset 0, offset.y⟩
      | .bl => ⟨offset.x + max (-inset) 0, 16 * g.height + offset.y⟩
      | .br => ⟨16 * g.width + offset.x - max (-inset) 0, 16 * g.height + offset.y⟩ := by
  simp only [screenCorners, tiltInset]
  cases g.corners with
  | false => cases c <;> simp [nominal, PerCorner.get]
  | true =>
    simp only [if_true]
    generalize roundDiv _ 256 = inset
    unfold applyInset
    split
    · rename_i hpos
      have hmax : max inset 0 = inset := max_eq_left (by omega)
      have hmin : max (-inset) 0 = 0 := max_eq_right (by omega)
      cases c <;> simp [nominal, PerCorner.get, Pt.add, hmax, hmin]
    · rename_i hpos
      have hmax : max inset 0 = 0 := max_eq_right (by omega)
      have hmin : max (-inset) 0 = -inset := max_eq_left (by omega)
      cases c <;> simp [nominal, PerCorner.get, Pt.add, hmax, hmin] <;> omega

theorem PerCorner.get_map {α β : Type} (f : α → β) (v : PerCorner α) (c : Corner) : (v.map f).get c = f (v.get c) := by
  cases c <;> rfl

/-- The panel corners, by the corner and the orientation (03 R38). -/
theorem toPanel_get (o : Orientation) (w h : Int) (q : PerCorner Pt) (c : Corner) :
    (toPanel o w h q).get c = match o with
      | .floor => q.get c
      | .ceiling =>
        let d := q.get (match c with
          | .tl => .br
          | .tr => .bl
          | .bl => .tr
          | .br => .tl)
        ⟨16 * w - d.x, 16 * h - d.y⟩ := by
  cases o <;> cases c <;> rfl

/-- The candidate of a composition, with the lets of the statement. -/
theorem candidate_arithmetic (g : GeoRecord) (band : Nat) (pApp pRef : Int) (o : Orientation) :
    let w := 16 * g.width
    let h := 16 * g.height
    let offset (c : Corner) : Pt := if g.corners then g.offsets.get c else ⟨0, 0⟩
    let inset : Int := if g.corners then roundDiv ((pApp - pRef) * (g.coeff[band]?.getD 0)) 256 else 0
    let top := max inset 0
    let bottom := max (-inset) 0
    let screen (c : Corner) : Pt := match c with
      | .tl => ⟨(offset c).x + top, (offset c).y⟩
      | .tr => ⟨w + (offset c).x - top, (offset c).y⟩
      | .bl => ⟨(offset c).x + bottom, h + (offset c).y⟩
      | .br => ⟨w + (offset c).x - bottom, h + (offset c).y⟩
    let opposite (c : Corner) : Corner := match c with
      | .tl => .br
      | .tr => .bl
      | .bl => .tr
      | .br => .tl
    let panel (c : Corner) : Pt := match o with
      | .floor => screen c
      | .ceiling => ⟨w - (screen (opposite c)).x, h - (screen (opposite c)).y⟩
    let out (c : Corner) (k : Comp) : Prop := match k with
      | .x => (panel c).x < 0 ∨ w < (panel c).x
      | .y => (panel c).y < 0 ∨ h < (panel c).y
    let q := candidateOf g band pApp pRef o
    q.inset = inset
    ∧ (∀ c, q.corners.get c = ⟨clamp 0 w (panel c).x, clamp 0 h (panel c).y⟩)
    ∧ (q.clamp = none ↔ ∀ c k, ¬ out c k)
    ∧ (∀ c k, q.clamp = some (c, k) ↔
        out c k ∧ (k = .y → ¬ out c .x) ∧ ∀ c' k', cornerCode c' < cornerCode c → ¬ out c' k') := by
  intro w h offset inset top bottom screen opposite panel out q
  have hscreen : ∀ c, (screenCorners g (tiltInset g band pApp pRef)).get c = screen c := fun c =>
    (screenCorners_get g band pApp pRef c).trans (by cases c <;> rfl)
  have hpanel : ∀ c, (toPanel o g.width g.height (screenCorners g (tiltInset g band pApp pRef))).get c = panel c :=
    fun c => by
      rw [toPanel_get]
      cases o with
      | floor => exact hscreen c
      | ceiling =>
        have hopposite := hscreen (opposite c)
        cases c <;> exact congrArg (fun d : Pt => (⟨w - d.x, h - d.y⟩ : Pt)) hopposite
  have hout : ∀ c k, cornerOut g.width g.height
      (toPanel o g.width g.height (screenCorners g (tiltInset g band pApp pRef))) c k ↔ out c k := fun c k => by
    cases k <;> simp only [cornerOut, hpanel, out, w, h]
  refine ⟨rfl, fun c => ?_, ?_, fun c k => ?_⟩
  · exact (PerCorner.get_map _ _ c).trans (by rw [hpanel]; rfl)
  · exact firstCornerClamp_none.trans (by simp only [hout])
  · exact firstCornerClamp_some.trans (by simp only [hout])

theorem shapeOk_iff (w h : Int) (c : PerCorner Pt) : shapeOk w h c = true ↔
    8 * w ≤ c.tr.x - c.tl.x ∧ 8 * w ≤ c.br.x - c.bl.x ∧ 8 * h ≤ c.bl.y - c.tl.y ∧ 8 * h ≤ c.br.y - c.tr.y :=
  decide_eq_true_iff

theorem reportClip_latched {w : ClipWatch} {d : Dest} {s : State} (h : s.geo.clip ≠ .clear) : reportClip w d s = s := by
  unfold reportClip
  split
  · rename_i hc
    exact absurd hc h
  · rfl

theorem reportClip_clear {w : ClipWatch} {d : Dest} {s : State} (h : s.geo.clip = .clear) :
    reportClip w d s = { s with geo := { s.geo with clip := w }, port := s.port.raise d .clip } := by
  simp [reportClip, h, raise]

/-! ## The commands that compose (03 R46 to R50) -/

theorem cornerOf_code (c : Corner) : cornerOf (cornerCode c) = some c := by cases c <;> rfl

theorem clamp_eq_self {a b : Int} (h : a ≤ b) (x : Int) : clamp a b x = x ↔ within a b x = true := by
  rw [within, decide_eq_true_eq]
  exact ⟨fun e => by rw [← e]; exact clamp_range _ _ _ h, clamp_of_within _ _ _⟩

theorem clampOffset_eq_self (d : Pt) : clampOffset d = d ↔ offsetOk d = true := by
  obtain ⟨x, y⟩ := d
  simp only [clampOffset, Pt.mk.injEq, clamp_eq_self (show (-15360 : Int) ≤ 15360 by decide), offsetOk, Bool.and_eq_true]

theorem clampStatus_offset (d : Pt) : clampStatus (!offsetOk d) = if clampOffset d = d then .ok else .okClamped := by
  by_cases h : offsetOk d = true
  · rw [if_pos ((clampOffset_eq_self d).2 h), h]
    rfl
  · rw [if_neg (fun e => h ((clampOffset_eq_self d).1 e)), Bool.eq_false_iff.2 h]
    rfl

theorem map_clampOffset_eq_self (d : PerCorner Pt) : d.map clampOffset = d ↔ d.all offsetOk = true := by
  obtain ⟨tl, tr, bl, br⟩ := d
  simp only [PerCorner.map, PerCorner.mk.injEq, clampOffset_eq_self, PerCorner.all, Bool.and_eq_true, and_assoc]

theorem clampStatus_offsets (d : PerCorner Pt) :
    clampStatus (!d.all offsetOk) = if d.map clampOffset = d then .ok else .okClamped := by
  by_cases h : d.all offsetOk = true
  · rw [if_pos ((map_clampOffset_eq_self d).2 h), h]
    rfl
  · rw [if_neg (fun e => h ((map_clampOffset_eq_self d).1 e)), Bool.eq_false_iff.2 h]
    rfl

theorem candidate_taken (g : GeoRecord) (p : Port) (s : State) : candidate g (taken p s) = candidate g s := by
  simp [candidate]

/-- A command whose unit tries the record g, in the state in which it takes the command. -/
theorem answersComposed {α : Type} {i : Instr} {p : Port} {id : Byte} {need : Need} {a : α} {k : Status} {g : GeoRecord}
    {unit : α → State → Answer} {s : State} (hi : exec i s = command p id need (.form a) unit s) (h : canUse p need s)
    (hu : unit a (taken p s) = tryRecord p g k (taken p s)) : AnswersComposed i p id k g s := by
  have hcandidate := candidate_taken g p s
  refine ⟨fun hok => ?_, fun hbad => ?_⟩
  · obtain ⟨hr, ht⟩ := compose_to g (.port p) (taken p s) (by rw [hcandidate]; exact hok)
    rw [hcandidate] at ht
    exact ⟨_, hi.trans (command_eq h (hu.trans (if_pos hr))), ht⟩
  · have hc := compose_clip g (.port p) (taken p s) (by rw [hcandidate]; exact hbad)
    rw [hcandidate] at hc
    exact hi.trans (command_eq h (hu.trans (by simp [tryRecord, hc])))

/-- The corner commands (03 R46 to R48). -/
theorem corner_commands (p : Port) (s : State) (h : canUse p .geometry s) :
    let held (d : Pt) : Pt := ⟨clamp (-15360) 15360 d.x, clamp (-15360) 15360 d.y⟩
    let moved (d : Pt) : Status := if held d = d then .ok else .okClamped
    let g := s.set.geo
    (∀ (c : Corner) (d : Pt),
      AnswersComposed (.geoSetCorner p (.form ⟨cornerCode c, d⟩)) p 0x30#8 (moved d)
        { g with offsets := g.offsets.set c (held d) } s)
    ∧ (∀ d : PerCorner Pt,
      AnswersComposed (.geoSetCorners p (.form d)) p 0x31#8 (if d.map held = d then .ok else .okClamped)
        { g with offsets := d.map held } s)
    ∧ (∀ (c : Corner) (d : Pt), -30720 ≤ d.x → d.x ≤ 30720 → -30720 ≤ d.y → d.y ≤ 30720 →
      let sum : Pt := ⟨(g.offsets.get c).x + d.x, (g.offsets.get c).y + d.y⟩
      AnswersComposed (.geoNudgeCorner p (.form ⟨cornerCode c, d⟩)) p 0x32#8 (moved sum)
        { g with offsets := g.offsets.set c (held sum) } s)
    ∧ AnswersComposed (.geoZeroCorners p (.form ())) p 0x33#8 .ok
        { g with offsets := ⟨⟨0, 0⟩, ⟨0, 0⟩, ⟨0, 0⟩, ⟨0, 0⟩⟩ } s
    ∧ AnswersComposed (.geoSetMode p (.form 0)) p 0x34#8 .ok { g with corners := false } s
    ∧ AnswersComposed (.geoSetMode p (.form 1)) p 0x34#8 .ok { g with corners := true } s := by
  intro held moved g
  refine ⟨fun c d => answersComposed rfl h ?_, fun d => answersComposed rfl h ?_,
    fun c d hx1 hx2 hy1 hy2 => answersComposed rfl h ?_, answersComposed rfl h ?_, answersComposed rfl h ?_,
    answersComposed rfl h ?_⟩
  · simp only [geoSetCorner, cornerOf_code, taken_set, clampStatus_offset]
    rfl
  · simp only [geoSetCorners, taken_set, clampStatus_offsets]
    rfl
  · have hx : within (-30720) 30720 d.x = true := decide_eq_true ⟨hx1, hx2⟩
    have hy : within (-30720) 30720 d.y = true := decide_eq_true ⟨hy1, hy2⟩
    simp only [geoNudgeCorner, cornerOf_code, taken_set, clampStatus_offset, hx, hy, Bool.and_self, if_true]
    rfl
  · simp only [geoZeroCorners, taken_set]
    rfl
  · simp only [geoSetMode, taken_set]
    rfl
  · simp only [geoSetMode, taken_set]
    rfl

/-- The commands of the panel and the zoom table (03 R49, R50). -/
theorem panel_commands (p : Port) (s : State) (h : canUse p .config s) :
    let g := s.set.geo
    (∀ w h : Int, 1280 ≤ w → w ≤ 4096 → 720 ≤ h → h ≤ 2400 →
      AnswersComposed (.geoSetPanel p (.form ⟨w, h⟩)) p 0x36#8 .ok { g with width := w, height := h } s)
    ∧ (∀ k : Vector Nat 8, (∀ n ∈ k.toList, n ≤ 1023) →
      AnswersComposed (.geoSetZoomTable p (.form k.toList)) p 0x37#8 .ok { g with coeff := k.map Int.ofNat } s) := by
  intro g
  refine ⟨fun w h' hw1 hw2 hh1 hh2 => answersComposed rfl h ?_, fun k hk => answersComposed rfl h ?_⟩
  · have hok : panelOk w h' = true := by simp [panelOk, within, hw1, hw2, hh1, hh2]
    simp only [geoSetPanel, hok, if_true, taken_set]
    rfl
  · have hrow : rowOf 8 (k.toList.map fun n => (n : Int)) = some (k.map Int.ofNat) := by
      rw [← rowOf_toList (k.map Int.ofNat), Vector.toList_map]
      simp only [List.map_id', bind_pure_comp]
      rfl
    have hok : coeffOk (k.map Int.ofNat) = true := by
      simp only [coeffOk, Vector.toList_map, List.all_map, List.all_eq_true, Function.comp, within, decide_eq_true_eq]
      intro n hn
      have := hk n hn
      exact ⟨Int.natCast_nonneg n, by simpa using this⟩
    simp only [geoSetZoomTable, hrow, hok, if_true, taken_set]
    rfl

/-- The commands that set the follow and the clip watch (02 R25; 03 R45, R48). -/
theorem follow_commands (p : Port) (s : State) (h : canUse p .geometry s) :
    exec (.geoSetFollow p (.form 0)) s =
      .next (replied p 0x35#8 .ok [] s { taken p s with set := { s.set with geo := { s.set.geo with follow := false } } })
    ∧ exec (.geoSetFollow p (.form 1)) s =
      .next (replied p 0x35#8 .ok [] s { taken p s with
        set := { s.set with geo := { s.set.geo with follow := true } },
        att := { s.att with refused := if s.set.geo.follow then s.att.refused else none } })
    ∧ exec (.geoClearClip p (.form ())) s =
      .next (replied p 0x38#8 .ok [] s { taken p s with geo := { s.geo with clip := .clear } }) := by
  refine ⟨command_eq h ?_, command_eq h ?_, command_eq h ?_⟩
  · have hatt : (taken p s).att = s.att := taken_att p s
    simp only [geoSetFollow, setFollow, accept, taken_set, Bool.false_and, Bool.false_eq_true, if_false]
  · cases hf : s.set.geo.follow <;> simp [geoSetFollow, setFollow, accept, hf]
  · simp only [geoClearClip, accept, taken_geo]

/-- The reads of the Geometry and the Attitude Unit (02 R31, 03 R51). -/
theorem geoStatus_taken (p : Port) (s : State) : geoStatus () (taken p s) = reply (taken p s) (geoStatusData s) := by
  simp only [geoStatus, geoStatusData, taken_set, taken_geo]

theorem attStatus_taken (p : Port) (s : State) : attStatus () (taken p s) = reply (taken p s) (attStatusData s) := by
  cases p <;> rfl

/-- Settles O9, by the arithmetic of a composition and the record that each command tries. -/
theorem geometryCommands : Obligations.GeometryCommands := by
  refine ⟨candidate_arithmetic, fun _ _ => rfl, fun s => ⟨frozenByAxes_iff s, frozenByFans_iff s⟩, shapeOk_iff,
    fun _ _ => rfl, fun c d s => ⟨?_, fun k hk hclear => ?_⟩, fun p s => ⟨corner_commands p s, panel_commands p s⟩,
    fun p s => ⟨follow_commands p s, fun h => ⟨?_, ?_⟩⟩⟩
  · rintro (hn | hl)
    · simp [reportCornerClip, hn]
    · unfold reportCornerClip
      cases c.clamp with
      | none => rfl
      | some k => exact reportClip_latched hl
  · simp only [reportCornerClip, hk]
    exact reportClip_clear hclear
  · refine command_eq h ((geoStatus_taken p s).trans ?_)
    cases hclip : s.geo.clip <;> simp only [reply, geoStatusData, hclip] <;> rfl
  · refine command_eq h ((attStatus_taken p s).trans ?_)
    rfl

end Sys2Proof.Machine
end

section
/-! The Mesh Engine (04): the vertices of a computation, the edits of the fine-warp layer and the commands on it. -/

namespace Sys2Proof.Machine

/-! ## The vertices of a computation (04 R53, R57) -/

theorem meshAt_ofFn (f : Nat → Nat → Pt) {i j : Nat} (hi : i ≤ 16) (hj : j ≤ 8) :
    meshAt (Vector.ofFn fun k : Fin 153 => f (k.val % 17) (k.val / 17)) i j = f i j := by
  have hmod : (17 * j + i) % 17 = i := by omega
  have hdiv : (17 * j + i) / 17 = j := by omega
  rw [meshAt, meshIndex, Vector.getElem?_eq_getElem (by omega), Option.getD_some, Vector.getElem_ofFn]
  simp only [hmod, hdiv]

theorem meshAt_meshOf (m : Snapshot) {i j : Nat} (hi : i ≤ 16) (hj : j ≤ 8) : meshAt (meshOf m) i j = vertexOf m i j :=
  meshAt_ofFn (vertexOf m) hi hj

/-- The first vertices of a mesh, row by row. -/
theorem rows_eq (n : Nat) : ((List.range (17 * n)).map fun k => (k % 17, k / 17)) =
    (List.range n).flatMap fun j => (List.range 17).map fun i => (i, j) := by
  induction n with
  | zero => rfl
  | succ n ih =>
    have hrow : ∀ i ∈ List.range 17, ((17 * n + i) % 17, (17 * n + i) / 17) = (i, n) := fun i hi => by
      have hi := List.mem_range.1 hi
      rw [Prod.mk.injEq]
      omega
    rw [Nat.mul_succ, List.range_add, List.map_append, ih, List.range_succ (n := n), List.flatMap_append,
      List.flatMap_singleton, List.map_map]
    exact congrArg _ (List.map_congr_left hrow)

theorem meshOrder_eq : meshOrder = (List.range 9).flatMap fun j => (List.range 17).map fun i => (i, j) := rows_eq 9

/-- The clamp acts on a coordinate that lies outside the panel, with fine warp alone (04 R57). -/
theorem vertexClamped_eq (m : Snapshot) (i j : Nat) (k : Comp) :
    vertexClamped m i j k = (m.fineWarp && match k with
      | .x => decide ((vertexSum m i j).x < 0 ∨ 16 * m.width < (vertexSum m i j).x)
      | .y => decide ((vertexSum m i j).y < 0 ∨ 16 * m.height < (vertexSum m i j).y)) := by
  cases k <;> exact congrArg (m.fineWarp && ·) (Bool.eq_iff_iff.2 ((not_within_iff _ _ _).trans decide_eq_true_iff.symm))

theorem clampCountOf_eq (m : Snapshot) : clampCountOf m =
    ((List.range 9).flatMap fun j => (List.range 17).filter fun i =>
      vertexClamped m i j .x || vertexClamped m i j .y).length := by
  rw [clampCountOf, meshOrder_eq]
  simp only [List.filter_flatMap, List.filter_map, List.length_flatMap, List.length_map, Function.comp_def]

/-- The order of the coordinates of a mesh: rows, columns in a row, x before y in a vertex (04 R53, R57). -/
def coordBefore (a b : Nat × Nat × Comp) : Prop :=
  (a.2.1 < b.2.1 ∨ a.2.1 = b.2.1 ∧ a.1 < b.1) ∨ a.1 = b.1 ∧ a.2.1 = b.2.1 ∧ a.2.2 = .x ∧ b.2.2 = .y

theorem coordBefore_asymm (a b : Nat × Nat × Comp) (h : coordBefore a b) : ¬ coordBefore b a := by
  obtain ⟨i, j, k⟩ := a
  obtain ⟨i', j', k'⟩ := b
  simp only [coordBefore] at h ⊢
  rcases h with h | ⟨hi, hj, hk, hk'⟩
  · omega
  · rintro (h | ⟨-, -, hx, -⟩)
    · omega
    · exact absurd (hx.symm.trans hk') (by decide)

/-- The coordinates of a mesh in their order. -/
def coordOrder : List (Nat × Nat × Comp) := meshOrder.flatMap fun ij => [(ij.1, ij.2, .x), (ij.1, ij.2, .y)]

theorem mem_coordOrder (i j : Nat) (k : Comp) : (i, j, k) ∈ coordOrder ↔ i ≤ 16 ∧ j ≤ 8 := by
  simp only [coordOrder, meshOrder_eq, List.mem_flatMap, List.mem_map, List.mem_range, List.mem_cons, List.not_mem_nil,
    or_false, Prod.exists, Prod.mk.injEq]
  constructor
  · rintro ⟨i', j', ⟨j'', hj, i'', hi, rfl, rfl⟩, h⟩
    omega
  · rintro ⟨hi, hj⟩
    exact ⟨i, j, ⟨j, by omega, i, by omega, rfl, rfl⟩, by cases k <;> simp⟩

theorem coordOrder_sorted : coordOrder.Pairwise coordBefore := by
  refine List.pairwise_flatMap.2 ⟨fun ij _ => by simp [coordBefore], ?_⟩
  refine List.pairwise_map.2 (List.pairwise_lt_range.imp fun {a b} hab => ?_)
  have hlt : a / 17 < b / 17 ∨ a / 17 = b / 17 ∧ a % 17 < b % 17 := by omega
  rintro x hx y hy
  simp only [List.mem_cons, List.not_mem_nil, or_false] at hx hy
  rcases hx with rfl | rfl <;> rcases hy with rfl | rfl <;> exact .inl hlt

theorem firstVertexClamp_none (m : Snapshot) :
    firstVertexClamp m = none ↔ ∀ i j k, i ≤ 16 → j ≤ 8 → vertexClamped m i j k = false := by
  refine List.find?_eq_none.trans ⟨fun h i j k hi hj => ?_, ?_⟩
  · exact Bool.eq_false_iff.2 (h (i, j, k) ((mem_coordOrder i j k).2 ⟨hi, hj⟩))
  · rintro h ⟨i, j, k⟩ hmem
    obtain ⟨hi, hj⟩ := (mem_coordOrder i j k).1 hmem
    exact Bool.eq_false_iff.1 (h i j k hi hj)

theorem firstVertexClamp_some (m : Snapshot) (i j : Nat) (k : Comp) :
    firstVertexClamp m = some (i, j, k) ↔
      i ≤ 16 ∧ j ≤ 8 ∧ vertexClamped m i j k = true ∧ (k = .y → vertexClamped m i j .x = false)
        ∧ ∀ i' j' k', i' ≤ 16 → (j' < j ∨ j' = j ∧ i' < i) → vertexClamped m i' j' k' = false := by
  refine (find?_eq_some_iff_first coordBefore_asymm coordOrder_sorted).trans ⟨?_, ?_⟩
  · rintro ⟨hmem, hk, hfirst⟩
    obtain ⟨hi, hj⟩ := (mem_coordOrder i j k).1 hmem
    refine ⟨hi, hj, hk, fun hy => ?_, fun i' j' k' hi' hlt => ?_⟩
    · exact hfirst (i, j, .x) ((mem_coordOrder i j .x).2 ⟨hi, hj⟩) (.inr ⟨rfl, rfl, rfl, hy⟩)
    · exact hfirst (i', j', k') ((mem_coordOrder i' j' k').2 ⟨hi', by omega⟩) (.inl hlt)
  · rintro ⟨hi, hj, hk, hx, hfirst⟩
    refine ⟨(mem_coordOrder i j k).2 ⟨hi, hj⟩, hk, ?_⟩
    rintro ⟨i', j', k'⟩ hmem (hlt | ⟨hi', hj', hk', hy⟩)
    · exact hfirst i' j' k' ((mem_coordOrder i' j' k').1 hmem).1 hlt
    · obtain rfl : i' = i := hi'
      obtain rfl : j' = j := hj'
      obtain rfl : k' = .x := hk'
      exact hx hy

/-- Settles O12, by the order of the coordinates. -/
theorem fineWarpVertices : Obligations.FineWarpVertices := by
  intro m offset sum clamped earlier
  have hsum : ∀ i j, vertexSum m i j = sum i j := fun i j => rfl
  have hclamped : ∀ i j k, vertexClamped m i j k = clamped i j k := fun i j k => by
    cases k <;> simp only [vertexClamped_eq, hsum] <;> rfl
  refine ⟨fun i j hi hj => ⟨fun hw => ?_, fun hw => ?_, fun hwidth hheight hc => ?_⟩, fun hw => ⟨?_, ?_⟩, ?_, ?_,
    fun i j k => ?_⟩
  · rw [meshAt_meshOf m hi hj, vertexOf, if_pos hw, hsum]
  · rw [meshAt_meshOf m hi hj, vertexOf, if_neg (by simp [hw])]
  · rw [meshAt_meshOf m hi hj]
    exact vertexOf_inPanel hwidth hheight hc hi hj
  · exact (firstVertexClamp_none m).2 fun i j k _ _ => by rw [vertexClamped_eq, hw]; rfl
  · rw [clampCountOf_eq]
    simp [vertexClamped_eq, hw]
  · rw [clampCountOf_eq]
    simp only [hclamped]
  · rw [firstVertexClamp_none]
    simp only [hclamped]
  · rw [firstVertexClamp_some]
    simp only [hclamped]
    rfl

/-! ## Vertex edits (04 R58 to R62) -/

theorem vertexOk_of_le {i j : Nat} (hi : i ≤ 16) (hj : j ≤ 8) : vertexOk i j = true := decide_eq_true ⟨hi, hj⟩

section
variable {i j : Nat} {ok : Bool} {e : Option Comps} {edit : State → Answer} {s : State}

theorem editChecks_passed (hv : vertexOk i j = true) (he : stale (layerEntry i j s) e = false) :
    editChecks i j true e edit s = edit s := by
  simp [editChecks, hv, he]

theorem editChecks_stale (hv : vertexOk i j = true) (he : stale (layerEntry i j s) e = true) :
    editChecks i j true e edit s = entryReply i j .stale s := by
  simp [editChecks, hv, he]

theorem editChecks_values (hv : vertexOk i j = true) : editChecks i j false e edit s = entryReply i j .range s := by
  simp [editChecks, hv, rangeReply]

end

theorem meshAt_setAt (l : FineLayer) (d : Pt) {i j : Nat} (hi : i ≤ 16) (hj : j ≤ 8) :
    meshAt (setAt l (17 * j + i) d) i j = d := by
  have hlt : 17 * j + i < 153 := by omega
  simp [meshAt, meshIndex, setAt, hlt]

theorem rebuildIfWarped_set (s : State) : (rebuildIfWarped s).set = s.set := by
  unfold rebuildIfWarped
  split
  · obtain ⟨e, q, h⟩ := rebuild_frame false s
    rw [h]
  · rfl

/-- A command whose unit accepts an edit of entry (i, j), in the state in which it takes the command. -/
theorem edit_accepted {α : Type} {p : Port} {id : Byte} {a : α} {unit : α → State → Answer} {s : State} {i j : Nat} {d : Pt}
    {k : Status} (h : canUse p .geometry s) (hi : i ≤ 16) (hj : j ≤ 8)
    (hu : unit a (taken p s) = acceptEdit i j d k (taken p s)) :
    ∃ t, command p id .geometry (.form a) unit s = .next (replied p id k (ptBytes d) s t)
      ∧ WarpedTo { s.set with layer := setAt s.set.layer (17 * j + i) d } (taken p s) t := by
  refine ⟨_, command_eq h (hu.trans ?_), rebuildIfWarped_to (taken p s) _⟩
  have hentry : layerEntry i j (rebuildIfWarped (setEntry i j d (taken p s))) = d := by
    rw [layerEntry, rebuildIfWarped_set]
    exact meshAt_setAt _ d hi hj
  rw [acceptEdit, entryReply, hentry, setEntry, taken_set]
  rfl

/-- A command whose unit refuses an edit of entry (i, j): its reply carries the entry. -/
theorem edit_refused {α : Type} {p : Port} {id : Byte} {need : Need} {a : α} {unit : α → State → Answer} {s : State}
    {i j : Nat} {k : Status} (h : canUse p need s) (hu : unit a (taken p s) = entryReply i j k (taken p s)) :
    command p id need (.form a) unit s =
      .next (replied p id k (ptBytes (meshAt s.set.layer i j)) s (taken p s)) :=
  command_eq h (hu.trans (by rw [entryReply, layerEntry, taken_set]))

/-- What the selector of an edit selects. -/
theorem selector_clauses (d : Pt) (a b lim : Int) :
    let held (v : Int) : Int := if v < -lim then -lim else if lim < v then lim else v
    (stale d none = false ∧ (stale d (some (.x a)) = true ↔ d.x ≠ a) ∧ (stale d (some (.y b)) = true ↔ d.y ≠ b)
      ∧ (stale d (some (.both a b)) = true ↔ d.x ≠ a ∨ d.y ≠ b))
    ∧ putComps (.x a) d = ⟨a, d.y⟩ ∧ putComps (.y b) d = ⟨d.x, b⟩ ∧ putComps (.both a b) d = ⟨a, b⟩
    ∧ addComps (.x a) d = .x (d.x + a) ∧ addComps (.y b) d = .y (d.y + b)
    ∧ addComps (.both a b) d = .both (d.x + a) (d.y + b)
    ∧ saturateComps lim (.x a) = .x (held a) ∧ saturateComps lim (.y b) = .y (held b)
    ∧ saturateComps lim (.both a b) = .both (held a) (held b)
    ∧ zeroComps .x = .x 0 ∧ zeroComps .y = .y 0 ∧ zeroComps .both = .both 0 0
    ∧ (allComps (within (-lim) lim) (.x a) = true ↔ -lim ≤ a ∧ a ≤ lim)
    ∧ (allComps (within (-lim) lim) (.y b) = true ↔ -lim ≤ b ∧ b ≤ lim)
    ∧ (allComps (within (-lim) lim) (.both a b) = true ↔ (-lim ≤ a ∧ a ≤ lim) ∧ -lim ≤ b ∧ b ≤ lim) := by
  refine ⟨⟨rfl, decide_eq_true_iff, decide_eq_true_iff, ?_⟩, rfl, rfl, rfl, rfl, rfl, rfl, rfl, rfl, rfl, rfl, rfl, rfl,
    decide_eq_true_iff, decide_eq_true_iff, ?_⟩
  · simp [stale]
  · simp [allComps, within]

/-! ## Edits without a selector (12 R190) -/

@[simp] theorem rU8_cons (b : Byte) (l : List Byte) : rU8 (b :: l) = some (b.toNat, l) := rfl

theorem bind_cons {α β : Type} {r : Reader α} {f : α → Reader β} {l rest : List Byte} {a : α} (h : r l = some (a, rest)) :
    (Reader.bind r f) l = f a rest := by
  simp [Reader.bind, h]

theorem bind_none {α β : Type} {r : Reader α} {f : α → Reader β} {l : List Byte} (h : r l = none) :
    (Reader.bind r f) l = none := by
  simp [Reader.bind, h]

theorem rSelector_none {k : Byte} (l : List Byte) (h : 2 < k.toNat) : rSelector (k :: l) = none := by
  rw [rSelector, bind_cons (rU8_cons k l)]
  generalize k.toNat = n at h
  match n, h with
  | _ + 3, _ => rfl

/-- An edit whose selector byte names no selector has no form; the vertex is kept. -/
theorem editForm_noSelector {α : Type} (f : Nat → Nat → Selector → Reader α) (i j k : Byte) (l : List Byte)
    (h : 2 < k.toNat) :
    editForm (rU8.bind fun i => rU8.bind fun j => rSelector.bind fun k => f i j k) (i :: j :: k :: l) =
      .noForm i.toNat j.toNat := by
  have hnone : formOf (rU8.bind fun i => rU8.bind fun j => rSelector.bind fun k => f i j k) (i :: j :: k :: l) =
      .misfit := by
    rw [formOf, bind_cons (rU8_cons i _), bind_cons (rU8_cons j _), bind_none (rSelector_none l h)]
  simp only [editForm, hnone, decide_eq_true h, Bool.true_or, if_true]

/-- Settles O13, by the checks of an edit in their order. -/
theorem vertexEdits : Obligations.VertexEdits := by
  refine ⟨selector_clauses, fun p s i j h hi hj => ?_, fun p i j k l h => ?_, fun p s i j h hi hj => ?_⟩
  · have hrange : rangeReply i j (taken p s) = entryReply i j .range (taken p s) := if_pos (vertexOk_of_le hi hj)
    exact ⟨edit_refused h hrange, edit_refused h hrange, edit_refused h hrange⟩
  · exact ⟨congrArg _ (editForm_noSelector _ i j k l h), congrArg _ (editForm_noSelector _ i j k l h),
      congrArg _ (editForm_noSelector _ i j k l h)⟩
  · intro d lim put
    have hok := vertexOk_of_le hi hj
    have hentry : layerEntry i j (taken p s) = d := by rw [layerEntry, taken_set]
    have hstale : ∀ {e : Option Comps} {b : Bool}, stale d e = b → stale (layerEntry i j (taken p s)) e = b :=
      fun he => by rw [hentry]; exact he
    refine ⟨fun v e he hv => ?_, fun v e he hv => ?_, fun v e he hv => ?_, fun k e he => ?_,
      fun v e he => ⟨?_, fun hv => ?_, fun k => ?_⟩, fun v e hv => ?_⟩
    · refine edit_accepted h hi hj ((editChecks_passed hok (hstale he)).trans ?_)
      simp only [taken_set, hentry]
      exact if_pos hv
    · refine edit_refused h ((editChecks_passed hok (hstale he)).trans ?_)
      simp only [taken_set]
      exact if_neg (by rw [hv]; exact Bool.false_ne_true)
    · refine edit_accepted h hi hj ?_
      simp only [fwNudge, hv]
      rw [editChecks_passed hok (hstale he)]
      simp only [taken_set, hentry]
      rfl
    · refine edit_accepted h hi hj ((editChecks_passed hok (hstale he)).trans ?_)
      simp only [hentry]
    · exact edit_refused h (editChecks_stale hok (hstale he))
    · refine edit_refused h ?_
      simp only [fwNudge, hv]
      exact editChecks_stale hok (hstale he)
    · exact edit_refused h (editChecks_stale hok (hstale he))
    · refine edit_refused h ?_
      simp only [fwNudge, hv]
      exact editChecks_values hok

/-! ## The commands on the whole layer (04 R62 to R65, R73) -/

theorem saturateEntry_ne {n : Int} (h : 0 ≤ n) (d : Pt) :
    decide (saturateEntry n d ≠ d) = !(within (-n) n d.x && within (-n) n d.y) := by
  obtain ⟨x, y⟩ := d
  have hn : -n ≤ n := by omega
  rw [Bool.eq_iff_iff]
  simp only [saturateEntry, ne_eq, Pt.mk.injEq, clamp_eq_self hn, decide_eq_true_eq, Bool.not_eq_true',
    ← Bool.not_eq_true, Bool.and_eq_true]

theorem beyondLimit_eq {n : Int} (h : 0 ≤ n) (l : FineLayer) :
    beyondLimit n l = (l.toList.filter fun d => !(within (-n) n d.x && within (-n) n d.y)).length := by
  simp only [beyondLimit, saturateEntry_ne h]

theorem fwSetLimit_within {n : Nat} {s : State} (hn : n ≤ 2048) (h : beyondLimit n s.set.layer = 0) :
    fwSetLimit n s = { st := applyLimit n s, status := .ok, data := u8 0 } := by
  simp [fwSetLimit, hn, h]

theorem fwSetLimit_beyond {n : Nat} {s : State} (hn : n ≤ 2048) (h : 0 < beyondLimit n s.set.layer) :
    fwSetLimit n s =
      { st := rebuildIfWarped (applyLimit n s), status := .okClamped, data := u8 (beyondLimit n s.set.layer) } := by
  simp [fwSetLimit, hn, h]

theorem fwEnable_of_flag (b : Bool) (s : State) :
    fwEnable (if b then 1 else 0) s = accept (rebuild false (setFineWarp b s)) := by
  cases b <;> rfl

/-- The commands that change the layer, its limit and its enable. -/
theorem layer_edits (p : Port) (s : State) (h : canUse p .geometry s) :
    (∃ t, exec (.fwZeroAll p (.form ())) s = .next (replied p 0x43#8 .ok [] s t)
      ∧ WarpedTo { s.set with layer := Vector.replicate 153 ⟨0, 0⟩ } (taken p s) t)
    ∧ (∀ n : Nat, n ≤ 2048 →
      let g : Settings := { s.set with
        geo := { s.set.geo with fineLimit := n },
        layer := s.set.layer.map fun d => ⟨clamp (-(n : Int)) n d.x, clamp (-(n : Int)) n d.y⟩ }
      let k := (s.set.layer.toList.filter fun d => !(within (-(n : Int)) n d.x && within (-(n : Int)) n d.y)).length
      (k = 0 → exec (.fwSetLimit p (.form n)) s =
        .next (replied p 0x44#8 .ok (u8 0) s { taken p s with set := g }))
      ∧ (0 < k → ∃ t, exec (.fwSetLimit p (.form n)) s = .next (replied p 0x44#8 .okClamped (u8 k) s t)
        ∧ WarpedTo g (taken p s) t))
    ∧ (∀ b : Bool, ∃ t e q, exec (.fwEnable p (.form (if b then 1 else 0))) s = .next (replied p 0x45#8 .ok [] s t)
      ∧ t = { taken p s with
          set := { s.set with geo := { s.set.geo with fineWarp := b } }, eng := e, pres := q }
      ∧ RebuildAsked s t) := by
  refine ⟨⟨_, command_eq h ?_, rebuildIfWarped_to (taken p s) _⟩, fun n hn => ?_, fun b => ?_⟩
  · rw [fwZeroAll, taken_set]
    rfl
  · intro g k
    have hk : beyondLimit n (taken p s).set.layer = k := by
      rw [taken_set]
      exact beyondLimit_eq (Int.natCast_nonneg n) _
    have happly : applyLimit n (taken p s) = { taken p s with set := g } := by
      rw [applyLimit, taken_set]
      rfl
    refine ⟨fun hzero => command_eq h ?_, fun hpos => ⟨_, command_eq h ?_, rebuildIfWarped_to (taken p s) g⟩⟩
    · rw [fwSetLimit_within hn (hk.trans hzero), happly]
    · rw [fwSetLimit_beyond hn (by rw [hk]; exact hpos), happly, hk]
  · obtain ⟨e, q, hr⟩ := rebuild_frame false (setFineWarp b (taken p s))
    refine ⟨_, e, q, command_eq h (fwEnable_of_flag b _), ?_, ?_⟩
    · rw [hr, setFineWarp, taken_set]
    · exact (rebuild_asked (setFineWarp b (taken p s))).of_eq (taken_eng p s) (taken_pres p s)

/-- Settles O14, by what each command on the layer does. -/
theorem layerCommands : Obligations.LayerCommands := by
  refine fun p s => ⟨layer_edits p s, fun h => ⟨fun j hj => command_eq h ?_, ?_⟩⟩
  · simp only [fwRead, if_pos hj, reply, fwRowData, layerEntry, taken_set, ptBytes]
  · refine command_eq h ?_
    simp only [meshStatus, reply, meshStatusData, taken_set, taken_eng, taken_pres]
    cases s.eng.state <;> rfl

end Sys2Proof.Machine
end

section
/-! The completion of a computation (04 R69 to R71) and the chances to swap (05 R78 to R81). -/

namespace Sys2Proof.Machine

/-! ## The banks -/

@[simp] theorem PerBank.set_set (v : PerBank) (i : BankId) (b c : Bank) : (v.set i b).set i c = v.set i c := by
  cases i <;> rfl

theorem PerBank.set_get (v : PerBank) (i : BankId) : v.set i (v.get i) = v := by cases i <;> rfl

theorem PerBank.setState_same {v : PerBank} {i : BankId} {k : BankState} (h : (v.get i).state = k) :
    v.setState i k = v := by
  subst h
  exact PerBank.set_get v i

@[simp] theorem PerBank.setState_get (v : PerBank) (i : BankId) (k : BankState) :
    (v.setState i k).get i = { v.get i with state := k } := PerBank.get_set_same v i _

@[simp] theorem PerBank.setState_get_other (v : PerBank) (i : BankId) (k : BankState) :
    (v.setState i k).get i.other = v.get i.other := PerBank.get_set_opposite v i _

@[simp] theorem PerBank.setState_get_other' (v : PerBank) (i : BankId) (k : BankState) :
    (v.setState i.other k).get i = v.get i := PerBank.get_set_opposite' v i _

theorem find_none {v : PerBank} {k : BankState} (h : ∀ i, (v.get i).state ≠ k) : v.find k = none := by
  have ha : v.a.state ≠ k := h .a
  have hb : v.b.state ≠ k := h .b
  simp [PerBank.find, ha, hb]

/-- The one bank in a state is found. -/
theorem find_only {v : PerBank} {k : BankState} {i : BankId} (h : (v.get i).state = k) (ho : (v.get i.other).state ≠ k) :
    v.find k = some i := by
  cases i with
  | a => exact if_pos h
  | b => exact (if_neg ho).trans (if_pos h)

theorem both_banks {p : BankId → Prop} {i : BankId} (h : p i) (ho : p i.other) : ∀ j, p j := fun j => by
  rcases i.eq_or_other j with rfl | rfl
  · exact h
  · exact ho

/-! ## Computations -/

theorem bankFreed_quiet {s : State} (h : s.eng.pendingReq = false) : bankFreed s = s := by
  unfold bankFreed
  split
  · rfl
  · simp [h]

theorem startComputation_eq {s : State} {i : BankId} (h : buildBank s.pres.banks = some i) :
    startComputation s = { s with
      pres := { s.pres with
        banks := s.pres.banks.setState i .writing,
        swap := if (s.pres.banks.get i).state = .ready then .none else s.pres.swap },
      eng := { s.eng with state := .computing i (snapshotOf s) } } := by
  simp only [startComputation, h]
  rfl

theorem buildBank_eq (v : PerBank) :
    buildBank v = if v.a.state = .ready then some .a else if v.b.state = .ready then some .b
      else if v.a.state = .empty then some .a else if v.b.state = .empty then some .b else none := by
  by_cases ha : v.a.state = .ready
  · simp [buildBank, PerBank.find, ha]
  · by_cases hb : v.b.state = .ready <;> simp [buildBank, PerBank.find, ha, hb]

theorem buildBank_ready {v : PerBank} {i : BankId} (h : (v.get i).state = .ready) (ho : (v.get i.other).state ≠ .ready) :
    buildBank v = some i := by
  rw [buildBank, find_only h ho]

theorem buildBank_empty {v : PerBank} {i : BankId} (h : (v.get i).state = .empty) (ho : (v.get i.other).state = .live) :
    buildBank v = some i := by
  have hready : v.find .ready = none := find_none (both_banks (i := i) (by simp [h]) (by simp [ho]))
  have hempty : v.find .empty = some i := find_only h (by simp [ho])
  rw [buildBank, hready, hempty]

/-! ## A chance to swap (05 R78 to R80) -/

section
variable {s : State} {i : BankId}

theorem trySwap_without_ready (h : ∀ i, (s.pres.banks.get i).state ≠ .ready) : trySwap s = s := by
  simp only [trySwap, find_none h]

theorem trySwap_deferred (h : (s.pres.banks.get i).state = .ready) (ho : (s.pres.banks.get i.other).state = .reading) :
    trySwap s = { s with pres := { s.pres with swap := .deferred } } := by
  have hfind : s.pres.banks.find .ready = some i := find_only h (by simp [ho])
  simp only [trySwap, hfind, ho]

theorem trySwap_swaps (h : (s.pres.banks.get i).state = .ready)
    (ho : (s.pres.banks.get i.other).state = .live ∨ (s.pres.banks.get i.other).state = .empty) :
    trySwap s = bankFreed { s with pres := swapped i s.pres } := by
  have hfind : s.pres.banks.find .ready = some i := find_only h (by rcases ho with ho | ho <;> simp [ho])
  have hgen : swapTo i s = bankFreed { s with pres := swapped i s.pres } := by
    simp only [swapTo, swapped, PerBank.setState_get_other]
    rcases ho with ho | ho
    · simp only [ho, if_true, PerBank.setState_get_other']
      simp
      rfl
    · have hsame : (s.pres.banks.setState i .live).setState i.other .empty = s.pres.banks.setState i .live :=
        PerBank.setState_same (by simp [ho])
      simp only [ho, hsame, reduceCtorEq, if_false]
      simp
      rfl
  rcases ho with ho | ho <;> simp only [trySwap, hfind, ho, hgen]

/-- A swap with no request that waits. -/
theorem trySwap_now (h : (s.pres.banks.get i).state = .ready)
    (ho : (s.pres.banks.get i.other).state = .live ∨ (s.pres.banks.get i.other).state = .empty)
    (hp : s.eng.pendingReq = false) : trySwap s = { s with pres := swapped i s.pres } := by
  exact (trySwap_swaps h ho).trans (bankFreed_quiet hp)

/-- A swap behind which a waiting request starts in the bank that it frees (04 R72). -/
theorem trySwap_rebuilds (h : (s.pres.banks.get i).state = .ready)
    (ho : (s.pres.banks.get i.other).state = .live ∨ (s.pres.banks.get i.other).state = .empty)
    (hp : s.eng.pendingReq = true) (hidle : s.eng.state = .idle) :
    trySwap s = { s with
      pres := { swapped i s.pres with banks := (swapped i s.pres).banks.setState i.other .writing },
      eng := { s.eng with
        state := .computing i.other (snapshotOf s), pendingReq := false, restarts := 0 } } := by
  have hbuild : buildBank (swapped i s.pres).banks = some i.other :=
    buildBank_empty (by simp [swapped]) (by simp [swapped])
  rw [trySwap_swaps h ho]
  simp only [bankFreed, hidle, hp, if_true]
  rw [startComputation_eq (by exact hbuild)]
  have hempty : ((swapped i s.pres).banks.get i.other).state ≠ .ready := by simp [swapped]
  simp only [hempty, if_false]
  rfl

end

/-! ## The completion of a computation (04 R69 to R71) -/

theorem dirtyRows_get (m n : Mesh) (j : Fin 9) :
    (dirtyRows m (some n)).get j = true ↔ ∃ i, i ≤ 16 ∧ meshAt m i j.val ≠ meshAt n i j.val := by
  have hrow : (dirtyRows m (some n)).get j = rowDiffers m n j.val := by
    simp [dirtyRows, Vector.get_eq_getElem]
  rw [hrow, rowDiffers, List.any_eq_true]
  refine exists_congr fun i => ?_
  rw [List.mem_range, decide_eq_true_eq, Nat.lt_succ_iff]

theorem liveMesh_none {v : PerBank} (h : ∀ i, (v.get i).state ≠ .live ∧ (v.get i).state ≠ .reading) :
    liveMesh v = none := by
  simp [liveMesh, PerBank.live, find_none fun i => (h i).1, find_none fun i => (h i).2]

theorem live_of_live {v : PerBank} {i : BankId} (h : (v.get i).state = .live) (ho : (v.get i.other).state ≠ .live) :
    v.live = some i := by
  simp only [PerBank.live, find_only h ho]

theorem live_of_reading {v : PerBank} {i : BankId} (h : (v.get i).state = .reading)
    (hl : (v.get i.other).state ≠ .live) (hr : (v.get i.other).state ≠ .reading) : v.live = some i := by
  simp only [PerBank.live, find_none (both_banks (p := fun j => (v.get j).state ≠ .live) (by simp [h]) hl), find_only h hr]

/-- The report of a clamp neither reads nor writes the engine and the banks. -/
theorem reportClip_put (w : ClipWatch) (d : Dest) (u : Presentation) (e : Engine) (s : State) :
    reportClip w d { s with pres := u, eng := e } = { reportClip w d s with pres := u, eng := e } := by
  unfold reportClip
  cases s.geo.clip <;> rfl

theorem reportVertexClip_put (u : Presentation) (e : Engine) (s : State) (m : Snapshot) :
    reportVertexClip { s with pres := u, eng := e } m = { reportVertexClip s m with pres := u, eng := e } := by
  unfold reportVertexClip
  cases firstVertexClamp m with
  | none => rfl
  | some t => exact reportClip_put _ _ u e s

theorem snapshotOf_reportVertexClip (s : State) (m : Snapshot) : snapshotOf (reportVertexClip s m) = snapshotOf s := by
  unfold reportVertexClip
  split
  · rfl
  · obtain ⟨k, u, h⟩ := reportClip_frame (.vertex _ _ _) .both s
    rw [h]
    rfl

/-- The bank of a finished computation before it is READY, or starts again. -/
def finishedBank (s : State) (i : BankId) (m : Snapshot) : Bank :=
  { s.pres.banks.get i with
    mesh := meshOf m, width := m.width, height := m.height, dirty := dirtyRows (meshOf m) (liveMesh s.pres.banks) }

/-- The banks once the bank of a finished computation is READY (04 R70; 05 R77). -/
def builtPresentation (s : State) (i : BankId) (m : Snapshot) : Presentation :=
  { s.pres with
    banks := s.pres.banks.set i { finishedBank s i m with
      state := .ready,
      dirty := if s.eng.allDirty then Vector.replicate 9 true else dirtyRows (meshOf m) (liveMesh s.pres.banks) },
    swap := .waiting }

/-- The engine once a computation has finished (04 R70). -/
def doneEngine (s : State) (m : Snapshot) : Engine :=
  { s.eng with state := .idle, restarts := 0, allDirty := false, clampCount := clampCountOf m }

section
variable {s : State} {i : BankId} {m : Snapshot}

theorem exec_completion (h : s.eng.state = .computing i m) :
    exec .computationCompletion s = .next (completeComputation i m s) := by
  change Host.Outcome.next (computationCompleted s) = _
  simp only [computationCompleted, h]

theorem completeComputation_restarts (hp : s.eng.pendingReq = true) (hr : s.eng.restarts < 3) :
    completeComputation i m s = { reportVertexClip s m with
      pres := { s.pres with banks := s.pres.banks.set i (finishedBank s i m) },
      eng := { s.eng with
        state := .computing i (snapshotOf s), pendingReq := false, restarts := s.eng.restarts + 1,
        clampCount := clampCountOf m } } := by
  have hsnap := snapshotOf_reportVertexClip s m
  rw [completeComputation_eq, meshStored, reportVertexClip_put]
  simp only [hp, decide_eq_true hr, Bool.and_self, if_true, restartComputation, beginComputation]
  simp only [snapshotOf] at hsnap ⊢
  simp only [hsnap]
  rfl

/-- A computation that does not start again, from the chance to swap that it gives while video is absent. -/
theorem completeComputation_finishes (h : s.eng.pendingReq = false ∨ 3 ≤ s.eng.restarts) :
    completeComputation i m s =
      let t : State := { reportVertexClip s m with pres := builtPresentation s i m, eng := doneEngine s m }
      if s.pres.video then t else trySwap t := by
  have hno : ¬ (s.eng.pendingReq && decide (s.eng.restarts < 3)) = true := by
    rw [Bool.and_eq_true, decide_eq_true_eq]
    rintro ⟨hp, hr⟩
    rcases h with h | h
    · exact Bool.false_ne_true (h.symm.trans hp)
    · omega
  rw [completeComputation_eq, meshStored, reportVertexClip_put]
  simp only [if_neg hno, finishComputation, PerBank.get_set_same, PerBank.set_set]
  rfl

theorem builtPresentation_ready : ((builtPresentation s i m).banks.get i).state = .ready := by
  simp [builtPresentation]

theorem builtPresentation_other : (builtPresentation s i m).banks.get i.other = s.pres.banks.get i.other :=
  PerBank.get_set_opposite _ _ _

end

/-- The clauses on the completion in COMPUTING, with the lets of the statement unfolded. -/
theorem completion_clauses {s : State} {i : BankId} {m : Snapshot} (h : s.eng.state = .computing i m) :
    (s.eng.pendingReq = true → s.eng.restarts < 3 →
      exec .computationCompletion s = .next { reportVertexClip s m with
        pres := { s.pres with banks := s.pres.banks.set i (finishedBank s i m) },
        eng := { s.eng with
          state := .computing i (snapshotOf s), pendingReq := false, restarts := s.eng.restarts + 1,
          clampCount := clampCountOf m } })
    ∧ ((s.eng.pendingReq = false ∨ 3 ≤ s.eng.restarts) → s.pres.video = true →
      exec .computationCompletion s = .next { reportVertexClip s m with
        pres := builtPresentation s i m, eng := doneEngine s m })
    ∧ (s.pres.video = false →
      (((s.pres.banks.get i.other).state = .empty ∨ (s.pres.banks.get i.other).state = .live) →
        (s.eng.pendingReq = false →
          exec .computationCompletion s = .next { reportVertexClip s m with
            pres := swapped i (builtPresentation s i m), eng := doneEngine s m })
        ∧ (s.eng.pendingReq = true → 3 ≤ s.eng.restarts →
          exec .computationCompletion s = .next { reportVertexClip s m with
            pres := { swapped i (builtPresentation s i m) with
              banks := (swapped i (builtPresentation s i m)).banks.setState i.other .writing },
            eng := { doneEngine s m with state := .computing i.other (snapshotOf s), pendingReq := false } }))
      ∧ ((s.pres.banks.get i.other).state = .reading → (s.eng.pendingReq = false ∨ 3 ≤ s.eng.restarts) →
        exec .computationCompletion s = .next { reportVertexClip s m with
          pres := { builtPresentation s i m with swap := .deferred }, eng := doneEngine s m })) := by
  have hready := builtPresentation_ready (s := s) (i := i) (m := m)
  have hother := builtPresentation_other (s := s) (i := i) (m := m)
  rw [exec_completion h]
  refine ⟨fun hp hr => congrArg _ (completeComputation_restarts hp hr), fun hq hv => ?_,
    fun hv => ⟨fun ho => ⟨fun hp => ?_, fun hp hr => ?_⟩, fun ho hq => ?_⟩⟩
  · rw [completeComputation_finishes hq]
    simp only [hv, if_true]
  · rw [completeComputation_finishes (.inl hp)]
    simp only [hv, Bool.false_eq_true, if_false]
    exact congrArg _ (trySwap_now hready (by rw [hother]; exact ho.symm) hp)
  · have hsnap := snapshotOf_reportVertexClip s m
    rw [completeComputation_finishes (.inr hr)]
    simp only [hv, Bool.false_eq_true, if_false]
    rw [trySwap_rebuilds (by exact hready) (by rw [hother]; exact ho.symm) (by exact hp) rfl, ← hsnap]
    rfl
  · rw [completeComputation_finishes hq]
    simp only [hv, Bool.false_eq_true, if_false]
    exact congrArg _ (trySwap_deferred hready (by rw [hother]; exact ho))

/-- Settles O15, by the ways in which a computation ends. -/
theorem computationCompletion : Obligations.ComputationCompletion := by
  refine ⟨fun m n => ⟨rfl, dirtyRows_get m n⟩, fun v => ⟨liveMesh_none, fun i h hl hr => ?_⟩,
    fun s w d => ⟨rfl, reportClip_latched, reportClip_clear⟩, fun s => ⟨fun h => ?_, fun i m h => ?_⟩⟩
  · rcases h with h | h
    · simp [liveMesh, live_of_live h hl]
    · simp [liveMesh, live_of_reading h hl hr]
  · change Host.Outcome.next (computationCompleted s) = _
    simp only [computationCompleted, h]
  · have hclip : (match firstVertexClamp m with
        | none => s
        | some (x, y, k) => reportClip (.vertex x y k) .both s) = reportVertexClip s m := by
      unfold reportVertexClip
      cases firstVertexClamp m <;> rfl
    intro mesh rows b ready clip done
    have hclip' : clip = reportVertexClip s m := hclip
    rw [hclip']
    exact completion_clauses h

/-! ## The arrivals that give a chance to swap, and the end of a transaction -/

theorem saturatedRows_get (b : Bank) (j : Fin 9) : (saturatedRows b).get j = true ↔ ∃ i, i ≤ 16 ∧
    let x := roundDiv ((meshAt b.mesh i j.val).x - i * b.width) 4
    let y := roundDiv ((meshAt b.mesh i j.val).y - j.val * 2 * b.height) 4
    x < -2048 ∨ 2047 < x ∨ y < -2048 ∨ 2047 < y := by
  have hrow : (saturatedRows b).get j =
      (List.range 17).any fun i => saturates (gridOffset b i j.val).x || saturates (gridOffset b i j.val).y := by
    simp [saturatedRows, Vector.get_eq_getElem]
  rw [hrow, List.any_eq_true]
  refine exists_congr fun i => ?_
  rw [List.mem_range, Nat.lt_succ_iff, Bool.or_eq_true, saturates, saturates, not_within_iff, not_within_iff, or_assoc]
  rfl

/-- FW_ENABLE takes a READY bank back (04 R67; 05 R76). -/
theorem fwEnable_takes_back {p : Port} {s : State} (b : Bool) {i : BankId} (h : canUse p .geometry s)
    (hidle : s.eng.state = .idle) (hp : s.eng.pendingReq = false) (hi : (s.pres.banks.get i).state = .ready)
    (ho : (s.pres.banks.get i.other).state ≠ .ready) :
    let on : State := { taken p s with set := { s.set with geo := { s.set.geo with fineWarp := b } } }
    exec (.fwEnable p (.form (if b then 1 else 0))) s = .next (replied p 0x45#8 .ok [] s { on with
      pres := { s.pres with banks := s.pres.banks.setState i .writing, swap := .none },
      eng := { s.eng with state := .computing i (snapshotOf on) } }) := by
  intro on
  have hon : setFineWarp b (taken p s) = on := by
    rw [setFineWarp, taken_set]
  have hstart : rebuild false on = startComputation on := by
    have he : on.eng = s.eng := taken_eng p s
    simp [rebuild, he, hidle, hp]
  have hbanks : on.pres = s.pres := taken_pres p s
  have heng : on.eng = s.eng := taken_eng p s
  have hbuild : buildBank on.pres.banks = some i := by rw [hbanks]; exact buildBank_ready hi ho
  refine command_eq h ((fwEnable_of_flag b _).trans ?_)
  rw [hon, hstart, startComputation_eq hbuild, hbanks, heng, if_pos hi]
  rfl

section
variable {s : State} {i : BankId}

theorem exec_presVideoWatch (hv : s.pres.video = true) :
    exec .presVideoWatchExpiry s = .next (trySwap { s with pres := { s.pres with video := false } }) :=
  congrArg Host.Outcome.next (if_pos hv)

/-- What a trigger does to the Sampling Unit does not look at the banks. -/
theorem roundTrigger_put (u : Presentation) (s : State) :
    roundTrigger { s with pres := u } = { s with smp := (roundTrigger s).smp, pres := u } := by
  cases hr : s.smp.round <;> simp [roundTrigger, hr]

theorem qualified_put (u : Presentation) (s : State) :
    qualified { s with pres := u } = { s with smp := (qualified s).smp, pres := u } := by
  by_cases hdelay : s.smp.delayRunning = true
  · simp [qualified, hdelay]
  · by_cases hzero : s.set.trigger.delay = 0
    · simp [qualified, hdelay, hzero, roundTrigger_put u s]
    · simp [qualified, hdelay, hzero]

theorem countFrameStart_put (u : Presentation) (s : State) :
    countFrameStart { s with pres := u } = { s with smp := (countFrameStart s).smp, pres := u } := by
  by_cases hfull : s.set.trigger.divider ≤ s.smp.divCount + 1
  · simp [countFrameStart, hfull, qualified_put u { s with smp := { s.smp with divCount := 0 } }]
  · simp [countFrameStart, hfull]

/-- A frame start is counted by the Sampling Unit, whatever the banks hold. -/
theorem frameToSampling_put (u : Presentation) (s : State) :
    frameToSampling { s with pres := u } = { s with smp := (frameToSampling s).smp, pres := u } := by
  cases ht : s.smp.trigState with
  | freeRun => rw [frameToSampling_free (by exact ht), frameToSampling_free ht]
  | syncFallback =>
    rw [frameToSampling_fallback (by exact ht), frameToSampling_fallback ht]
    exact countFrameStart_put u { s with smp := { s.smp with
      video := true, trigState := .syncLocked, periodRunning := false, divCount := 0 } }
  | syncLocked =>
    rw [frameToSampling_locked (by exact ht), frameToSampling_locked ht]
    exact countFrameStart_put u { s with smp := { s.smp with video := true } }

/-- A frame start, from the chance to swap that it gives (05 R79). -/
theorem exec_frameStart_swap (u : Presentation) (hd : s.deaf = false) :
    exec .frameStart { s with pres := u } =
      .next (trySwap { s with smp := (frameToSampling s).smp, pres := { u with video := true } }) := by
  change Host.Outcome.next (frameStart _) = _
  rw [frameStart, if_neg (by exact Bool.eq_false_iff.1 hd), frameToPresentation, frameToSampling_put]

/-- The clauses on a chance to swap, of an arrival that gives it to the state t. -/
theorem chance_clauses {a : Instr} {t : State} (ha : exec a s = .next (trySwap t)) (hb : t.pres.banks = s.pres.banks)
    (he : t.eng = s.eng) (hsnap : snapshotOf t = snapshotOf s) (h : (s.pres.banks.get i).state = .ready) :
    ((s.pres.banks.get i.other).state = .reading →
      exec a s = .next { t with pres := { t.pres with swap := .deferred } })
    ∧ (((s.pres.banks.get i.other).state = .live ∨ (s.pres.banks.get i.other).state = .empty) →
      (s.eng.pendingReq = false → exec a s = .next { t with pres := swapped i t.pres })
      ∧ (s.eng.pendingReq = true → s.eng.state = .idle →
        exec a s = .next { t with
          pres := { swapped i t.pres with banks := (swapped i t.pres).banks.setState i.other .writing },
          eng := { s.eng with state := .computing i.other (snapshotOf s), pendingReq := false, restarts := 0 } })) := by
  rw [← hb] at h ⊢
  refine ⟨fun ho => ?_, fun ho => ⟨fun hp => ?_, fun hp hidle => ?_⟩⟩
  · rw [ha, trySwap_deferred h ho]
  · rw [ha, trySwap_now h ho (he ▸ hp)]
  · rw [ha, trySwap_rebuilds h ho (he ▸ hp) (he ▸ hidle), hsnap, he]

/-- The end of a transaction with no bank READING (05 R84). -/
theorem exec_mcsnRelease_quiet (h : ∀ i, (s.pres.banks.get i).state ≠ .reading) :
    exec .mcsnRelease s = .next { s with pres := { s.pres with trans := .none, miso := [] } } := by
  change Host.Outcome.next (mcsnReleased s) = _
  simp only [mcsnReleased, endRead, find_none h]

/-- The end of a transaction that was reading (05 R80, R81). -/
theorem exec_mcsnRelease_reading (h : (s.pres.banks.get i).state = .reading)
    (ho : (s.pres.banks.get i.other).state ≠ .reading) :
    exec .mcsnRelease s =
      let t : State := { s with pres := { s.pres with
        trans := .none, miso := [], banks := s.pres.banks.setState i .live } }
      .next (if s.pres.video then t else trySwap t) := by
  change Host.Outcome.next (mcsnReleased s) = _
  simp only [mcsnReleased, endRead, find_only h ho]

/-- The clauses on the release of chip select. -/
theorem release_clauses (h : (s.pres.banks.get i).state = .reading) (ho : (s.pres.banks.get i.other).state ≠ .reading) :
    let back : Presentation := { s.pres with
      trans := .none, miso := [], banks := s.pres.banks.setState i .live }
    ((s.pres.video = true ∨ (s.pres.banks.get i.other).state ≠ .ready) →
      exec .mcsnRelease s = .next { s with pres := back })
    ∧ (s.pres.video = false → (s.pres.banks.get i.other).state = .ready → s.eng.pendingReq = false →
      exec .mcsnRelease s = .next { s with pres := swapped i.other back })
    ∧ (s.pres.video = false → (s.pres.banks.get i.other).state = .ready → s.eng.pendingReq = true →
      s.eng.state = .idle →
      exec .mcsnRelease s = .next { s with
        pres := { swapped i.other back with banks := (swapped i.other back).banks.setState i .writing },
        eng := { s.eng with state := .computing i (snapshotOf s), pendingReq := false, restarts := 0 } }) := by
  intro back
  have hlive : (back.banks.get i.other.other).state = .live := by
    rw [BankId.other_other, PerBank.setState_get]
  have hback : back.banks.get i.other = s.pres.banks.get i.other := PerBank.setState_get_other _ _ _
  rw [exec_mcsnRelease_reading h ho]
  refine ⟨fun hq => ?_, fun hv hready hp => ?_, fun hv hready hp hidle => ?_⟩
  · cases hv : s.pres.video with
    | true => rfl
    | false =>
      have hready : (s.pres.banks.get i.other).state ≠ .ready := hq.resolve_left (by simp [hv])
      refine congrArg Host.Outcome.next (trySwap_without_ready (both_banks (i := i) ?_ ?_))
      · simp
      · simpa using hready
  · refine congrArg Host.Outcome.next ((if_neg (by simp [hv])).trans ?_)
    exact trySwap_now (s := { s with pres := back }) (by rw [hback]; exact hready) (.inl hlive) hp
  · refine congrArg Host.Outcome.next ((if_neg (by simp [hv])).trans ?_)
    refine (trySwap_rebuilds (s := { s with pres := back }) (by rw [hback]; exact hready) (.inl hlive) hp hidle).trans ?_
    rw [BankId.other_other]
    rfl

end

/-- Settles O16, by the state in which each arrival gives its chance to swap. -/
theorem swapAndRelease : Obligations.SwapAndRelease := by
  refine ⟨buildBank_eq, fun p s b i h hidle hp hi ho => fwEnable_takes_back b h hidle hp hi ho, saturatedRows_get,
    fun s hv => ⟨fun h => ?_, fun i h => ?_⟩, fun s hd => ⟨(frameToSampling s).smp, fun v h => ?_, fun i h => ?_⟩,
    fun s => ⟨exec_mcsnRelease_quiet, fun i => release_clauses⟩⟩
  · rw [exec_presVideoWatch hv, trySwap_without_ready (by exact h)]
  · obtain ⟨hdeferred, hswap⟩ := chance_clauses (exec_presVideoWatch hv) rfl rfl rfl h
    refine ⟨hdeferred, fun ho => ⟨(hswap ho).1, (hswap ho).2, fun hd hfree hp => ?_⟩⟩
    refine ((chance_clauses (exec_frameStart_swap s.pres hd) rfl rfl rfl h).2 ho).1 hp |>.trans ?_
    rw [frameToSampling_free hfree, ← hv]
  · rw [exec_frameStart_swap _ hd, trySwap_without_ready (by exact h)]
  · exact chance_clauses (exec_frameStart_swap s.pres hd) rfl rfl rfl h

end Sys2Proof.Machine
end

section
/-! The bytes of a reply and its place at the two ports (10 R169, R172, R173; 12, before 12.1, and 12 R191). -/

namespace Sys2Proof.Machine

/-! ## Numbers as bytes -/

/-- Byte k of a two's complement number is that of its residue. -/
theorem ofNat_residue (n : Nat) (i : Int) (k : Nat) :
    BitVec.ofNat 8 ((i % (2 ^ n : Nat)).toNat / 2 ^ k) = BitVec.extractLsb' k 8 (BitVec.ofInt n i) := by
  apply BitVec.eq_of_toNat_eq
  rw [BitVec.extractLsb'_toNat, BitVec.toNat_ofInt, BitVec.toNat_ofNat, Nat.shiftRight_eq_div_pow]

theorem s8_bytes (i : Int) : s8 i = [BitVec.ofInt 8 i] := by
  have h := ofNat_residue 8 i 0
  simp only [pow_zero, Nat.div_one] at h
  rw [s8, u8]
  refine congrArg (· :: []) (h.trans ?_)
  apply BitVec.eq_of_toNat_eq
  simp [BitVec.extractLsb'_toNat]

theorem s16_bytes (i : Int) :
    s16 i = [BitVec.extractLsb' 8 8 (BitVec.ofInt 16 i), BitVec.extractLsb' 0 8 (BitVec.ofInt 16 i)] := by
  have h1 := ofNat_residue 16 i 8
  have h0 := ofNat_residue 16 i 0
  simp only [pow_zero, Nat.div_one] at h0
  rw [← h1, ← h0]
  rfl

theorem s24_bytes (i : Int) :
    s24 i = [BitVec.extractLsb' 16 8 (BitVec.ofInt 24 i), BitVec.extractLsb' 8 8 (BitVec.ofInt 24 i),
      BitVec.extractLsb' 0 8 (BitVec.ofInt 24 i)] := by
  have h2 := ofNat_residue 24 i 16
  have h1 := ofNat_residue 24 i 8
  have h0 := ofNat_residue 24 i 0
  simp only [pow_zero, Nat.div_one] at h0
  rw [← h2, ← h1, ← h0]
  rfl

/-! ## Sets as masks -/

theorem testBit_cons_bit (b : Bool) (m k : Nat) :
    (2 * m + (if b then 1 else 0)).testBit k = if k = 0 then b else m.testBit (k - 1) := by
  cases k with
  | zero => cases b <;> simp <;> omega
  | succ k =>
    have hhalf : (2 * m + (if b then 1 else 0)) / 2 = m := by split <;> omega
    rw [Nat.testBit_add_one, hhalf]
    simp

/-- Bit k of the mask of a list of flags is flag k. -/
theorem testBit_maskFold (l : List Bool) (k : Nat) :
    (l.foldr (fun (b : Bool) m => 2 * m + (if b then 1 else 0)) 0).testBit k = l[k]?.getD false := by
  induction l generalizing k with
  | nil => simp
  | cons b l ih =>
    rw [List.foldr_cons, testBit_cons_bit]
    cases k with
    | zero => rfl
    | succ k => simpa using ih k

theorem testBit_maskOf {n : Nat} (v : Vector Bool n) (k : Nat) : (maskOf v).testBit k = v[k]?.getD false := by
  rw [maskOf, testBit_maskFold, Vector.getElem?_toList]

/-- A sum of powers of two, over a list in the order of the exponents, has its bits at the exponents. -/
theorem testBit_powers {α : Type} (c : α → Nat) : ∀ {l : List α}, l.Pairwise (fun a b => c a < c b) →
    ∀ n, (∀ a ∈ l, n ≤ c a) → ∃ q, l.foldr (fun a m => m + 2 ^ c a) 0 = 2 ^ n * q
      ∧ ∀ k, (l.foldr (fun a m => m + 2 ^ c a) 0).testBit k = l.any fun a => decide (c a = k)
  | [], _, n, _ => ⟨0, by simp, by simp⟩
  | a :: l, hl, n, hn => by
    obtain ⟨ha, htail⟩ := List.pairwise_cons.1 hl
    obtain ⟨q, hq, hbits⟩ := testBit_powers c htail (c a + 1) fun b hb => ha b hb
    have hpow : 2 ^ c a < 2 ^ (c a + 1) := Nat.pow_lt_pow_right (by decide) (by omega)
    refine ⟨2 ^ (c a - n) * (2 * q + 1), ?_, fun k => ?_⟩
    · have hna := hn a List.mem_cons_self
      rw [List.foldr_cons, hq, ← mul_assoc, ← pow_add, Nat.add_sub_cancel' hna, pow_succ]
      ring
    · rw [List.foldr_cons, List.any_cons, ← hbits k, hq, Nat.testBit_two_pow_mul_add _ hpow, Nat.testBit_two_pow_mul,
        Nat.testBit_two_pow]
      by_cases hk : k < c a + 1
      · have hnot : ¬ c a < k := by omega
        simp [hk, hnot]
      · have hne : c a ≠ k := by omega
        have hle : c a + 1 ≤ k := by omega
        simp [hk, hne, hle]

theorem eventCode_pos (k : EventKind) : 1 ≤ k.code := by cases k <;> decide

theorem eventCode_inj {k k' : EventKind} (h : k.code - 1 = k'.code - 1) : k = k' := by
  cases k <;> cases k' <;> first | rfl | exact absurd h (by decide)

theorem mem_eventKinds (k : EventKind) : k ∈ EventKind.all := by cases k <;> decide

theorem testBit_eventMaskOf (l : List EventKind) (k : EventKind) :
    (eventMaskOf l).testBit (k.code - 1) = l.contains k := by
  have hsorted : (EventKind.all.filter fun k => l.contains k).Pairwise fun a b => a.code - 1 < b.code - 1 :=
    List.Pairwise.filter _ (by decide)
  obtain ⟨-, -, hbits⟩ := testBit_powers (fun k : EventKind => k.code - 1) hsorted 0 fun _ _ => Nat.zero_le _
  rw [eventMaskOf, hbits, Bool.eq_iff_iff, List.any_eq_true]
  constructor
  · rintro ⟨k', hk', he⟩
    obtain rfl := eventCode_inj (of_decide_eq_true he)
    exact (List.mem_filter.1 hk').2
  · exact fun h => ⟨k, List.mem_filter.2 ⟨mem_eventKinds k, h⟩, decide_eq_true rfl⟩

theorem mem_eventsNamed (m : Nat) (k : EventKind) : k ∈ eventsNamed m ↔ m.testBit (k.code - 1) = true :=
  List.mem_filter.trans (and_iff_right (mem_eventKinds k))

theorem axesOfMask_axesMask (v : PerAxis Bool) (x : Axis) :
    (axesOfMask (axesMask v)).get x = v.get x ∧ axesMask v < 16 := by
  obtain ⟨a, b, c, d⟩ := v
  cases x <;> revert a b c d <;> decide

theorem ofMask_mask (r : Rights) : Rights.ofMask r.mask = r ∧ r.mask < 32 := by
  obtain ⟨a, b, c, d, e⟩ := r
  revert a b c d e
  decide

theorem axisOf_eq (n : Nat) : axisOf n = [Axis.shiftH, .shiftV, .zoom, .focus][n]? := by
  match n with
  | 0 | 1 | 2 | 3 => rfl
  | n + 4 => rfl

theorem fanOf_eq (n : Nat) : fanOf n = [Fan.ls, .oe, .ex][n]? := by
  match n with
  | 0 | 1 | 2 => rfl
  | n + 3 => rfl

/-! ## The place of a reply -/

theorem join_of_room {u : PortUnit} (f : TxFrame) (h : u.tx.length < 4) : u.join f = { u with tx := u.tx ++ [f] } :=
  if_pos h

theorem placeB_of_room (l : List Byte) {t : State} (h : t.port.tx.length < 4) :
    placeB l t = { t with port := { t.port with tx := t.port.tx ++ [.response l false] } } := by
  simp only [placeB, if_pos h, join_of_room _ h]

/-- A waiting notice gives way to a response for which there is no room (log 6). -/
theorem placeB_over_notice (l : List Byte) {t : State} (h : t.port.tx.length = 4)
    (hn : ∃ f ∈ t.port.tx, f.waitingNotice = true) :
    placeB l t = { t with port := { t.port with
      tx := (t.port.tx.filter fun f => !f.waitingNotice) ++ [.response l false], owed := true } } := by
  obtain ⟨f, hf, hw⟩ := hn
  have hany : t.port.tx.any TxFrame.waitingNotice = true := List.any_eq_true.2 ⟨f, hf, hw⟩
  have hless : (t.port.tx.filter fun f => !f.waitingNotice).length < 4 := by
    rw [← h]
    exact List.length_filter_lt_length_iff_exists.2 ⟨f, hf, by simp [hw]⟩
  have hno : ¬ t.port.tx.length < 4 := by omega
  simp only [placeB, if_neg hno, hany, if_true]
  rw [join_of_room _ (by exact hless)]

/-! ## The response buffer is written by replies alone -/

theorem judgeNotice_bufA (b : Bool) (u : PortUnit) : (u.judgeNotice b).bufA = u.bufA := by
  unfold PortUnit.judgeNotice PortUnit.oweNotice
  split
  · rfl
  · split
    · split
      · rfl
      · split <;> rfl
    · rfl

theorem changeEvents_bufA {f : PortUnit → PortUnit} {u : PortUnit} (h : (f u).bufA = u.bufA) :
    (u.changeEvents f).bufA = u.bufA := (judgeNotice_bufA _ _).trans h

theorem raise_bufA (d : Dest) (k : EventKind) (u : PortUnit) : (u.raise d k).bufA = u.bufA := by
  refine changeEvents_bufA ?_
  rcases d with (_ | _) | _ <;> rfl

theorem compose_bufA (g : GeoRecord) (d : Dest) (s : State) : (compose g d s).1.port.bufA = s.port.bufA := by
  have hclip : ∀ c, (reportCornerClip c d s).port.bufA = s.port.bufA := fun c => by
    unfold reportCornerClip
    split
    · rfl
    · unfold reportClip
      split
      · exact raise_bufA _ _ _
      · rfl
  unfold compose
  dsimp only
  split
  · unfold acceptComposition
    obtain ⟨e, q, h⟩ := rebuild_frame false { reportCornerClip (candidate g s) d s with
      geo := { (reportCornerClip (candidate g s) d s).geo with
        corners := (candidate g s).corners, clamped := (candidate g s).clamp.isSome, inset := (candidate g s).inset,
        held := false },
      att := { (reportCornerClip (candidate g s) d s).att with refused := none },
      set := { (reportCornerClip (candidate g s) d s).set with geo := g } }
    rw [h]
    exact hclip _
  · exact hclip _

theorem Moves.bufA {s t : State} (h : Moves s t) : t.port.bufA = s.port.bufA := by
  refine h.keeps (P := fun u => u.port.bufA = s.port.bufA) (fun u v hf _ _ _ hu => ?_) (fun d k u hu => ?_)
    (fun g d u _ hu => (compose_bufA g d u).trans hu) (fun force u hu => ?_) rfl
  · have hport : v.port = u.port := hf.same (p := .port) (by simp [writeParts])
    rw [hport, hu]
  · exact (raise_bufA d k u.port).trans hu
  · obtain ⟨e, q, hr⟩ := rebuild_frame force u
    rw [hr]
    exact hu

/-- No unit writes the response buffer. -/
theorem answerOf_bufA (i : Instr) (s : State) : (answerOf i s).st.port.bufA = s.port.bufA := by
  by_cases hown : ownEffect i = false
  · exact (answerOf_moves i s hown).bufA
  · cases i <;> (try exact absurd rfl hown)
    case readEvents p v =>
      cases v with
      | misfit => rfl
      | form a => exact changeEvents_bufA rfl
    case setEventMask p v =>
      cases v with
      | misfit => rfl
      | form m =>
        change (setEventMask p m s).st.port.bufA = _
        unfold setEventMask
        split
        · exact changeEvents_bufA rfl
        · rfl
    all_goals rfl

theorem checked_bufA {α : Type} (p : Port) (need : Need) (v : Params α) (unit : α → State → Answer) (s : State)
    (h : ∀ a, (unit a s).st.port.bufA = s.port.bufA) : (checked p need v unit s).st.port.bufA = s.port.bufA := by
  unfold checked
  split
  · rfl
  · split
    · exact h _
    · rfl

/-- What Port A is answered. -/
theorem answerTo_a {id : Byte} {unit : State → Answer} {s : State} (hd : s.deaf = false)
    (hu : (unit s).st.port.bufA = s.port.bufA) :
    (answerTo .a id unit s).port.bufA.seq = (s.port.bufA.seq + 1) % 256
      ∧ (answerTo .a id unit s).port.bufA.id = some id := by
  simp [answerTo, hd, placeA, hu]

/-- Every command of Port A but RESET is answered. -/
theorem portA_answered (i : Instr) (c : Control) (s : State) (hc : controlOf i = some c) (hp : c.port = .a)
    (hd : s.deaf = false) (hr : i ≠ .reset .a (.form ())) :
    ∃ t, exec i s = .next t ∧ t.port.bufA.seq = (s.port.bufA.seq + 1) % 256 ∧ t.port.bufA.id = some c.id := by
  by_cases hreset : ∃ p v, i = .reset p v
  · obtain ⟨p, v, rfl⟩ := hreset
    cases hc
    obtain rfl : p = .a := hp
    cases v with
    | form u => exact absurd rfl hr
    | misfit => exact ⟨_, rfl, answerTo_a hd rfl⟩
  · refine ⟨_, exec_eq_answerTo hc (fun p v e => hreset ⟨p, v, e⟩) s, ?_⟩
    rw [hp]
    exact answerTo_a hd (checked_bufA _ _ _ _ _ fun _ => answerOf_bufA i s)

/-- The bytes that a read of the System Port returns (10 R169). -/
theorem systemRead_bytes (s : State) (n : Nat) (h : s.deaf = false) :
    ∃ l, systemRead n s = some l ∧ l.length = n ∧ ∀ k, k < n →
      l[k]? = if k < s.port.bufA.bytes.length then s.port.bufA.bytes[k]? else some 0xFF#8 := by
  refine ⟨(s.port.bufA.bytes ++ List.replicate n 0xFF#8).take n, ?_, ?_, fun k hk => ?_⟩
  · simp [systemRead, h]
  · simp
  · rw [List.getElem?_take_of_lt hk, List.getElem?_append]
    split
    · rfl
    · rw [List.getElem?_replicate, if_pos (by omega)]

/-- Settles O60, by the bytes of each field and the place of a reply. -/
theorem replies : Obligations.Replies := by
  refine ⟨⟨fun _ => ⟨rfl, rfl, rfl, rfl⟩, fun i => ⟨s8_bytes i, s16_bytes i, s24_bytes i⟩, rfl, rfl, fun _ => rfl, rfl,
    fun _ => rfl, rfl, fun _ => testBit_maskOf, axesOfMask_axesMask, testBit_eventMaskOf, ofMask_mask,
    fun n => ⟨axisOf_eq n, fanOf_eq n⟩, fun m => ⟨⟨rfl, rfl, rfl⟩, mem_eventsNamed m⟩⟩, ?_, fun id k d s t => ?_,
    fun s n => ⟨fun h => ?_, systemRead_bytes s n⟩, portA_answered⟩
  · refine ⟨rfl, rfl, rfl, rfl, rfl, rfl, rfl, rfl, rfl, rfl, rfl, rfl, rfl, rfl, rfl, rfl, rfl, rfl, fun _ => rfl, rfl, rfl,
      rfl, rfl, rfl, rfl⟩
  · exact ⟨rfl, placeB_of_room _, placeB_over_notice _⟩
  · simp [systemRead, h]

end Sys2Proof.Machine
end

section
/-! The Mesh Port (05, sections 5.3 to 5.6; 12 R192). -/

namespace Sys2Proof.Machine

/-! ## The bytes of vertices, rows and row sets -/

theorem vertexBytes_wide (b : Bank) (i j : Nat) :
    vertexBytes .wide b i j =
      [BitVec.extractLsb' 16 8 (BitVec.ofInt 24 (meshAt b.mesh i j).x),
        BitVec.extractLsb' 8 8 (BitVec.ofInt 24 (meshAt b.mesh i j).x),
        BitVec.extractLsb' 0 8 (BitVec.ofInt 24 (meshAt b.mesh i j).x)]
      ++ [BitVec.extractLsb' 16 8 (BitVec.ofInt 24 (meshAt b.mesh i j).y),
        BitVec.extractLsb' 8 8 (BitVec.ofInt 24 (meshAt b.mesh i j).y),
        BitVec.extractLsb' 0 8 (BitVec.ofInt 24 (meshAt b.mesh i j).y)] := by
  rw [vertexBytes, s24_bytes, s24_bytes]

theorem length_vertexBytes (f : Format) (b : Bank) (i j : Nat) :
    (vertexBytes f b i j).length = match f with
      | .wide => 6
      | .narrow => 3 := by
  cases f <;> rfl

theorem length_rowBytes (f : Format) (b : Bank) (j : Nat) :
    (rowBytes f b j).length = match f with
      | .wide => 103
      | .narrow => 52 := by
  cases f <;> simp [rowBytes, u8, List.length_flatMap, length_vertexBytes]

theorem vertexBytes_wide_worked {b : Bank} {i j : Nat} (h : meshAt b.mesh i j = ⟨30720, 16529⟩) :
    vertexBytes .wide b i j = [0x00#8, 0x78#8, 0x00#8, 0x00#8, 0x40#8, 0x91#8] := by
  simp only [vertexBytes, h]
  decide

/-- The two bytes of a set of rows: row 8 in the first, rows 0 to 7 in the second (12 R192). -/
theorem u16_rowMask (r : RowSet) : u16 (rowMask r) =
    [(if r.get 8 then 1#8 else 0#8),
      BitVec.ofBoolListLE [r.get 0, r.get 1, r.get 2, r.get 3, r.get 4, r.get 5, r.get 6, r.get 7]] := by
  have hget : ∀ k : Fin 9, r[k.val]?.getD false = r.get k := fun k => by
    rw [Vector.getElem?_eq_getElem k.isLt]
    rfl
  have hbit : ∀ k : Nat, (rowMask r).testBit k = if h : k < 9 then r.get ⟨k, h⟩ else false := fun k => by
    rw [rowMask, testBit_maskOf]
    split
    · rename_i h
      exact hget ⟨k, h⟩
    · rename_i h
      rw [Vector.getElem?_eq_none (by omega)]
      rfl
  have hlow : BitVec.ofNat 8 (rowMask r) =
      BitVec.ofBoolListLE [r.get 0, r.get 1, r.get 2, r.get 3, r.get 4, r.get 5, r.get 6, r.get 7] := by
    refine BitVec.eq_of_getLsbD_eq fun k hk => ?_
    rw [BitVec.getLsbD_ofNat, BitVec.getLsbD_ofBoolListLE, hbit]
    match k, hk with
    | 0, _ | 1, _ | 2, _ | 3, _ | 4, _ | 5, _ | 6, _ | 7, _ => simp <;> rfl
  have hhigh : BitVec.ofNat 8 (rowMask r / 256) = if r.get 8 then 1#8 else 0#8 := by
    refine BitVec.eq_of_getLsbD_eq fun k hk => ?_
    have hdiv : (rowMask r / 256).testBit k = (rowMask r).testBit (8 + k) := by
      rw [show (256 : Nat) = 2 ^ 8 from rfl, Nat.testBit_div_two_pow, Nat.add_comm]
    rw [BitVec.getLsbD_ofNat, hdiv, hbit]
    match k, hk with
    | 0, _ => cases h : r.get 8 <;> simp <;> exact h
    | k + 1, hk =>
      have hge : ¬ 8 + (k + 1) < 9 := by omega
      cases r.get 8 <;> simp [hge]
  rw [u16, hlow, hhigh]

/-- The code of the live bank (12 R192). -/
theorem u8_liveCode (v : PerBank) :
    let live (k : BankId) : Prop :=
      (v.get k).state = .live ∨ (v.get k).state = .reading ∧ (v.get k.other).state ≠ .live
    u8 (liveCode v) = [if live .a then 0x00#8 else if live .b then 0x01#8 else 0xFF#8] := by
  by_cases ha : v.a.state = .live
  · simp [liveCode, PerBank.live, PerBank.find, PerBank.get, BankId.code, u8, ha]
  · by_cases hb : v.b.state = .live
    · simp [liveCode, PerBank.live, PerBank.find, PerBank.get, BankId.other, BankId.code, u8, ha, hb]
    · by_cases ha' : v.a.state = .reading
      · simp [liveCode, PerBank.live, PerBank.find, PerBank.get, BankId.other, BankId.code, u8, ha', hb]
      · by_cases hb' : v.b.state = .reading <;>
          simp [liveCode, PerBank.live, PerBank.find, PerBank.get, BankId.other, BankId.code, u8, ha, ha', hb, hb']

/-! ## What the bytes of a transaction spell (12 R192) -/

theorem meshCommandOf_unknown {b : Byte} (l : List Byte) (h1 : b ≠ 0x01#8) (h2 : b ≠ 0x02#8) (h3 : b ≠ 0x03#8) :
    meshCommandOf (b :: l) = some (.mpUnknownCommand b) := by
  simp [meshCommandOf, h1, h2, h3]

theorem meshCommandOf_cut {l : List Byte} (h : l.length < 2) :
    meshCommandOf (0x02#8 :: l) = some (.mpReadRows .misfit) := by
  match l, h with
  | [], _ | [_], _ => rfl

/-! ## Commands that are heard, and those that are not -/

section
variable {s : State}

theorem meshHeard_fresh (hh : s.held = false) (h : s.pres.trans = .none ∨ s.pres.trans = .selected) : meshHeard s = true := by
  rcases h with h | h <;> simp [meshHeard, hh, h, Trans.fresh]

theorem meshHeard_spent (h : s.pres.trans = .taken ∨ s.pres.trans = .ignored) : meshHeard s = false := by
  rcases h with h | h <;> simp [meshHeard, h, Trans.fresh]

theorem meshHeard_held (h : s.held = true) : meshHeard s = false := by simp [meshHeard, h]

/-- A command that is not heard is ignored, whichever it is (05 R84, R91). -/
theorem mesh_unheard (h : meshHeard s = false) :
    exec .mpStatus s = .next (ignoreMesh s) ∧ (∀ v, exec (.mpReadRows v) s = .next (ignoreMesh s))
      ∧ (∀ v, exec (.mpSetFormat v) s = .next (ignoreMesh s))
      ∧ ∀ b, exec (.mpUnknownCommand b) s = .next (ignoreMesh s) := by
  refine ⟨congrArg Host.Outcome.next ?_, fun v => congrArg Host.Outcome.next ?_,
    fun v => congrArg Host.Outcome.next ?_, fun b => congrArg Host.Outcome.next ?_⟩
  · simp [mpStatus, h]
  · simp [mpReadRows, h]
  · simp [mpSetFormat, h]
  · simp [mpUnknown, h]

theorem ignoreMesh_free (h : s.held = false) : ignoreMesh s = s := by simp [ignoreMesh, h]

theorem ignoreMesh_held (h : s.held = true) :
    ignoreMesh s = { s with pres := { s.pres with
      trans := if s.pres.trans = .none ∨ s.pres.trans = .selected then .ignored else s.pres.trans } } := by
  cases ht : s.pres.trans <;> simp [ignoreMesh, h, ht, Trans.fresh] <;> rw [← ht]

/-- MP_STATUS (05 R85; 12 R192). -/
theorem exec_mpStatus (h : meshHeard s = true) :
    exec .mpStatus s = .next { s with pres := { s.pres with
      mattn := false, trans := .taken, miso := 0xFF#8 :: mpStatusBytes s } } :=
  congrArg Host.Outcome.next (if_pos h)

theorem mpStatusBytes_eq (s : State) :
    let rows (r : RowSet) : List Byte :=
      [(if r.get 8 then 1#8 else 0#8),
        BitVec.ofBoolListLE [r.get 0, r.get 1, r.get 2, r.get 3, r.get 4, r.get 5, r.get 6, r.get 7]]
    let live (k : BankId) : Prop :=
      (s.pres.banks.get k).state = .live ∨ (s.pres.banks.get k).state = .reading ∧ (s.pres.banks.get k.other).state ≠ .live
    let bank : Byte := if live .a then 0x00#8 else if live .b then 0x01#8 else 0xFF#8
    mpStatusBytes s = [0x00#8, bank] ++ u16 s.pres.generation ++ rows s.pres.reported
      ++ [(match s.pres.presented with | .wide => 0#8 | .narrow => 1#8)
            + (match s.pres.selected with | .wide => 0#8 | .narrow => 2#8)]
      ++ rows s.pres.saturated
      ++ [(match s.eng.state with | .idle => 0#8 | .computing _ _ => 1#8),
          (match s.pres.swap with | .none => 0#8 | .waiting => 1#8 | .deferred => 2#8),
          (if s.pres.video then 1#8 else 0#8)] := by
  intro rows live bank
  have hformat : u8 (formatBits s.pres) = [(match s.pres.presented with | .wide => 0#8 | .narrow => 1#8)
      + (match s.pres.selected with | .wide => 0#8 | .narrow => 2#8)] := by
    cases hp : s.pres.presented <;> cases hs : s.pres.selected <;> simp [formatBits, hp, hs, Format.code, u8]
  have hengine : u8 s.eng.state.code = [match s.eng.state with | .idle => 0#8 | .computing _ _ => 1#8] := by
    cases s.eng.state <;> rfl
  have hswap : u8 s.pres.swap.code = [match s.pres.swap with | .none => 0#8 | .waiting => 1#8 | .deferred => 2#8] := by
    cases s.pres.swap <;> rfl
  have hvideo : flag s.pres.video = [if s.pres.video then 1#8 else 0#8] := by
    cases s.pres.video <;> rfl
  rw [mpStatusBytes, u8_liveCode, u16_rowMask, u16_rowMask, hformat, hengine, hswap, hvideo]
  rfl

/-- MP_READ_ROWS (05 R81, R86). -/
theorem exec_mpReadRows (v : Params ReadArgs) (h : meshHeard s = true) :
    exec (.mpReadRows v) s = .next (match v with
      | .misfit => takeMesh 0 [] (beginRead s)
      | .form a => takeMesh 3 (readReply s.pres.banks.live a (beginRead s)) (beginRead s)) := by
  refine congrArg Host.Outcome.next ((if_pos h).trans ?_)
  cases v <;> rfl

theorem beginRead_none (h : ∀ i, (s.pres.banks.get i).state ≠ .live) : beginRead s = s := by
  simp only [beginRead, find_none h]

theorem beginRead_live {i : BankId} (h : (s.pres.banks.get i).state = .live) (ho : (s.pres.banks.get i.other).state ≠ .live) :
    beginRead s = { s with pres := { s.pres with banks := s.pres.banks.setState i .reading } } := by
  simp only [beginRead, find_only h ho]

theorem live_none {v : PerBank} (h : ∀ i, (v.get i).state ≠ .live ∧ (v.get i).state ≠ .reading) : v.live = none := by
  simp only [PerBank.live, find_none fun i => (h i).1, find_none fun i => (h i).2]

theorem readReply_refused {i : BankId} {a : ReadArgs} (h : 8 < a.start ∨ a.count = 0 ∨ 9 < a.count) :
    readReply (some i) a s = u8 Status.range.code := if_neg (by omega)

theorem readReply_served {i : BankId} {a : ReadArgs} (h1 : a.start ≤ 8) (h2 : 1 ≤ a.count) (h3 : a.count ≤ 9) :
    readReply (some i) a s = u8 Status.ok.code ++ readHeader i a s
      ++ (List.range (rowsServed a)).flatMap fun k => rowBytes s.pres.presented (s.pres.banks.get i) (a.start + k) :=
  if_pos ⟨h1, h2, h3⟩

end

/-- A bank's rows do not depend on its state. -/
theorem rowBytes_setState (f : Format) (b : Bank) (k : BankState) (j : Nat) :
    rowBytes f { b with state := k } j = rowBytes f b j := by
  cases f <;> rfl

/-- The clauses on a read with a live bank (05 R86). -/
theorem read_clauses {s : State} (hm : meshHeard s = true) (i : BankId) (h : (s.pres.banks.get i).state = .live)
    (ho : (s.pres.banks.get i.other).state ≠ .live) :
    let read : Presentation := { s.pres with banks := s.pres.banks.setState i .reading, trans := .taken }
    (∀ a : ReadArgs, a.start ≤ 8 → 1 ≤ a.count → a.count ≤ 9 →
      let n := min a.count (9 - a.start)
      exec (.mpReadRows (.form a)) s = .next { s with pres := { read with
        miso := [0xFF#8, 0xFF#8, 0xFF#8, 0x00#8] ++ (u8 i.code ++ u16 s.pres.generation ++ u8 s.pres.presented.code ++ u8 a.start ++ u8 n)
          ++ (List.range n).flatMap fun k => rowBytes s.pres.presented (s.pres.banks.get i) (a.start + k) } })
    ∧ (∀ a : ReadArgs, (8 < a.start ∨ a.count = 0 ∨ 9 < a.count) →
      exec (.mpReadRows (.form a)) s =
        .next { s with pres := { read with miso := [0xFF#8, 0xFF#8, 0xFF#8, 0x04#8] } })
    ∧ exec (.mpReadRows .misfit) s = .next { s with pres := { read with miso := [] } } := by
  intro read
  refine ⟨fun a h1 h2 h3 => ?_, fun a ha => ?_, ?_⟩
  · rw [exec_mpReadRows _ hm, live_of_live h ho]
    dsimp only
    rw [readReply_served h1 h2 h3, beginRead_live h ho]
    simp only [takeMesh, PerBank.setState_get, rowBytes_setState]
    rfl
  · rw [exec_mpReadRows _ hm, live_of_live h ho]
    dsimp only
    rw [readReply_refused ha, beginRead_live h ho]
    rfl
  · rw [exec_mpReadRows _ hm, beginRead_live h ho]
    rfl

/-! ## MP_SET_FORMAT (05 R87) -/

section
variable {s : State}

/-- The selected format after MP_SET_FORMAT. -/
def formatOf (b : Bool) : Format := if b then .narrow else .wide

theorem exec_mpSetFormat (b : Bool) (h : meshHeard s = true) :
    exec (.mpSetFormat (.form (if b then 1 else 0))) s =
      .next (takeMesh 2 (u8 Status.ok.code) (selectFormat (formatOf b) s)) := by
  refine congrArg Host.Outcome.next ((if_pos h).trans ?_)
  cases b <;> rfl

theorem selectFormat_deaf (f : Format) (h : s.deaf = true) :
    selectFormat f s = { s with pres := { s.pres with selected := f }, eng := { s.eng with allDirty := true } } :=
  if_pos h

theorem selectFormat_heard (f : Format) (h : s.deaf = false) :
    selectFormat f s = rebuild true { s with pres := { s.pres with selected := f } } := if_neg (Bool.eq_false_iff.1 h)

theorem rebuild_force_computing {i : BankId} {m : Snapshot} (h : s.eng.state = .computing i m) :
    rebuild true s = { s with eng := { s.eng with pendingReq := true, allDirty := true } } := by
  simp [rebuild, h]

theorem rebuild_force_waiting {i : BankId} (h : s.eng.state = .idle) (hp : s.eng.pendingReq = true)
    (hi : s.pres.banks.find .ready = some i) :
    rebuild true s = { s with
      pres := { s.pres with banks := s.pres.banks.set i { s.pres.banks.get i with dirty := allRows } },
      eng := { s.eng with allDirty := false } } := by
  simp [rebuild, h, hp, forceWaiting, hi]

theorem rebuild_force_starts {i : BankId} (h : s.eng.state = .idle) (hp : s.eng.pendingReq = false)
    (hi : buildBank s.pres.banks = some i) :
    rebuild true s = { s with
      pres := { s.pres with
        banks := s.pres.banks.setState i .writing,
        swap := if (s.pres.banks.get i).state = .ready then .none else s.pres.swap },
      eng := { s.eng with state := .computing i (snapshotOf s), allDirty := true } } := by
  simp only [rebuild, if_true, h, hp, Bool.false_eq_true, if_false]
  rw [startComputation_eq (by exact hi)]
  rfl

theorem deaf_of_loading (hl : s.store.state = .loading) : s.deaf = true := by simp [State.deaf, hl]

theorem not_deaf_of_not_loading (hh : s.held = false) (hl : s.store.state ≠ .loading) : s.deaf = false := by
  simp [State.deaf, hh, hl]

/-- The clauses on a format that is one (05 R87; 04 R66, R67, R70). -/
theorem setFormat_clauses (b : Bool) (hh : s.held = false) (hm : meshHeard s = true) :
    let u : Presentation := { s.pres with
      selected := if b then .narrow else .wide, trans := .taken, miso := [0xFF#8, 0xFF#8, 0x00#8] }
    let c : Instr := .mpSetFormat (.form (if b then 1 else 0))
    (s.store.state = .loading →
      exec c s = .next { s with pres := u, eng := { s.eng with allDirty := true } })
    ∧ (s.store.state ≠ .loading →
    (∀ i m, s.eng.state = .computing i m →
      exec c s = .next { s with pres := u, eng := { s.eng with pendingReq := true, allDirty := true } })
    ∧ (∀ i : BankId, s.eng.state = .idle → s.eng.pendingReq = true → s.pres.banks.find .ready = some i →
      exec c s = .next { s with
        pres := { u with banks := s.pres.banks.set i { s.pres.banks.get i with dirty := Vector.replicate 9 true } },
        eng := { s.eng with allDirty := false } })
    ∧ (∀ i : BankId, s.eng.state = .idle → s.eng.pendingReq = false → buildBank s.pres.banks = some i →
      exec c s = .next { s with
        pres := { u with
          banks := s.pres.banks.setState i .writing,
          swap := if (s.pres.banks.get i).state = .ready then .none else s.pres.swap },
        eng := { s.eng with state := .computing i (snapshotOf s), allDirty := true } })) := by
  intro u c
  have hexec := exec_mpSetFormat b hm
  refine ⟨fun hl => ?_, fun hl => ?_⟩
  · rw [hexec, selectFormat_deaf _ (deaf_of_loading hl)]
    rfl
  · rw [selectFormat_heard _ (not_deaf_of_not_loading hh hl)] at hexec
    refine ⟨fun i m h => ?_, fun i h hp hi => ?_, fun i h hp hi => ?_⟩
    · rw [hexec, rebuild_force_computing (by exact h)]
      rfl
    · rw [hexec, rebuild_force_waiting (by exact h) (by exact hp) (by exact hi)]
      rfl
    · rw [hexec, rebuild_force_starts (by exact h) (by exact hp) (by exact hi)]
      rfl

theorem exec_mpSetFormat_unknown {n : Nat} (hn : 2 ≤ n) (h : meshHeard s = true) :
    exec (.mpSetFormat (.form n)) s =
      .next { s with pres := { s.pres with trans := .taken, miso := [0xFF#8, 0xFF#8, 0x04#8] } } := by
  refine congrArg Host.Outcome.next ((if_pos h).trans ?_)
  match n, hn with
  | _ + 2, _ => rfl

end

/-- Settles O17, by what is heard of a transaction and what each command does. -/
theorem meshPortCommands : Obligations.MeshPortCommands := by
  refine ⟨⟨rfl, fun _ => rfl, fun _ _ _ => rfl, fun l => meshCommandOf_cut, fun _ _ => rfl, rfl,
    fun b l => meshCommandOf_unknown l⟩,
    fun f b i j => ⟨vertexBytes_wide b i j, rfl, length_rowBytes f b j, vertexBytes_wide_worked⟩,
    fun s hh => ⟨fun ht => ?_, fun ht => ?_⟩, fun s hh => ?_, fun u k => ⟨fun hk => ?_, fun b hb => ?_⟩,
    fun s hh ht => ⟨fun b => setFormat_clauses b hh (meshHeard_fresh hh ht),
      fun n hn => exec_mpSetFormat_unknown hn (meshHeard_fresh hh ht), ?_⟩⟩
  · have hm := meshHeard_fresh hh ht
    refine ⟨⟨?_, ?_⟩, fun b h1 h2 h3 => ?_, fun h a => ?_, fun h => ?_, fun i => read_clauses hm i⟩
    · simp [u16]
    · exact (exec_mpStatus hm).trans (congrArg (fun l => Host.Outcome.next { s with pres := { s.pres with
        mattn := false, trans := .taken, miso := 0xFF#8 :: l } }) (mpStatusBytes_eq s))
    · exact congrArg Host.Outcome.next (if_pos (by simp [hm, meshCommand, h1, h2, h3]))
    · rw [exec_mpReadRows _ hm, live_none h, beginRead_none fun i => (h i).1]
      rfl
    · rw [exec_mpReadRows _ hm, beginRead_none fun i => (h i).1]
      rfl
  · have h := mesh_unheard (meshHeard_spent ht)
    rw [ignoreMesh_free hh] at h
    exact h
  · have h := mesh_unheard (meshHeard_held hh)
    rw [ignoreMesh_held hh] at h
    exact h
  · simp [misoByte, List.getElem?_eq_none hk]
  · simp [misoByte, hb]
  · exact congrArg Host.Outcome.next (if_pos (meshHeard_fresh hh ht))

end Sys2Proof.Machine
end

section
/-! Steps, legs, decelerations and jogs of one axis (06, sections 6.2 to 6.5). -/

namespace Sys2Proof.Machine

/-! ## Steps (06 R95, R96, R100) -/

section
variable {g : AxisSettings} {r : AxisRec} {d : StepDir}

theorem stepPosition_inside (h1 : 0 ≤ r.position + stepSign r.dir) (h2 : r.position + stepSign r.dir ≤ g.travel) :
    stepPosition g r = { r with position := r.position + stepSign r.dir } :=
  if_pos (decide_eq_true ⟨h1, h2⟩)

theorem runStep_inside (h1 : 0 ≤ r.position + stepSign r.dir) (h2 : r.position + stepSign r.dir ≤ g.travel) :
    runStep g r = followPace g { r with position := r.position + stepSign r.dir } :=
  (if_pos (decide_eq_true ⟨h1, h2⟩)).trans (by rw [stepPosition_inside h1 h2])

/-- The profile one step on, toward the speed aimed at from here (06 R96, R106). -/
def paceTo (g : AxisSettings) (aim : Int) (r : AxisRec) : AxisRec :=
  { r with
    jogSlow := min (paceToward (2 * g.accel) (r.jogLow * r.jogLow) r.jogSlow) (limitSquare g r),
    jogFast := min (paceToward (2 * g.accel) (r.jogPeak * r.jogPeak) r.jogFast) (limitSquare g r),
    jogLow := aim, jogPeak := aim }

theorem followPace_along (h : r.dir = r.jogDir) : followPace g r = paceTo g (levelSpeed g r.jogLevel) r := by
  simp only [followPace, if_pos h]
  rfl

theorem followPace_against (h : r.dir ≠ r.jogDir) : followPace g r = paceTo g g.startSpeed r := by
  simp only [followPace, if_neg h]
  rfl

theorem canRest_iff : canRest r = true ↔ r.stopLo ≤ mag (r.position - r.legStart) ∧ mag (r.position - r.legStart) ≤ r.stopHi :=
  decide_eq_true_iff

theorem stepMotion_leg (h : r.leg = .leg1 ∨ r.leg = .leg2) (hp : r.position ≠ r.legEnd) :
    stepMotion g r.dir r = stepPosition g r := by
  rcases h with h | h <;> simp [stepMotion, h, hp]

theorem stepMotion_stopping (h : r.leg = .stopping) (hn : covered r < r.stopHi) :
    stepMotion g r.dir r = stepPosition g r := by
  simp [stepMotion, h, hn]

theorem stepMotion_run (h : r.leg = .run) (hd : r.dir = r.jogDir) : stepMotion g r.dir r = runStep g r := by
  simp [stepMotion, h, hd]

theorem stepMotion_reversing (h : r.leg = .run) (hd : r.dir ≠ r.jogDir) :
    stepMotion g r.dir r = if covered r < r.stopHi then runStep g r else r := by
  simp [stepMotion, h, hd]

/-- The step that turns a jog which reverses (06 R106). -/
theorem stepMotion_turn (h : r.leg = .run) (hd : r.dir ≠ r.jogDir) :
    stepMotion g r.jogDir r = if canRest r then runStep g (beginRun g r.jogDir r) else r := by
  simp [stepMotion, h, hd, Ne.symm hd]

theorem beginRun_turn (h : r.leg = .run) : beginRun g r.jogDir r = { r with
    dir := r.jogDir, legStart := r.position, jogPeak := levelSpeed g r.jogLevel, jogLow := levelSpeed g r.jogLevel,
    jogSlow := g.startSpeed * g.startSpeed, jogFast := g.startSpeed * g.startSpeed } := by
  rw [beginRun, ← h]

end

section
variable {s : State} {x : Axis} {d : StepDir}

theorem exec_stepIssued_motion (h : (s.axes.get x).state = .moving ∨ (s.axes.get x).state = .jog) :
    exec (.stepIssued x d) s = .next (s.setAxis x (stepMotion (s.set.axes.get x) d (s.axes.get x))) := by
  refine congrArg Host.Outcome.next ?_
  rcases h with h | h <;> simp only [stepIssued, h]

theorem setAxis_self : s.setAxis x (s.axes.get x) = s := by
  have haxes : s.axes.set x (s.axes.get x) = s.axes := by cases x <;> rfl
  rw [State.setAxis, haxes]

end

/-- The clauses on a step of a jog that reverses (06 R106). -/
theorem reversing_steps {s : State} {x : Axis} (d : StepDir) (hjog : (s.axes.get x).state = .jog)
    (hleg : (s.axes.get x).leg = .run) (hdir : (s.axes.get x).dir ≠ (s.axes.get x).jogDir) :
    let r := s.axes.get x
    let g := s.set.axes.get x
    let p := r.position + stepSign d
    (d = r.dir → covered r < r.stopHi → 0 ≤ p → p ≤ g.travel →
      exec (.stepIssued x d) s = .next (s.setAxis x (paceTo g g.startSpeed { r with position := p })))
    ∧ (d = r.dir → r.stopHi ≤ covered r → exec (.stepIssued x d) s = .next s)
    ∧ (d = r.jogDir → r.stopLo ≤ covered r → covered r ≤ r.stopHi → 0 ≤ p → p ≤ g.travel →
      exec (.stepIssued x d) s = .next (s.setAxis x (paceTo g (levelSpeed g r.jogLevel) { r with
        position := p, dir := d, legStart := r.position, jogPeak := levelSpeed g r.jogLevel,
        jogLow := levelSpeed g r.jogLevel, jogSlow := g.startSpeed * g.startSpeed,
        jogFast := g.startSpeed * g.startSpeed })))
    ∧ (d = r.jogDir → covered r < r.stopLo → exec (.stepIssued x d) s = .next s) := by
  intro r g p
  rw [exec_stepIssued_motion (.inr hjog)]
  refine ⟨?_, ?_, ?_, ?_⟩
  · rintro rfl hn h1 h2
    rw [stepMotion_reversing hleg hdir, if_pos hn, runStep_inside h1 h2, followPace_against (by exact hdir)]
  · rintro rfl hn
    rw [stepMotion_reversing hleg hdir, if_neg (Int.not_lt.2 hn), setAxis_self]
  · rintro rfl h3 h4 h1 h2
    rw [stepMotion_turn hleg hdir, if_pos (canRest_iff.2 ⟨h3, h4⟩), beginRun_turn hleg,
      runStep_inside (by exact h1) (by exact h2), followPace_along rfl]
  · rintro rfl h3
    have hno : ¬ canRest r = true := fun h => by
      have := (canRest_iff.1 h).1
      simp only [covered] at h3
      omega
    rw [stepMotion_turn hleg hdir, if_neg hno, setAxis_self]

/-- The clauses on STEP_ISSUED. -/
theorem step_clauses (s : State) (x : Axis) (d : StepDir) :
    let r := s.axes.get x
    let g := s.set.axes.get x
    let p := r.position + stepSign d
    (r.state = .moving → (r.leg = .leg1 ∨ r.leg = .leg2) → d = r.dir → r.position ≠ r.legEnd → 0 ≤ p →
      p ≤ g.travel → exec (.stepIssued x d) s = .next (s.setAxis x { r with position := p }))
    ∧ (r.state = .jog → r.leg = .run → d = r.dir → d = r.jogDir → 0 ≤ p → p ≤ g.travel →
      exec (.stepIssued x d) s = .next (s.setAxis x (paceTo g (levelSpeed g r.jogLevel) { r with position := p })))
    ∧ ((r.state = .moving ∨ r.state = .jog) → r.leg = .stopping → d = r.dir → covered r < r.stopHi →
      0 ≤ p → p ≤ g.travel → exec (.stepIssued x d) s = .next (s.setAxis x { r with position := p })) := by
  intro r g p
  refine ⟨?_, ?_, ?_⟩
  · rintro hs hleg rfl hne h1 h2
    rw [exec_stepIssued_motion (.inl hs), stepMotion_leg hleg hne, stepPosition_inside h1 h2]
  · rintro hs hleg rfl hd h1 h2
    rw [exec_stepIssued_motion (.inr hs), stepMotion_run hleg hd, runStep_inside h1 h2,
      followPace_along (by exact hd)]
  · rintro hs hleg rfl hn h1 h2
    rw [exec_stepIssued_motion hs, stepMotion_stopping hleg hn, stepPosition_inside h1 h2]

/-! ## The ends of legs and decelerations (06 R97, R98, R107, R108) -/

section
variable {r : AxisRec}

theorem atLegEnd_of_eq {g : AxisSettings} (h : r.position = r.legEnd) : atLegEnd g r = true := by simp [atLegEnd, h]

theorem endLeg_settles (hp : r.position = r.legEnd) (h : r.leg = .leg1 ∧ r.target = some r.legEnd ∨ r.leg = .leg2) :
    endLeg r = settleAxis r := by
  cases r
  simp only at hp h
  subst hp
  rcases h with ⟨rfl, rfl⟩ | rfl <;> simp [endLeg]

theorem endLeg_second {t : Int} (hp : r.position = r.legEnd) (hleg : r.leg = .leg1) (ht : r.target = some t)
    (hne : t ≠ r.legEnd) : endLeg r = planLeg .leg2 t r := by
  cases r
  simp only at hp hleg ht hne
  subst hp hleg ht
  exact if_neg hne

end

section
variable {s : State} {x : Axis}

theorem exec_legEnd (hs : (s.axes.get x).state = .moving) (hleg : (s.axes.get x).leg = .leg1 ∨ (s.axes.get x).leg = .leg2)
    (hp : (s.axes.get x).position = (s.axes.get x).legEnd) :
    exec (.legEnd x) s = .next (s.setAxis x (endLeg (s.axes.get x))) := by
  refine congrArg Host.Outcome.next ?_
  rcases hleg with hleg | hleg <;> simp only [legEnded, hs, hleg, atLegEnd_of_eq hp, if_true]

/-- The clauses on the ends of legs and decelerations. -/
theorem leg_clauses :
    let r := s.axes.get x
    (r.state = .moving → r.position = r.legEnd →
      ((r.leg = .leg1 ∧ r.target = some r.legEnd) ∨ r.leg = .leg2) →
      exec (.legEnd x) s = .next (s.setAxis x (settleAxis r)))
    ∧ (∀ t, r.state = .moving → r.position = r.legEnd → r.leg = .leg1 → r.target = some t → t ≠ r.legEnd →
      exec (.legEnd x) s = .next (s.setAxis x { r with
        leg := .leg2, legStart := r.legEnd, legEnd := t, dir := if r.legEnd < t then .positive else .negative }))
    ∧ (r.state = .moving → r.leg = .stopping → r.stopLo ≤ mag (r.position - r.legStart) →
      mag (r.position - r.legStart) ≤ r.stopHi →
      exec (.stopDecelerationEnd x) s = .next (s.setAxis x (settleAxis r)))
    ∧ (r.state = .jog → r.leg = .stopping → r.stopLo ≤ mag (r.position - r.legStart) →
      mag (r.position - r.legStart) ≤ r.stopHi → exec (.jogStopEnd x) s = .next (s.setAxis x (settleAxis r))) := by
  intro r
  refine ⟨fun hs hp h => ?_, fun t hs hp hleg ht hne => ?_, fun hs hleg h1 h2 => congrArg Host.Outcome.next ?_,
    fun hs hleg h1 h2 => congrArg Host.Outcome.next ?_⟩
  · rw [exec_legEnd hs (h.imp_left And.left) hp, endLeg_settles hp h]
  · rw [exec_legEnd hs (.inl hleg) hp, endLeg_second hp hleg ht hne, planLeg, dirTo, hp]
  · simp only [stopDecelerationEnded]
    rw [hs, hleg]
    exact if_pos (canRest_iff.2 ⟨h1, h2⟩)
  · simp only [jogStopped]
    rw [hs, hleg]
    exact if_pos (canRest_iff.2 ⟨h1, h2⟩)

end

/-- Settles O19, by what an axis makes of a step and of the end of a leg. -/
theorem stepsAndLegEnds : Obligations.StepsAndLegEnds := by
  refine ⟨fun s x d => ?_, fun s x => leg_clauses⟩
  obtain ⟨hleg, hrun, hstop⟩ := step_clauses s x d
  have hp : (s.axes.get x).position + (match d with | .positive => 1 | .negative => -1) =
      (s.axes.get x).position + stepSign d := by cases d <;> rfl
  refine ⟨hleg, hrun, hstop, reversing_steps d, fun hs hd hn => congrArg Host.Outcome.next ?_,
    fun h1 h2 h3 => congrArg Host.Outcome.next ?_⟩
  · have hno : ¬ homingLimit (s.set.axes.get x) ≤ ((s.axes.get x).homingCount : Int) + 1 := Int.not_le.2 hn
    simp only [stepIssued, hs, if_pos hd, if_neg hno]
  · unfold stepIssued
    cases hs : (s.axes.get x).state <;> simp_all

end Sys2Proof.Machine
end

section
/-! The Motion Queue settles (06 R103; 07 R117, R119): with nothing to end and nothing to start it stays; the end of
its only request. The settle time, the zoom settle and homing (06 R98 to R100). -/

namespace Sys2Proof.Machine

/-! ## A composition does not look at the Motion Queue -/

theorem startComputation_withQueue (m : Queue) (s : State) :
    startComputation { s with mq := m } = { startComputation s with mq := m } := by
  unfold startComputation
  dsimp only
  cases buildBank s.pres.banks <;> rfl

theorem rebuild_withQueue (m : Queue) (s : State) :
    rebuild false { s with mq := m } = { rebuild false s with mq := m } := by
  unfold rebuild
  cases h : s.eng.state with
  | computing => simp [h]
  | idle => cases hp : s.eng.pendingReq <;> simp [h, hp, startComputation_withQueue]

theorem reportCornerClip_withQueue (c : Candidate) (d : Dest) (m : Queue) (s : State) :
    reportCornerClip c d { s with mq := m } = { reportCornerClip c d s with mq := m } := by
  unfold reportCornerClip
  cases c.clamp with
  | none => rfl
  | some k =>
    dsimp only
    unfold reportClip
    cases s.geo.clip <;> rfl

theorem acceptComposition_withQueue (g : GeoRecord) (c : Candidate) (m : Queue) (s : State) :
    acceptComposition g c { s with mq := m } = { acceptComposition g c s with mq := m } :=
  rebuild_withQueue m { s with
    geo := { s.geo with corners := c.corners, clamped := c.clamp.isSome, inset := c.inset, held := false },
    att := { s.att with refused := none },
    set := { s.set with geo := g } }

theorem compose_withQueue (g : GeoRecord) (d : Dest) (m : Queue) (s : State) :
    compose g d { s with mq := m } = ({ (compose g d s).1 with mq := m }, (compose g d s).2) := by
  have hc : candidate g { s with mq := m } = candidate g s := rfl
  unfold compose
  simp only [hc, reportCornerClip_withQueue, acceptComposition_withQueue]
  split <;> rfl

theorem composeOrHold_withQueue (d : Dest) (m : Queue) (s : State) :
    composeOrHold d { s with mq := m } = { composeOrHold d s with mq := m } := by
  unfold composeOrHold
  simp only [compose_withQueue]
  split <;> rfl

theorem zoomSettle_withQueue (m : Queue) (s : State) :
    zoomSettle { s with mq := m } = { zoomSettle s with mq := m } := by
  unfold zoomSettle
  dsimp only
  split
  · rfl
  · exact composeOrHold_withQueue .both m { s with geo := { s.geo with band := (s.axes.zoom.position * 8 / (s.set.axes.zoom.travel + 1)).toNat } }

theorem zoomSettle_axes (s : State) : (zoomSettle s).axes = s.axes := by
  obtain ⟨_, _, _, _, _, _, h⟩ := zoomSettle_frame s
  rw [h]

theorem zoomSettle_mq (s : State) : (zoomSettle s).mq = s.mq := by
  obtain ⟨_, _, _, _, _, _, h⟩ := zoomSettle_frame s
  rw [h]

/-! ## The dispatch test and the settling of the queue, from the state they meet -/

/-- With every WAITING request held back the dispatch test changes nothing. -/
theorem DispatchTested.eq_of_held {s t : State} (h : DispatchTested s t) (hb : heldBefore s s.mq.requests.length) :
    t = s := by
  cases h with
  | done => rfl
  | next hq hd _ hn _ => exact absurd (hb _ _ (List.getElem?_eq_some_iff.1 hq).1 hq hd) hn

/-- With no running request at rest and every WAITING one held back the queue stays. -/
theorem QueueSettled.eq_of_still {s t : State} (h : QueueSettled s t) (hr : ∀ q ∈ s.mq.requests, ¬ atRest s q)
    (hb : heldBefore s s.mq.requests.length) : t = s := by
  cases h with
  | rest _ hd => exact hd.eq_of_held hb
  | finish hq hq' => exact absurd hq' (hr _ (List.mem_of_getElem? hq))

theorem heldBefore_of_running {s : State} {n : Nat} (h : ∀ q ∈ s.mq.requests, q.dispatched = true) : heldBefore s n :=
  fun _ q _ hq hd => absurd (h q (List.mem_of_getElem? hq)) (by simp [hd])

theorem dispatchPass_held {s : State} (h : heldBefore s s.mq.requests.length) :
    dispatchPass s.mq.requests.length s = s :=
  (dispatchPass_tested s).eq_of_held h

theorem settleQueue_still {s : State} (hr : ∀ q ∈ s.mq.requests, ¬ atRest s q)
    (hb : heldBefore s s.mq.requests.length) : settleQueue s = s :=
  (settleQueue_settled s).eq_of_still hr hb

theorem settleQueue_nil {s : State} (h : s.mq.requests = []) : settleQueue s = s :=
  settleQueue_still (by simp [h]) (heldBefore_of_running (by simp [h]))

/-- The end of one request after another, each with its outcome from its axes. -/
def endAll (l : List Request) (s : State) : State := l.foldl (fun t q => endRequest q (axesOutcome q) t) s

/-- Running requests that stay at rest all end, oldest first (07 R119, log 27). -/
theorem finishRequests_all (l : List Request) (s : State) (hl : s.mq.requests = l)
    (hn : (l.map Request.serial).Nodup) (hd : ∀ q ∈ l, q.dispatched = true)
    (hr : ∀ t : State, t.axes.map (fun _ a => a.state) = s.axes.map (fun _ a => a.state) → ∀ q ∈ l, atRest t q)
    (hk : ∀ q ∈ l, axesOutcome q ≠ .done) :
    finishRequests l.length s = endAll l s := by
  induction l generalizing s with
  | nil => rfl
  | cons q rest ih =>
    have hrest : (q.dispatched && requestAtRest s q) = true := (atRest_iff s q).2 (hr s rfl q (by simp))
    have hended : endRequest q (axesOutcome q) s = ended q (axesOutcome q) s :=
      endRequest_ended _ _ _ (.inl (hk q (by simp)))
    have hstates : (endRequest q (axesOutcome q) s).axes.map (fun _ a => a.state) = s.axes.map (fun _ a => a.state) := by
      rw [hended]
      simp only [ended, PerAxis.map, apply_ite AxisRec.state, ite_self]
    have hleft : (endRequest q (axesOutcome q) s).mq.requests = rest := by
      rw [endRequest_requests, hl]
      have hne : ∀ r ∈ rest, r.serial ≠ q.serial := by
        intro r hr' he
        exact (List.nodup_cons.1 hn).1 (he ▸ List.mem_map_of_mem hr')
      simpa [List.filter_eq_self] using hne
    show finishRequests (rest.length + 1) s = endAll rest (endRequest q (axesOutcome q) s)
    unfold finishRequests
    rw [hl, List.find?_cons_of_pos (p := fun r => r.dispatched && requestAtRest s r) hrest]
    dsimp only
    rw [dispatchPass_held (heldBefore_of_running (by rw [hleft]; exact fun r hr' => hd r (by simp [hr'])))]
    exact ih _ hleft (List.nodup_cons.1 hn).2 (fun r hr' => hd r (by simp [hr']))
      (fun t ht r hr' => hr t (ht.trans hstates) r (by simp [hr'])) (fun r hr' => hk r (by simp [hr']))

/-- The only request ends when its axes are all at rest, and leaves nothing to test. -/
theorem settleQueue_single {s : State} {q : Request} (h : s.mq.requests = [q]) (hq : atRest s q) :
    settleQueue s = endRequest q (axesOutcome q) s := by
  have hnone : (endRequest q (axesOutcome q) s).mq.requests = [] := by simp [endRequest_requests, h]
  have hfind : s.mq.requests.find? (fun r => r.dispatched && requestAtRest s r) = some q := by
    rw [h]
    exact List.find?_cons_of_pos ((atRest_iff s q).2 hq)
  have hfinish : finishRequests 1 s = endRequest q (axesOutcome q) s := by
    unfold finishRequests
    rw [hfind]
    dsimp only
    rw [hnone]
    rfl
  unfold settleQueue
  rw [h]
  show dispatchPass (finishRequests 1 s).mq.requests.length (finishRequests 1 s) = _
  rw [hfinish, hnone]
  rfl

/-! ## The end of the only request of Port A -/

section
variable {v : PerAxis AxisRec} {x : Axis} {a : AxisRec} {k : Nat}

theorem PerAxis.ext_get {α : Type} {u v : PerAxis α} (h : ∀ x, u.get x = v.get x) : u = v := by
  obtain ⟨h1, h2, h3, h4⟩ := And.intro (h .shiftH) (And.intro (h .shiftV) (And.intro (h .zoom) (h .focus)))
  cases u
  cases v
  simp only [PerAxis.get] at h1 h2 h3 h4
  subst h1 h2 h3 h4
  rfl

/-- The request that ends held one axis alone. -/
theorem release_only (h : ∀ y, y ≠ x → (v.get y).running ≠ some k) (ha : a.running = some k) :
    ((v.set x a).map fun _ b => if b.running = some k then { b with running := none } else b) =
      v.set x { a with running := none } := by
  refine PerAxis.ext_get fun y => ?_
  by_cases hy : y = x
  · subst hy
    simp [ha]
  · rw [PerAxis.get_map, PerAxis.get_set_other _ _ _ _ (Ne.symm hy), PerAxis.get_set_other _ _ _ _ (Ne.symm hy),
      if_neg (h y hy)]

end

theorem ended_portA {q : Request} {o : Outcome} {s : State} (hs : q.source = .portA) (hk : q.kind ≠ .comp)
    (hr : s.mq.requests.filter (fun r => decide (r.serial ≠ q.serial)) = []) :
    ended q o s = { s with
      axes := s.axes.map fun _ a => if a.running = some q.serial then { a with running := none } else a,
      mq := { s.mq with
        requests := [],
        outcomes := { s.mq.outcomes with a := pushWindow 4 s.mq.outcomes.a ⟨q.tag, q.kind, o⟩ } },
      port := s.port.raise (.port .a) o.event } := by
  unfold ended endEvent
  rw [hr, hs]
  cases hkind : q.kind with
  | comp => exact absurd hkind hk
  | _ => cases o <;> rfl

/-- The only request, of Port A and of one axis, ends. -/
theorem settleQueue_portA {s : State} {x : Axis} {a : AxisRec} {q : Request}
    (hreq : s.mq.requests = [q]) (hd : q.dispatched = true) (hs : q.source = .portA)
    (hk : q.kind ≠ .comp) (hx : q.axes = (PerAxis.const false).set x true) (ho : axesOutcome q ≠ .done ∨ q.kind ≠ .recall)
    (hax : ∀ y, y ≠ x → (s.axes.get y).running ≠ some q.serial) (ha : a.running = some q.serial)
    (hrest : a.state.busy = false) :
    settleQueue { s with axes := s.axes.set x a } = { s with
      axes := s.axes.set x { a with running := none },
      mq := { s.mq with
        requests := [],
        outcomes := { s.mq.outcomes with a := pushWindow 4 s.mq.outcomes.a ⟨q.tag, q.kind, axesOutcome q⟩ } },
      port := s.port.raise (.port .a) (axesOutcome q).event } := by
  have hatRest : atRest { s with axes := s.axes.set x a } q := by
    refine ⟨hd, fun y hy => ?_⟩
    have hyx : y = x := by
      by_contra hne
      rw [hx, PerAxis.get_set_other _ _ _ _ (Ne.symm hne), PerAxis.get_const] at hy
      cases hy
    subst hyx
    rw [PerAxis.get_set_same]
    exact hrest
  rw [settleQueue_single (by exact hreq) hatRest, endRequest_ended _ _ _ ho, ended_portA hs hk (by simp [hreq])]
  dsimp only
  rw [release_only hax ha]

/-! ## The settle time (06 R98) -/

section
variable {s : State} {x : Axis}

/-- The axis at rest, its zoom settle made. -/
def rested (x : Axis) (s : State) : State :=
  let t := s.setAxis x { s.axes.get x with state := .idle }
  if x = .zoom then zoomSettle t else t

theorem rested_other (h : x ≠ .zoom) : rested x s = s.setAxis x { s.axes.get x with state := .idle } := if_neg h

theorem rested_axes : (rested x s).axes = s.axes.set x { s.axes.get x with state := .idle } := by
  unfold rested
  dsimp only
  split
  · rw [zoomSettle_axes]; rfl
  · rfl

theorem rested_mq : (rested x s).mq = s.mq := by
  unfold rested
  dsimp only
  split
  · rw [zoomSettle_mq]; rfl
  · rfl

theorem rested_withQueue (m : Queue) : rested x { s with mq := m } = { rested x s with mq := m } := by
  unfold rested
  dsimp only
  split
  · exact zoomSettle_withQueue m (s.setAxis x { s.axes.get x with state := .idle })
  · rfl

theorem exec_settleTimeExpiry (h : (s.axes.get x).state = .settling) :
    exec (.settleTimeExpiry x) s = .next (settleQueue (rested x s)) := by
  refine congrArg Host.Outcome.next ?_
  simp only [settleExpired, h]
  rfl

/-- A zoom settle keeps its band, or composes for the new one (03 R36). -/
theorem rested_zoom :
    let r := s.axes.get .zoom
    let rest : State := s.setAxis .zoom { r with state := .idle }
    let band := (r.position * 8 / ((s.set.axes.get .zoom).travel + 1)).toNat
    (band = s.geo.band → rested .zoom s = rest)
    ∧ (band ≠ s.geo.band →
      ComposedOrHeld (candidateOf s.set.geo band s.att.pApp s.set.pRef s.att.effective) .both
        { rest with geo := { s.geo with band := band } } (rested .zoom s)) := by
  intro r rest band
  exact ⟨fun h => if_pos h, fun h => (show rested .zoom s = _ from if_neg h) ▸ composeOrHold_to .both _⟩

end
end Sys2Proof.Machine
end

section
/-! Homing and the filtered inputs of the axes (06 R94, R99 to R103). -/

namespace Sys2Proof.Machine

section
variable {s : State} {x : Axis}

/-! ## The settle time -/

/-- The last axis of the only request comes to rest (07 R119): the request ends over the state that an empty queue
leaves. -/
theorem settleTimeExpiry_ends {q : Request} {u : State} (hs : (s.axes.get x).state = .settling)
    (hreq : s.mq.requests = [q]) (hd : q.dispatched = true)
    (hothers : ∀ y, y ≠ x → q.axes.get y = true → (s.axes.get y).state.busy = false)
    (hu : exec (.settleTimeExpiry x) { s with mq := { s.mq with requests := [] } } = .next u) :
    exec (.settleTimeExpiry x) s = .next (endRequest q (axesOutcome q) { u with mq := s.mq }) := by
  have hbare : u = { rested x s with mq := { s.mq with requests := [] } } := by
    rw [exec_settleTimeExpiry (by exact hs), rested_withQueue, settleQueue_nil rfl] at hu
    exact (Host.Outcome.next.inj hu).symm
  have hback : ({ u with mq := s.mq } : State) = rested x s := by
    subst hbare
    conv_rhs => rw [← show ({ rested x s with mq := (rested x s).mq } : State) = rested x s from rfl, rested_mq]
  rw [exec_settleTimeExpiry hs, hback]
  refine congrArg Host.Outcome.next (settleQueue_single (by rw [rested_mq, hreq]) ⟨hd, fun y hy => ?_⟩)
  rw [rested_axes]
  by_cases hyx : y = x
  · subst hyx
    rw [PerAxis.get_set_same]
    rfl
  · rw [PerAxis.get_set_other _ _ _ _ (Ne.symm hyx)]
    exact hothers y hyx hy

theorem settle_clauses :
    let r := s.axes.get x
    r.state = .settling →
    (x ≠ .zoom → ∃ t, exec (.settleTimeExpiry x) s = .next t
      ∧ QueueSettled (s.setAxis x { r with state := .idle }) t)
    ∧ (x = .zoom →
      let rest : State := s.setAxis x { r with state := .idle }
      let band := (r.position * 8 / ((s.set.axes.get x).travel + 1)).toNat
      ∃ v t, exec (.settleTimeExpiry x) s = .next t ∧ QueueSettled v t
        ∧ (band = s.geo.band → v = rest)
        ∧ (band ≠ s.geo.band →
          ComposedOrHeld (candidateOf s.set.geo band s.att.pApp s.set.pRef s.att.effective) .both
            { rest with geo := { s.geo with band := band } } v))
    ∧ (x ≠ .zoom → s.mq.requests = [] →
      exec (.settleTimeExpiry x) s = .next (s.setAxis x { r with state := .idle }))
    ∧ (x = .zoom → s.mq.requests = [] →
      let rest : State := s.setAxis x { r with state := .idle }
      let band := (r.position * 8 / ((s.set.axes.get x).travel + 1)).toNat
      let base : State := { rest with geo := { s.geo with band := band } }
      (band = s.geo.band → exec (.settleTimeExpiry x) s = .next rest)
      ∧ (band ≠ s.geo.band → ∃ t, exec (.settleTimeExpiry x) s = .next t
        ∧ ComposedOrHeld (candidateOf s.set.geo band s.att.pApp s.set.pRef s.att.effective) .both base t)) := by
  intro r hs
  have hexec := exec_settleTimeExpiry hs
  have hempty : s.mq.requests = [] → settleQueue (rested x s) = rested x s := fun h =>
    settleQueue_nil (by rw [rested_mq, h])
  refine ⟨fun hx => ⟨_, hexec, rested_other hx ▸ settleQueue_settled _⟩, ?_, fun hx h => ?_, ?_⟩
  · rintro rfl
    obtain ⟨hsame, hnew⟩ := rested_zoom (s := s)
    exact ⟨_, _, hexec, settleQueue_settled _, hsame, hnew⟩
  · rw [hexec, hempty h, rested_other hx]
  · rintro rfl h
    obtain ⟨hsame, hnew⟩ := rested_zoom (s := s)
    rw [hempty h] at hexec
    exact ⟨fun hb => by rw [hexec, hsame hb], fun hb => ⟨_, hexec, hnew hb⟩⟩

/-- The clauses on the end of the only request at the settle time. -/
theorem settle_end_clauses (hs : (s.axes.get x).state = .settling) :
    let r := s.axes.get x
    (∀ (q : Request) (u : State), s.mq.requests = [q] → q.dispatched = true → q.axes.get x = true →
      r.running = some q.serial → (∀ y, y ≠ x → q.axes.get y = true → (s.axes.get y).state.busy = false) →
      exec (.settleTimeExpiry x) { s with mq := { s.mq with requests := [] } } = .next u →
      let o : Machine.Outcome := if q.failed then .fault else if q.stopped then .aborted else .done
      let v : State := { u with mq := s.mq }
      ((q.kind ≠ .recall ∨ o ≠ .done) → exec (.settleTimeExpiry x) s = .next (ended q o v))
      ∧ (q.kind = .recall → o = .done → ∃ t, exec (.settleTimeExpiry x) s = .next t ∧ RecallEnded q v t))
    ∧ (∀ q : Request, x ≠ .zoom → s.mq.requests = [q] → q.dispatched = true → q.source = .portA →
      (q.kind = .move ∨ q.kind = .step ∨ q.kind = .home) → q.failed = false → q.stopped = false →
      q.axes = (PerAxis.const false).set x true → r.running = some q.serial →
      (∀ y, y ≠ x → (s.axes.get y).running ≠ some q.serial) →
      exec (.settleTimeExpiry x) s = .next { s with
        axes := s.axes.set x { r with state := .idle, running := none },
        mq := { s.mq with
          requests := [],
          outcomes := { s.mq.outcomes with a := pushWindow 4 s.mq.outcomes.a ⟨q.tag, q.kind, .done⟩ } },
        port := s.port.raise (.port .a) .motionDone }) := by
  intro r
  refine ⟨fun q u hreq hd hx hr hothers hu => ?_, fun q hz hreq hd hsrc hk hf hst hx hr hothers => ?_⟩
  · have hend := settleTimeExpiry_ends hs hreq hd hothers hu
    refine ⟨fun h => ?_, fun hk ho => ⟨_, hend, ?_⟩⟩
    · exact hend.trans (congrArg Host.Outcome.next (endRequest_ended _ _ _ h.symm))
    · rw [show axesOutcome q = .done from ho]
      exact endRequest_recall q _ hk
  · have ho : axesOutcome q = .done := by simp [axesOutcome, hf, hst]
    have hkind : q.kind ≠ .comp ∧ q.kind ≠ .recall := by rcases hk with h | h | h <;> simp [h]
    rw [exec_settleTimeExpiry hs, rested_other hz]
    refine congrArg Host.Outcome.next ((settleQueue_portA hreq hd hsrc hkind.1 hx (.inr hkind.2) hothers
      (a := { r with state := .idle }) hr rfl).trans ?_)
    rw [ho]
    rfl

/-! ## The home switch (06 R99, R100) -/

theorem running_iff (f : Filtered) : f.running = true ↔ f.raw ≠ f.level := by
  unfold Filtered.running
  cases f.raw <;> cases f.level <;> simp

/-- The filtered level of a home switch takes the raw one. -/
def confirmHome (x : Axis) (s : State) : State :=
  { s with inputs := { s.inputs with home := s.inputs.home.set x (s.inputs.home.get x).confirm } }

/-- The release of the home switch ends RELEASE, and the seek starts. -/
def seekHome (r : AxisRec) : AxisRec := { r with leg := .seek, homingCount := 0, dir := .negative }

/-- The activation of the home switch ends SEEK. -/
def homed (r : AxisRec) : AxisRec := settleAxis { r with position := 0 }

theorem homeEdge_taken (hh : s.held = false) (hf : (s.inputs.home.get x).raw ≠ (s.inputs.home.get x).level) :
    homeEdge x s = match (s.axes.get x).state, (s.axes.get x).leg, (s.inputs.home.get x).raw with
      | .homing, .release, false => (confirmHome x s).setAxis x (seekHome (s.axes.get x))
      | .homing, .seek, true => (confirmHome x s).setAxis x (homed (s.axes.get x))
      | _, _, _ => confirmHome x s :=
  if_neg (by simp [hh, (running_iff _).2 hf])

theorem homeEdge_release (hh : s.held = false) (hr : (s.inputs.home.get x).raw = false)
    (hl : (s.inputs.home.get x).level = true) (hs : (s.axes.get x).state = .homing) (hg : (s.axes.get x).leg = .release) :
    homeEdge x s = (confirmHome x s).setAxis x (seekHome (s.axes.get x)) := by
  rw [homeEdge_taken hh (by rw [hr, hl]; decide), hs, hg, hr]

theorem homeEdge_seek (hh : s.held = false) (hr : (s.inputs.home.get x).raw = true)
    (hl : (s.inputs.home.get x).level = false) (hs : (s.axes.get x).state = .homing) (hg : (s.axes.get x).leg = .seek) :
    homeEdge x s = (confirmHome x s).setAxis x (homed (s.axes.get x)) := by
  rw [homeEdge_taken hh (by rw [hr, hl]; decide), hs, hg, hr]

theorem homeEdge_other (hh : s.held = false) (hf : (s.inputs.home.get x).raw ≠ (s.inputs.home.get x).level)
    (hs : (s.axes.get x).state ≠ .homing) : homeEdge x s = confirmHome x s := by
  rw [homeEdge_taken hh hf]
  cases h : (s.axes.get x).state with
  | homing => exact absurd h hs
  | unhomed | idle | moving | jog | settling | lost | fault => rfl

theorem homeEdge_clauses :
    let r := s.axes.get x
    let f := s.inputs.home.get x
    let level (b : Bool) : Inputs := { s.inputs with home := s.inputs.home.set x { f with level := b } }
    (s.held = false → f.raw = false → f.level = true → r.state = .homing → r.leg = .release →
      exec (.homeSwitchEdge x) s = .next { s with
        inputs := level false, axes := s.axes.set x { r with leg := .seek, homingCount := 0, dir := .negative } })
    ∧ (s.held = false → f.raw = true → f.level = false → r.state = .homing → r.leg = .seek →
      exec (.homeSwitchEdge x) s = .next { s with
        inputs := level true,
        axes := s.axes.set x { r with
          state := .settling, position := 0, leg := .none, target := none, jogOwner := none, jogTimer := none } })
    ∧ (s.held = false → f.raw ≠ f.level → r.state ≠ .homing →
      exec (.homeSwitchEdge x) s = .next { s with inputs := level f.raw }) := by
  intro r f level
  have hlevel : ∀ b, f.raw = b → f.confirm = { f with level := b } := by
    rintro b rfl
    rfl
  refine ⟨fun hh hr hl hs hg => congrArg Host.Outcome.next ((homeEdge_release hh hr hl hs hg).trans ?_),
    fun hh hr hl hs hg => congrArg Host.Outcome.next ((homeEdge_seek hh hr hl hs hg).trans ?_),
    fun hh hf hs => congrArg Host.Outcome.next (homeEdge_other hh hf hs)⟩
  · rw [confirmHome, hlevel false hr]
    rfl
  · rw [confirmHome, hlevel true hr]
    rfl

/-! ## The homing limit (06 R100, R103) -/

/-- The record of an axis that has reached its homing limit. -/
def timedOut (g : AxisSettings) (r : AxisRec) : AxisRec :=
  { haltAxis .fault r with reason := .homeTimeout, homingCount := (homingLimit g).toNat }

theorem exec_homeTimeout (hs : (s.axes.get x).state = .homing)
    (h : homingLimit (s.set.axes.get x) ≤ ((s.axes.get x).homingCount : Int) + 1) :
    exec (.homeTimeout x) s = .next (partFailed x
      { s with axes := s.axes.set x (timedOut (s.set.axes.get x) (s.axes.get x)) }) := by
  refine congrArg Host.Outcome.next ?_
  simp only [homeTimeout, hs, if_pos h]
  rfl

theorem stepIssued_limit (hs : (s.axes.get x).state = .homing)
    (h : homingLimit (s.set.axes.get x) ≤ ((s.axes.get x).homingCount : Int) + 1) :
    exec (.stepIssued x (s.axes.get x).dir) s = exec (.homeTimeout x) s := by
  refine congrArg Host.Outcome.next ?_
  simp only [stepIssued, homeTimeout, hs, if_pos h, if_true]

theorem partFailed_nil (hreq : s.mq.requests = []) : partFailed x s = s := by
  have hfind : (s.axes.get x).running.bind (findRequest s) = none := by
    cases (s.axes.get x).running <;> simp [findRequest, hreq]
  unfold partFailed
  rw [hfind]
  exact settleQueue_nil hreq

/-- The part of an axis in the only request has failed: the request's other axes are stopped, and it is marked. -/
theorem partFailed_single {q : Request} (hreq : s.mq.requests = [q]) (h : (s.axes.get x).running = some q.serial) :
    partFailed x s = settleQueue { s with
      axes := s.axes.map fun y a => if q.axes.get y = true ∧ y ≠ x then stopAxis (s.set.axes.get y) a else a,
      mq := { s.mq with requests := [{ q with
        failed := true, stopped := q.stopped || allAxes.any fun y => q.axes.get y && decide (y ≠ x) }] } } := by
  have hfind : (s.axes.get x).running.bind (findRequest s) = some q := by
    rw [h]
    simp [findRequest, hreq]
  unfold partFailed
  rw [hfind]
  dsimp only [updateRequest, stopAxes]
  rw [hreq, hasAxis_others]
  simp [PerAxis.get_map]

/-- The only request, of Port A and of one axis, fails with that axis. -/
theorem partFailed_portA {q : Request} {a : AxisRec} (hreq : s.mq.requests = [q]) (hd : q.dispatched = true)
    (hs : q.source = .portA) (hk : q.kind ≠ .comp) (hx : q.axes = (PerAxis.const false).set x true)
    (hax : ∀ y, y ≠ x → (s.axes.get y).running ≠ some q.serial) (ha : a.running = some q.serial)
    (hrest : a.state.busy = false) :
    partFailed x { s with axes := s.axes.set x a } = { s with
      axes := s.axes.set x { a with running := none },
      mq := { s.mq with
        requests := [],
        outcomes := { s.mq.outcomes with a := pushWindow 4 s.mq.outcomes.a ⟨q.tag, q.kind, .fault⟩ } },
      port := s.port.raise (.port .a) .motionFault } := by
  have halone : ∀ y, ¬ (q.axes.get y = true ∧ y ≠ x) := by
    rintro y ⟨hy, hne⟩
    rw [hx, PerAxis.get_set_other _ _ _ _ (Ne.symm hne), PerAxis.get_const] at hy
    cases hy
  have haxes : ((s.axes.set x a).map fun y b =>
      if q.axes.get y = true ∧ y ≠ x then stopAxis (s.set.axes.get y) b else b) = s.axes.set x a :=
    PerAxis.ext_get fun y => by rw [PerAxis.get_map, if_neg (halone y)]
  let p : Request := { q with
    failed := true, stopped := q.stopped || allAxes.any fun y => q.axes.get y && decide (y ≠ x) }
  rw [partFailed_single (s := { s with axes := s.axes.set x a }) hreq (by rw [PerAxis.get_set_same]; exact ha)]
  dsimp only
  rw [haxes]
  exact settleQueue_portA (s := { s with mq := { s.mq with requests := [p] } }) (q := p) rfl hd hs hk hx
    (.inl nofun) hax ha hrest

theorem homingLimit_clauses :
    let r := s.axes.get x
    let limit := (s.set.axes.get x).travel + (s.set.axes.get x).travel / 10
    let fault : AxisRec := { r with
      state := .fault, leg := .none, target := none, jogOwner := none, jogTimer := none, reason := .homeTimeout,
      homingCount := limit.toNat }
    (r.state = .homing → limit ≤ (r.homingCount : Int) + 1 →
      exec (.stepIssued x r.dir) s = exec (.homeTimeout x) s
      ∧ ∃ t, exec (.homeTimeout x) s = .next t
        ∧ QueueSettled (failedPart x { s with axes := s.axes.set x fault }) t)
    ∧ (r.state = .homing → limit ≤ (r.homingCount : Int) + 1 → s.mq.requests = [] → r.running = none →
      exec (.homeTimeout x) s = .next { s with axes := s.axes.set x fault })
    ∧ (∀ q : Request, r.state = .homing → limit ≤ (r.homingCount : Int) + 1 → s.mq.requests = [q] →
      q.dispatched = true → q.source = .portA → q.kind = .home → q.axes = (PerAxis.const false).set x true →
      r.running = some q.serial → (∀ y, y ≠ x → (s.axes.get y).running ≠ some q.serial) →
      exec (.homeTimeout x) s = .next { s with
        axes := s.axes.set x { fault with running := none },
        mq := { s.mq with
          requests := [],
          outcomes := { s.mq.outcomes with a := pushWindow 4 s.mq.outcomes.a ⟨q.tag, .home, .fault⟩ } },
        port := s.port.raise (.port .a) .motionFault }) := by
  intro r limit fault
  refine ⟨fun hs h => ⟨stepIssued_limit hs h, _, exec_homeTimeout hs h, partFailed_settled x _⟩,
    fun hs h hreq hrun => (exec_homeTimeout hs h).trans (congrArg Host.Outcome.next ?_),
    fun q hs h hreq hd hsrc hk hx hrun hothers => (exec_homeTimeout hs h).trans (congrArg Host.Outcome.next ?_)⟩
  · exact partFailed_nil hreq
  · exact hk ▸ partFailed_portA hreq hd hsrc (by rw [hk]; decide) hx hothers hrun rfl

end

/-- Settles O20, by the end of the only request, the edges of the home switch and the homing limit. -/
theorem settleAndHoming : Obligations.SettleAndHoming := by
  refine ⟨fun s x => ?_, fun s x => ?_⟩
  · intro r hs
    obtain ⟨h1, h2, h3, h4⟩ := settle_clauses (s := s) (x := x) hs
    exact ⟨h1, h2, h3, h4, settle_end_clauses hs⟩
  · obtain ⟨h1, h2, h3⟩ := homeEdge_clauses (s := s) (x := x)
    exact ⟨h1, h2, h3, homingLimit_clauses⟩

/-! ## The index check (06 R101) -/

section
variable {g : AxisSettings} {r : AxisRec}

/-- An axis that moves or settles is still in motion after STOP. -/
theorem stopAxis_busy (h : r.state = .moving ∨ r.state = .settling) : (stopAxis g r).state.busy = true := by
  rcases h with h | h
  · unfold stopAxis
    rw [h]
    cases hl : r.leg with
    | leg1 | leg2 => exact (congrArg AxisState.busy h).trans rfl
    | none | seek | release | run | hold | stopping => exact (congrArg AxisState.busy h).trans rfl
  · unfold stopAxis
    rw [h]
    exact (congrArg AxisState.busy h).trans rfl

/-- An axis that neither moves, settles nor jogs is at rest after STOP: a homing one becomes UNHOMED. -/
theorem stopAxis_rest (h : r.state ≠ .moving ∧ r.state ≠ .settling ∧ r.state ≠ .jog) :
    (stopAxis g r).state.busy = false := by
  obtain ⟨h1, h2, h3⟩ := h
  unfold stopAxis
  cases hs : r.state with
  | moving => exact absurd hs h1
  | settling => exact absurd hs h2
  | jog => exact absurd hs h3
  | homing => rfl
  | unhomed | idle | lost | fault => exact (congrArg AxisState.busy hs).trans rfl

end

section
variable {s : State} {x : Axis}

/-- The record of an axis whose index lies elsewhere. -/
def lostAt (p : Int) (r : AxisRec) : AxisRec := { haltAxis .lost r with indexError := some p }

/-- The filtered level of an index input takes the raw one. -/
def confirmIndex (x : Axis) (s : State) : State :=
  { s with inputs := { s.inputs with index := s.inputs.index.set x (s.inputs.index.get x).confirm } }

theorem indexEdge_taken (hh : s.held = false) (hf : (s.inputs.index.get x).raw ≠ (s.inputs.index.get x).level) :
    indexEdge x s =
      if (s.inputs.index.get x).raw && decide ((s.axes.get x).state = .moving)
          && decide ((s.set.axes.get x).indexTol < mag ((s.inputs.index.get x).edgePos - (s.set.axes.get x).indexPos)) then
        partFailed x ((confirmIndex x s).setAxis x (lostAt (s.inputs.index.get x).edgePos (s.axes.get x)))
      else confirmIndex x s :=
  if_neg (by simp [hh, (running_iff _).2 hf])

/-- The end of a request looks at the queue for the records that stay alone. -/
theorem ended_requests (q : Request) (o : Outcome) (l : List Request) (s : State) :
    ended q o { s with mq := { s.mq with requests := l } } = { ended q o s with
      mq := { (ended q o s).mq with requests := l.filter fun r => decide (r.serial ≠ q.serial) } } := rfl

/-- The only request has failed, and its other axes are at rest once they are stopped: it ends FAULT. -/
theorem partFailed_ends {q : Request} (hreq : s.mq.requests = [q]) (hd : q.dispatched = true)
    (hrun : (s.axes.get x).running = some q.serial) (hx : (s.axes.get x).state.busy = false)
    (h : ∀ y, y ≠ x → q.axes.get y = true → (s.axes.get y).state ≠ .moving ∧ (s.axes.get y).state ≠ .settling
      ∧ (s.axes.get y).state ≠ .jog) :
    partFailed x s = ended q .fault { s with
      axes := s.axes.map fun y a => if q.axes.get y = true ∧ y ≠ x then stopAxis (s.set.axes.get y) a else a } := by
  let t : State := { s with
    axes := s.axes.map fun y a => if q.axes.get y = true ∧ y ≠ x then stopAxis (s.set.axes.get y) a else a }
  let p : Request := { q with
    failed := true, stopped := q.stopped || allAxes.any fun y => q.axes.get y && decide (y ≠ x) }
  have hrest : atRest { t with mq := { s.mq with requests := [p] } } p := by
    refine ⟨hd, fun y hy => ?_⟩
    show (t.axes.get y).state.busy = false
    rw [PerAxis.get_map]
    by_cases hyx : y = x
    · subst hyx
      rw [if_neg (by simp)]
      exact hx
    · rw [if_pos ⟨hy, hyx⟩]
      exact stopAxis_rest (h y hyx hy)
  have hfilter : ([p].filter fun r => decide (r.serial ≠ q.serial)) =
      t.mq.requests.filter fun r => decide (r.serial ≠ q.serial) := by
    rw [show t.mq.requests = [q] from hreq]
    simp [p]
  calc partFailed x s = settleQueue { t with mq := { s.mq with requests := [p] } } := partFailed_single hreq hrun
    _ = ended q .fault { t with mq := { s.mq with requests := [p] } } :=
      (settleQueue_single rfl hrest).trans (endRequest_ended p .fault _ (.inl nofun))
    _ = ended q .fault t := (ended_requests q .fault [p] t).trans (by rw [hfilter]; rfl)

/-- The only request has failed, and another of its axes is still in motion: it goes on, marked. -/
theorem partFailed_goes_on {q : Request} (hreq : s.mq.requests = [q]) (hd : q.dispatched = true)
    (hrun : (s.axes.get x).running = some q.serial)
    (h : ∃ y, y ≠ x ∧ q.axes.get y = true ∧ ((s.axes.get y).state = .moving ∨ (s.axes.get y).state = .settling)) :
    partFailed x s = { s with
      axes := s.axes.map fun y a => if q.axes.get y = true ∧ y ≠ x then stopAxis (s.set.axes.get y) a else a,
      mq := { s.mq with requests := [{ q with failed := true, stopped := true }] } } := by
  obtain ⟨y, hyx, hy, hbusy⟩ := h
  have hothers : (q.stopped || allAxes.any fun z => q.axes.get z && decide (z ≠ x)) = true := by
    rw [(any_allAxes _).2 ⟨y, by simp [hy, hyx]⟩, Bool.or_true]
  rw [partFailed_single hreq hrun, hothers]
  refine settleQueue_still (fun p hp hrest => ?_) (heldBefore_of_running ?_)
  · obtain rfl := List.mem_singleton.1 hp
    have := hrest.2 y hy
    rw [PerAxis.get_map, if_pos ⟨hy, hyx⟩, stopAxis_busy hbusy] at this
    cases this
  · intro p hp
    obtain rfl := List.mem_singleton.1 hp
    exact hd

theorem index_clauses :
    let r := s.axes.get x
    let g := s.set.axes.get x
    let f := s.inputs.index.get x
    let level : Inputs := { s.inputs with index := s.inputs.index.set x { f with level := f.raw } }
    let lost : AxisRec := { r with
      state := .lost, leg := .none, target := none, jogOwner := none, jogTimer := none, indexError := some f.edgePos }
    s.held = false → f.raw ≠ f.level →
    (f.raw = true → r.state = .moving → g.indexTol < mag (f.edgePos - g.indexPos) →
      (∃ t, exec (.indexEdge x) s = .next t
        ∧ QueueSettled (failedPart x { s with inputs := level, axes := s.axes.set x lost }) t)
      ∧ (s.mq.requests = [] → exec (.indexEdge x) s = .next { s with inputs := level, axes := s.axes.set x lost })
      ∧ (∀ q : Request, s.mq.requests = [q] → q.dispatched = true → q.axes.get x = true →
        r.running = some q.serial →
        let axes := (s.axes.set x lost).map fun y a =>
          if q.axes.get y = true ∧ y ≠ x then stopAxis (s.set.axes.get y) a else a
        ((∀ y, y ≠ x → q.axes.get y = true → (s.axes.get y).state ≠ .moving ∧ (s.axes.get y).state ≠ .settling
            ∧ (s.axes.get y).state ≠ .jog) →
          exec (.indexEdge x) s = .next (ended q .fault { s with inputs := level, axes := axes }))
        ∧ ((∃ y, y ≠ x ∧ q.axes.get y = true
            ∧ ((s.axes.get y).state = .moving ∨ (s.axes.get y).state = .settling)) →
          exec (.indexEdge x) s = .next { s with
            inputs := level, axes := axes,
            mq := { s.mq with requests := [{ q with failed := true, stopped := true }] } })))
    ∧ ((f.raw = false ∨ r.state ≠ .moving ∨ mag (f.edgePos - g.indexPos) ≤ g.indexTol) →
      exec (.indexEdge x) s = .next { s with inputs := level }) := by
  intro r g f level lost hh hf
  let t : State := { s with inputs := level, axes := s.axes.set x lost }
  have hsame : t.axes.get x = lost := PerAxis.get_set_same _ _ _
  have hother : ∀ y, y ≠ x → t.axes.get y = s.axes.get y := fun y hy => PerAxis.get_set_other _ _ _ _ (Ne.symm hy)
  refine ⟨fun hraw hs hoff => ?_, fun hin => congrArg Host.Outcome.next ?_⟩
  · have hexec : exec (.indexEdge x) s = .next (partFailed x t) :=
      congrArg Host.Outcome.next ((indexEdge_taken hh hf).trans (if_pos (by
        rw [Bool.and_eq_true, Bool.and_eq_true, decide_eq_true_iff, decide_eq_true_iff]
        exact ⟨⟨hraw, hs⟩, hoff⟩)))
    refine ⟨⟨_, hexec, partFailed_settled x _⟩, fun h => by rw [hexec, partFailed_nil (s := t) h],
      fun q hreq hd hx hrun => ⟨fun h => ?_, fun h => ?_⟩⟩
    · rw [hexec, partFailed_ends (s := t) hreq hd (by rw [hsame]; exact hrun) (by rw [hsame]; rfl)
        (fun y hy hq => by rw [hother y hy]; exact h y hy hq)]
    · obtain ⟨y, hyx, hy, hbusy⟩ := h
      rw [hexec, partFailed_goes_on (s := t) hreq hd (by rw [hsame]; exact hrun)
        ⟨y, hyx, hy, by rw [hother y hyx]; exact hbusy⟩]
  · refine (indexEdge_taken hh hf).trans (if_neg ?_)
    rw [Bool.and_eq_true, Bool.and_eq_true, decide_eq_true_iff, decide_eq_true_iff]
    rintro ⟨⟨hraw, hs⟩, hoff⟩
    rcases hin with h | h | h
    · exact absurd (h.symm.trans hraw) (by decide)
    · exact h hs
    · exact absurd hoff (Int.not_lt.2 h)

/-! ## MDFLT (06 R102) -/

/-- The requests after a driver fault: every running one has failed. -/
def failRunning (l : List Request) : List Request := l.map fun q => if q.dispatched then { q with failed := true } else q

/-- The axes after a driver fault, MOTION_FAULT raised. -/
def driverFaulted (s : State) : State := { s with
  axes := s.axes.map fun _ r => { haltAxis .fault r with reason := .driver },
  port := s.port.raise .both .motionFault }

theorem driverFault_eq (s : State) : driverFault s =
    settleQueue { driverFaulted s with mq := { s.mq with requests := failRunning s.mq.requests } } := rfl

theorem failRunning_of_running {l : List Request} (h : ∀ q ∈ l, q.dispatched = true) :
    failRunning l = l.map fun q => { q with failed := true } :=
  List.map_congr_left fun q hq => if_pos (h q hq)

theorem driverFault_nil (h : s.mq.requests = []) : driverFault s = driverFaulted s := by
  have hmq : ({ s.mq with requests := failRunning s.mq.requests } : Queue) = s.mq := by
    rw [h]
    exact congrArg (fun l => { s.mq with requests := l }) h.symm
  rw [driverFault_eq, hmq]
  exact settleQueue_nil h

/-- The requests that are left after some have ended. -/
def leftAfter (l k : List Request) : List Request :=
  l.foldl (fun k q => k.filter fun r => decide (r.serial ≠ q.serial)) k

theorem endedAll_requests (l k : List Request) (s : State) :
    l.foldl (fun t q => ended q .fault t) { s with mq := { s.mq with requests := k } } =
      let t := l.foldl (fun t q => ended q .fault t) s
      { t with mq := { t.mq with requests := leftAfter l k } } := by
  induction l generalizing s k with
  | nil => rfl
  | cons q l ih =>
    rw [List.foldl_cons, ended_requests, ih]
    rfl

theorem leftAfter_all {l k : List Request} (h : ∀ q ∈ k, ∃ r ∈ l, r.serial = q.serial) : leftAfter l k = [] := by
  induction l generalizing k with
  | nil =>
    refine List.eq_nil_iff_forall_not_mem.2 fun q hq => ?_
    obtain ⟨r, hr, _⟩ := h q hq
    cases hr
  | cons p l ih =>
    refine ih fun q hq => ?_
    obtain ⟨hq, hne⟩ := List.mem_filter.1 hq
    obtain ⟨r, hr, he⟩ := h q hq
    rcases List.mem_cons.1 hr with rfl | hr
    · exact absurd he.symm (by simpa using hne)
    · exact ⟨r, hr, he⟩

/-- With every record gone it does not matter what the records held. -/
theorem endedAll_keeps {l k : List Request} (hk : leftAfter l k = []) (hs : leftAfter l s.mq.requests = []) :
    l.foldl (fun t q => ended q .fault t) { s with mq := { s.mq with requests := k } } =
      l.foldl (fun t q => ended q .fault t) s := by
  rw [endedAll_requests, hk, ← hs]
  exact (endedAll_requests l s.mq.requests s).symm

theorem endAll_failed (l : List Request) (s : State) :
    endAll (l.map fun q => { q with failed := true }) s = l.foldl (fun t q => ended q .fault t) s := by
  rw [endAll, List.foldl_map]
  refine congrArg (fun f => List.foldl f s l) (funext fun t => funext fun q => ?_)
  exact endRequest_ended _ _ _ (.inl nofun)

theorem driverFault_all (hd : ∀ q ∈ s.mq.requests, q.dispatched = true)
    (hn : (s.mq.requests.map Request.serial).Nodup) :
    driverFault s = s.mq.requests.foldl (fun t q => ended q .fault t) (driverFaulted s) := by
  let l := s.mq.requests.map fun q => { q with failed := true }
  let t : State := { driverFaulted s with mq := { s.mq with requests := l } }
  have hserial : l.map Request.serial = s.mq.requests.map Request.serial := by
    simp only [l, List.map_map]
    rfl
  have hrest : ∀ u : State, u.axes.map (fun _ a => a.state) = t.axes.map (fun _ a => a.state) →
      ∀ q ∈ l, atRest u q := by
    refine fun u hu q hq => ⟨?_, fun x _ => ?_⟩
    · obtain ⟨p, hp, rfl⟩ := List.mem_map.1 hq
      exact hd p hp
    · have := congrArg (fun v => v.get x) hu
      simp only [PerAxis.get_map] at this
      rw [this]
      simp only [t, driverFaulted, PerAxis.get_map]
      rfl
  have hfinish : finishRequests t.mq.requests.length t = endAll l t :=
    finishRequests_all l t rfl (hserial ▸ hn) (fun q hq => (hrest t rfl q hq).1) hrest (fun q hq => by
      obtain ⟨p, _, rfl⟩ := List.mem_map.1 hq
      exact nofun)
  have hserials : ∀ q ∈ l, ∃ r ∈ s.mq.requests, r.serial = q.serial := by
    intro q hq
    obtain ⟨p, hp, rfl⟩ := List.mem_map.1 hq
    exact ⟨p, hp, rfl⟩
  have hall : endAll l t = s.mq.requests.foldl (fun t q => ended q .fault t) (driverFaulted s) :=
    (endAll_failed s.mq.requests t).trans (endedAll_keeps (s := driverFaulted s) (leftAfter_all hserials)
      (leftAfter_all fun q hq => ⟨q, hq, rfl⟩))
  have hnone : (endAll l t).mq.requests = [] := by
    rw [show endAll l t = _ from endAll_failed s.mq.requests t]
    exact (congrArg (fun u => u.mq.requests) (endedAll_requests s.mq.requests l (driverFaulted s))).trans
      (leftAfter_all hserials)
  rw [driverFault_eq, failRunning_of_running hd]
  show dispatchPass (finishRequests t.mq.requests.length t).mq.requests.length (finishRequests t.mq.requests.length t) = _
  rw [hfinish, hnone]
  exact hall

/-- The filtered level of MDFLT takes the raw one. -/
def confirmMdflt (s : State) : State := { s with inputs := { s.inputs with mdflt := s.inputs.mdflt.confirm } }

theorem mdfltActivated_taken (hh : s.held = false) (hr : s.inputs.mdflt.raw = true) (hl : s.inputs.mdflt.level = false) :
    mdfltActivated s = if (confirmMdflt s).deaf then confirmMdflt s else driverFault (confirmMdflt s) :=
  if_neg (by simp [hh, (running_iff s.inputs.mdflt).2 (by rw [hr, hl]; decide), hr])

theorem confirmMdflt_eq {b : Bool} (h : s.inputs.mdflt.raw = b) :
    confirmMdflt s = { s with inputs := { s.inputs with mdflt := { s.inputs.mdflt with level := b } } } := by
  subst h
  rfl

theorem mdflt_clauses (hh : s.held = false) :
    let level (b : Bool) : Inputs := { s.inputs with mdflt := { s.inputs.mdflt with level := b } }
    let faulted : State := { s with
      inputs := level true,
      axes := s.axes.map fun _ r => { r with
        state := .fault, leg := .none, target := none, jogOwner := none, jogTimer := none, reason := .driver },
      port := s.port.raise .both .motionFault }
    (s.inputs.mdflt.raw = true → s.inputs.mdflt.level = false → s.store.state = .loading →
      exec .mdfltActivation s = .next { s with inputs := level true })
    ∧ (s.inputs.mdflt.raw = true → s.inputs.mdflt.level = false → s.store.state ≠ .loading →
      ∃ t, exec .mdfltActivation s = .next t
        ∧ QueueSettled { faulted with mq := { s.mq with requests := s.mq.requests.map fun q =>
            if q.dispatched then { q with failed := true } else q } } t)
    ∧ (s.inputs.mdflt.raw = true → s.inputs.mdflt.level = false → s.store.state ≠ .loading → s.mq.requests = [] →
      exec .mdfltActivation s = .next faulted)
    ∧ (s.inputs.mdflt.raw = true → s.inputs.mdflt.level = false → s.store.state ≠ .loading →
      (∀ q ∈ s.mq.requests, q.dispatched = true) → (s.mq.requests.map Request.serial).Nodup →
      exec .mdfltActivation s = .next (s.mq.requests.foldl (fun t q => ended q .fault t) faulted))
    ∧ (s.inputs.mdflt.raw = false → s.inputs.mdflt.level = true →
      exec .mdfltDeassertion s = .next { s with inputs := level false }) := by
  intro level faulted
  have hactive (hr : s.inputs.mdflt.raw = true) (hl : s.inputs.mdflt.level = false) (hs : s.store.state ≠ .loading) :
      exec .mdfltActivation s = .next (driverFault { s with inputs := level true }) := by
    have hdeaf : (confirmMdflt s).deaf = false := not_deaf_of_not_loading hh hs
    exact congrArg Host.Outcome.next ((mdfltActivated_taken hh hr hl).trans
      ((if_neg (by simp [hdeaf])).trans (by rw [confirmMdflt_eq hr])))
  refine ⟨fun hr hl hs => congrArg Host.Outcome.next ((mdfltActivated_taken hh hr hl).trans
      ((if_pos (deaf_of_loading hs)).trans (confirmMdflt_eq hr))),
    fun hr hl hs => ⟨_, hactive hr hl hs, settleQueue_settled _⟩,
    fun hr hl hs h => (hactive hr hl hs).trans (congrArg Host.Outcome.next (driverFault_nil h)),
    fun hr hl hs hd hn => (hactive hr hl hs).trans (congrArg Host.Outcome.next (driverFault_all hd hn)),
    fun hr hl => congrArg Host.Outcome.next ?_⟩
  refine (if_neg ?_).trans (confirmMdflt_eq hr)
  simp [hh, (running_iff s.inputs.mdflt).2 (by rw [hr, hl]; decide), hr]

end

/-! ## Raw levels (06 R94) -/

theorem Filtered.change_eq (f : Filtered) (b : Bool) (p : Int) :
    f.change b p = if b = f.raw then f else { f with raw := b, edgePos := if b = f.level then f.edgePos else p } := by
  unfold Filtered.change
  by_cases h1 : b = f.raw
  · rw [if_pos h1, if_pos h1]
  · rw [if_neg h1, if_neg h1]
    by_cases h2 : b = f.level
    · rw [if_pos h2, if_pos h2]
    · rw [if_neg h2, if_neg h2]

/-- Settles O21, by the index check, the driver fault and the filter of an input. -/
theorem axisInputs : Obligations.AxisInputs := by
  refine ⟨fun s x => index_clauses, fun s hh => mdflt_clauses hh, fun s b => ?_⟩
  intro u
  have hu : (fun (f : Filtered) (p : Int) => if s.held then f.follow b else f.change b p) = u :=
    funext fun f => funext fun p => by rw [Filtered.change_eq]; rfl
  have hexec : ∀ pin, exec (.rawLevelChange pin b) s = .next { s with inputs := match pin with
      | .home x => { s.inputs with home := s.inputs.home.set x (u (s.inputs.home.get x) (s.axes.get x).position) }
      | .index x => { s.inputs with index := s.inputs.index.set x (u (s.inputs.index.get x) (s.axes.get x).position) }
      | .mdflt => { s.inputs with mdflt := u s.inputs.mdflt 0 }
      | .tco => { s.inputs with tco := u s.inputs.tco 0 }
      | .drvflt => { s.inputs with drvflt := u s.inputs.drvflt 0 }
      | .tach f => { s.inputs with tach := s.inputs.tach.set f (u (s.inputs.tach.get f) 0) } } := by
    intro pin
    rw [← hu]
    cases pin <;> rfl
  exact ⟨fun x => ⟨hexec (.home x), hexec (.index x)⟩, hexec .mdflt, hexec .tco, hexec .drvflt, fun f => hexec (.tach f)⟩

end Sys2Proof.Machine
end

section
/-! Jogging (06, section 6.5): the ramp, the directions, the start, the refresh, the refusals and the ends of a jog. -/

namespace Sys2Proof.Machine

/-! ## The ramp and the directions (06 R96, R105) -/

theorem ceilDiv_bounds {n d : Int} (hd : 0 < d) : n ≤ d * ceilDiv n d ∧ d * (ceilDiv n d - 1) < n := by
  have h := Int.mul_ediv_add_emod (-n) d
  have h0 := Int.emod_nonneg (-n) (Int.ne_of_gt hd)
  have h1 := Int.emod_lt_of_pos (-n) hd
  unfold ceilDiv
  rw [Int.mul_sub, Int.mul_neg]
  omega

theorem jogStep_eq (x : Axis) (o : Orientation) (n : Nat) :
    let along (up down : Nat) : Option StepDir :=
      if n = up then some .positive else if n = down then some .negative else none
    jogStep x o n = match x, o with
      | .shiftH, .floor => along 1 0
      | .shiftH, .ceiling => along 0 1
      | .shiftV, .floor => along 2 3
      | .shiftV, .ceiling => along 3 2
      | .zoom, _ | .focus, _ => along 4 5 := by
  cases x <;> cases o <;> match n with
    | 0 | 1 | 2 | 3 | 4 | 5 => rfl
    | n + 6 => simp [jogStep]

/-! ## The refresh of a jog (06 R106) -/

section
variable {g : AxisSettings} {r : AxisRec} {d : StepDir} {load : Int} {level : Nat}

/-- The record of a jog whose timeout has restarted and whose level is that of the refresh. -/
def restarted (load : Int) (level : Nat) (r : AxisRec) : AxisRec := { startTimeout load r with jogLevel := level }

/-- What a refresh makes of the record of a jog. -/
def refreshed (g : AxisSettings) (load : Int) (d : StepDir) (level : Nat) (r : AxisRec) : AxisRec :=
  let q := restarted load level r
  match q.leg with
  | .hold => if d = q.jogDir then q else beginRun g d q
  | _ =>
    if q.dir = q.jogDir then
      if d = q.dir then changeLevel g level q else { slowJog g q with jogDir := d, jogLow := g.startSpeed }
    else if d = q.jogDir then q
    else changeLevel g level { q with jogDir := d }

theorem refreshJog_eq (s : State) (x : Axis) :
    refreshJog s x d level = refreshed (s.set.axes.get x) s.set.jogTimeout d level (s.axes.get x) := rfl

theorem refreshed_run (h : r.leg = .run) : refreshed g load d level r =
    if r.dir = r.jogDir then
      if d = r.dir then changeLevel g level (restarted load level r)
      else { slowJog g (restarted load level r) with jogDir := d, jogLow := g.startSpeed }
    else if d = r.jogDir then restarted load level r
    else changeLevel g level { restarted load level r with jogDir := d } := by
  cases r
  simp only at h
  subst h
  rfl

theorem refreshed_hold (h : r.leg = .hold) : refreshed g load d level r =
    if d = r.jogDir then restarted load level r else beginRun g d (restarted load level r) := by
  cases r
  simp only at h
  subst h
  rfl

theorem refreshed_jogRun (h : r.leg = .run ∨ r.leg = .hold) :
    (refreshed g load d level r).jogRun = r.jogRun + 1 ∧ (refreshed g load d level r).state = r.state := by
  rcases h with h | h
  · rw [refreshed_run h]
    split
    · split <;> exact ⟨rfl, rfl⟩
    · split <;> exact ⟨rfl, rfl⟩
  · rw [refreshed_hold h]
    split <;> exact ⟨rfl, rfl⟩

end

/-! ## JOG (06 R104 to R106) -/

section
variable {s : State} {p : Port} {x : Axis} {a : JogArgs} {d : StepDir}

theorem waitingNames_iff : waitingNames s x = true ↔ ∃ q ∈ s.mq.requests, q.dispatched = false ∧ q.axes.get x = true := by
  simp [waitingNames, Request.names]

theorem waitingNames_eq_false :
    waitingNames s x = false ↔ ∀ q ∈ s.mq.requests, q.dispatched = false → q.axes.get x = false := by
  simp [waitingNames, Request.names]

theorem jogCommand_jog (hx : axisOf a.axis = some x) (h1 : 1 ≤ a.level) (h4 : a.level ≤ 4)
    (hs : (s.axes.get x).state = .jog) (hd : jogStep x (s.axes.get x).jogMap a.dir = some d) :
    jogCommand p a s =
      if (s.axes.get x).jogOwner = some p ∧ ((s.axes.get x).leg = .run ∨ (s.axes.get x).leg = .hold) then
        accept (s.setAxis x (refreshJog s x d a.level))
      else refuse s .busy := by
  unfold jogCommand
  rw [hx]
  dsimp only
  rw [if_pos hs, hd]
  dsimp only
  rw [if_pos ⟨h1, h4⟩, if_pos hs]

theorem jogCommand_other (hx : axisOf a.axis = some x) (h1 : 1 ≤ a.level) (h4 : a.level ≤ 4)
    (hs : (s.axes.get x).state ≠ .jog) (hd : jogStep x s.att.effective a.dir = some d) :
    jogCommand p a s =
      if (s.axes.get x).state = .idle ∧ (s.axes.get x).running = none ∧ waitingNames s x = false then
        accept (s.setAxis x (startJog s p x d a.level))
      else refuse s .busy := by
  unfold jogCommand
  rw [hx]
  dsimp only
  rw [if_neg hs, hd]
  dsimp only
  rw [if_pos ⟨h1, h4⟩, if_neg hs]

theorem startJog_eq {level : Nat} : startJog s p x d level =
    let r := s.axes.get x
    let g := s.set.axes.get x
    { r with
      state := .jog, leg := if r.position = softLimit g d then .hold else .run, jogOwner := some p, jogDir := d,
      jogLevel := level, jogTimer := some s.set.jogTimeout, jogRun := r.jogRun + 1, jogMap := s.att.effective,
      dir := d, legStart := r.position, jogPeak := levelSpeed g level, jogLow := levelSpeed g level,
      jogSlow := g.startSpeed * g.startSpeed, jogFast := g.startSpeed * g.startSpeed } := by
  unfold startJog
  dsimp only
  split <;> rfl

theorem exec_jog_start (hc : canUse p .motion s) (hx : axisOf a.axis = some x) (h1 : 1 ≤ a.level) (h4 : a.level ≤ 4)
    (hs : (s.axes.get x).state = .idle) (hr : (s.axes.get x).running = none)
    (hw : ∀ q ∈ s.mq.requests, q.dispatched = false → q.axes.get x = false)
    (hd : jogStep x s.att.effective a.dir = some d) :
    exec (.jog p (.form a)) s =
      .next (replied p 0x50#8 .ok [] s ((taken p s).setAxis x (startJog (taken p s) p x d a.level))) :=
  command_eq hc ((jogCommand_other (s := taken p s) hx h1 h4 (by simp [hs]) (by simpa using hd)).trans
    (if_pos ⟨by simpa using hs, by simpa using hr, waitingNames_eq_false.2 (by simpa using hw)⟩))

/-- JOG that is refused because the axis is busy, held, waited for or another port's. -/
theorem exec_jog_busy (hc : canUse p .motion s) (hx : axisOf a.axis = some x) (h1 : 1 ≤ a.level) (h4 : a.level ≤ 4)
    (h : ((s.axes.get x).state = .jog ∧ jogStep x (s.axes.get x).jogMap a.dir = some d
        ∧ ((s.axes.get x).jogOwner ≠ some p ∨ (s.axes.get x).leg = .stopping))
      ∨ ((s.axes.get x).state ≠ .jog ∧ jogStep x s.att.effective a.dir = some d
        ∧ ((s.axes.get x).state ≠ .idle ∨ (s.axes.get x).running ≠ none
          ∨ ∃ q ∈ s.mq.requests, q.dispatched = false ∧ q.axes.get x = true))) :
    exec (.jog p (.form a)) s = .next (replied p 0x50#8 .busy [] s (taken p s)) := by
  rcases h with ⟨hs, hd, hno⟩ | ⟨hs, hd, hno⟩
  · refine command_eq hc ((jogCommand_jog (s := taken p s) hx h1 h4 (by simp [hs]) (by simpa using hd)).trans
      (if_neg ?_))
    rw [taken_axes]
    rintro ⟨howner, hleg⟩
    rcases hno with h | h
    · exact h howner
    · rw [h] at hleg
      rcases hleg with h | h <;> cases h
  · refine command_eq hc ((jogCommand_other (s := taken p s) hx h1 h4 (by simp [hs]) (by simpa using hd)).trans
      (if_neg ?_))
    rw [taken_axes]
    rintro ⟨hidle, hfree, hw⟩
    rcases hno with h | h | ⟨q, hq, hqd, hqx⟩
    · exact h hidle
    · exact h hfree
    · exact absurd (waitingNames_eq_false.1 hw q (by simpa using hq) hqd) (by simp [hqx])

theorem exec_jog_refresh (hc : canUse p .motion s) (hx : axisOf a.axis = some x) (h1 : 1 ≤ a.level) (h4 : a.level ≤ 4)
    (hs : (s.axes.get x).state = .jog) (ho : (s.axes.get x).jogOwner = some p)
    (hl : (s.axes.get x).leg = .run ∨ (s.axes.get x).leg = .hold)
    (hd : jogStep x (s.axes.get x).jogMap a.dir = some d) :
    exec (.jog p (.form a)) s = .next (replied p 0x50#8 .ok [] s ((taken p s).setAxis x
      (refreshed (s.set.axes.get x) s.set.jogTimeout d a.level (s.axes.get x)))) := by
  refine command_eq hc ((jogCommand_jog (s := taken p s) hx h1 h4 (by simp [hs]) (by simpa using hd)).trans
    ((if_pos ⟨by simpa using ho, by simpa using hl⟩).trans ?_))
  rw [refreshJog_eq, taken_set, taken_axes]
  rfl

/-- The clauses on JOG. -/
theorem jog_clauses (hc : canUse p .motion s) (hx : axisOf a.axis = some x) (h1 : 1 ≤ a.level) (h4 : a.level ≤ 4) :
    let r := s.axes.get x
    let g := s.set.axes.get x
    let limit := match d with | .positive => g.travel | .negative => 0
    let speed := g.startSpeed + roundDiv ((g.maxSpeed - g.startSpeed) * ((a.level : Int) - 1)) 3
    (r.state = .idle → r.running = none → (∀ q ∈ s.mq.requests, q.dispatched = false → q.axes.get x = false) →
      jogStep x s.att.effective a.dir = some d →
      exec (.jog p (.form a)) s = .next (replied p 0x50#8 .ok [] s ((taken p s).setAxis x { r with
        state := .jog, leg := if r.position = limit then .hold else .run, jogOwner := some p, jogDir := d,
        jogLevel := a.level, jogTimer := some s.set.jogTimeout, jogRun := r.jogRun + 1, jogMap := s.att.effective,
        dir := d, legStart := r.position, jogPeak := speed, jogLow := speed,
        jogSlow := g.startSpeed * g.startSpeed, jogFast := g.startSpeed * g.startSpeed })))
    ∧ (r.state = .jog → r.jogOwner = some p → jogStep x r.jogMap a.dir = some d →
      let kept : AxisRec := { r with
        jogTimer := some s.set.jogTimeout, jogRun := r.jogRun + 1, jogLevel := a.level }
      let refreshes (q : AxisRec) : Prop :=
        exec (.jog p (.form a)) s = .next (replied p 0x50#8 .ok [] s ((taken p s).setAxis x q))
      let n := mag (r.position - r.legStart)
      let whole := mag ((match r.dir with | .positive => g.travel | .negative => 0) - r.legStart)
      let toward := r.jogPeak * r.jogPeak
      let fastest := if r.jogFast ≤ toward then min (r.jogFast + 2 * g.accel) toward
        else max (r.jogFast - 2 * g.accel) toward
      (r.leg = .run → r.dir = r.jogDir → d = r.dir →
        refreshes { kept with jogPeak := max r.jogPeak speed, jogLow := min r.jogLow speed })
      ∧ (r.leg = .run → r.dir = r.jogDir → d ≠ r.dir →
        refreshes { kept with
          jogDir := d, jogLow := g.startSpeed, stopLo := min (n + rampSteps g r.jogSlow) whole,
          stopHi := min (n + 1 + rampSteps g fastest) whole })
      ∧ (r.leg = .run → r.dir ≠ r.jogDir → d = r.jogDir → refreshes kept)
      ∧ (r.leg = .run → r.dir ≠ r.jogDir → d = r.dir →
        refreshes { kept with
          jogDir := d, jogPeak := max r.jogPeak speed, jogLow := min r.jogLow speed })
      ∧ (r.leg = .hold → d = r.jogDir → refreshes kept)
      ∧ (r.leg = .hold → d ≠ r.jogDir →
        refreshes { kept with
          leg := .run, jogDir := d, dir := d, legStart := r.position, jogPeak := speed, jogLow := speed,
          jogSlow := g.startSpeed * g.startSpeed, jogFast := g.startSpeed * g.startSpeed })
      ∧ (r.leg = .stopping →
        exec (.jog p (.form a)) s = .next (replied p 0x50#8 .busy [] s (taken p s))))
    ∧ (r.state = .idle → jogStep x s.att.effective a.dir = some d →
      (r.running ≠ none ∨ ∃ q ∈ s.mq.requests, q.dispatched = false ∧ q.axes.get x = true) →
      exec (.jog p (.form a)) s = .next (replied p 0x50#8 .busy [] s (taken p s)))
    ∧ (r.state = .jog → r.jogOwner ≠ some p → jogStep x r.jogMap a.dir = some d →
      exec (.jog p (.form a)) s = .next (replied p 0x50#8 .busy [] s (taken p s)))
    ∧ (r.state ≠ .jog → r.state ≠ .idle → jogStep x s.att.effective a.dir = some d →
      exec (.jog p (.form a)) s = .next (replied p 0x50#8 .busy [] s (taken p s))) := by
  intro r g limit speed
  refine ⟨fun hs hr hw hd => ?_, fun hs ho hd => ?_,
    fun hs hd hb => exec_jog_busy hc hx h1 h4 (.inr ⟨(by rw [show (s.axes.get x).state = _ from hs]; decide), hd, .inr hb⟩),
    fun hs ho hd => exec_jog_busy hc hx h1 h4 (.inl ⟨hs, hd, .inl ho⟩),
    fun hj hi hd => exec_jog_busy hc hx h1 h4 (.inr ⟨hj, hd, .inl hi⟩)⟩
  · rw [exec_jog_start hc hx h1 h4 hs hr hw hd, startJog_eq]
    simp only [taken_axes, taken_set, taken_att]
    cases d <;> rfl
  · intro kept refreshes n whole toward fastest
    have hrefresh : (r.leg = .run ∨ r.leg = .hold) → ∀ q, refreshed g s.set.jogTimeout d a.level r = q → refreshes q := by
      rintro hl q rfl
      exact exec_jog_refresh hc hx h1 h4 hs ho hl hd
    have hwhole : mag (softLimit g r.dir - r.legStart) = whole := by
      simp only [whole]
      cases r.dir <;> rfl
    refine ⟨fun hl ha hsame => hrefresh (.inl hl) _ ?_, fun hl ha hne => hrefresh (.inl hl) _ ?_,
      fun hl ha hto => hrefresh (.inl hl) _ ?_, fun hl ha hback => hrefresh (.inl hl) _ ?_,
      fun hl hto => hrefresh (.inr hl) _ ?_, fun hl hto => hrefresh (.inr hl) _ ?_,
      fun hl => exec_jog_busy hc hx h1 h4 (.inl ⟨hs, hd, .inr hl⟩)⟩
    · exact (refreshed_run hl).trans ((if_pos ha).trans (if_pos hsame))
    · refine (refreshed_run hl).trans ((if_pos ha).trans ((if_neg hne).trans ?_))
      rw [← hwhole]
      rfl
    · exact (refreshed_run hl).trans ((if_neg ha).trans (if_pos hto))
    · exact (refreshed_run hl).trans ((if_neg ha).trans (if_neg (by rw [hback]; exact ha)))
    · exact (refreshed_hold hl).trans (if_pos hto)
    · exact (refreshed_hold hl).trans (if_neg hto)

/-! ## The ends of a jog (06 R106, R107) -/

theorem jogTimedOut_eq {n : Nat} (hs : (s.axes.get x).state = .jog) :
    jogTimedOut ⟨x, n⟩ s =
      if (s.axes.get x).jogTimer.isSome ∧ (s.axes.get x).jogRun = n then
        s.setAxis x (endJog (s.set.axes.get x) (s.axes.get x))
      else s := by
  simp only [jogTimedOut, hs]

theorem jogTimedOut_earlier {n : Nat} (h : n ≠ (s.axes.get x).jogRun) : jogTimedOut ⟨x, n⟩ s = s := by
  cases hs : (s.axes.get x).state with
  | jog => exact (jogTimedOut_eq hs).trans (if_neg fun c => h c.2.symm)
  | unhomed | homing | idle | moving | settling | lost | fault => simp only [jogTimedOut, hs]

theorem endJog_hold {g : AxisSettings} {r : AxisRec} (h : r.leg = .hold) : endJog g r = settleAxis r := by
  simp only [endJog, h]

theorem endJog_run {g : AxisSettings} {r : AxisRec} (h : r.leg = .run) : endJog g r =
    if r.dir = r.jogDir then { slowJog g r with leg := .stopping, jogOwner := none, jogTimer := none }
    else { r with leg := .stopping, jogOwner := none, jogTimer := none } := by
  simp only [endJog, h]
  split <;> simp [h]

theorem jogEndCommand_eq {n : Nat} (hx : axisOf n = some x) :
    jogEndCommand p n s =
      if (s.axes.get x).state = .jog ∧ ((s.axes.get x).leg = .run ∨ (s.axes.get x).leg = .hold) then
        if (s.axes.get x).jogOwner = some p then accept (s.setAxis x (endJog (s.set.axes.get x) (s.axes.get x)))
        else refuse s .busy
      else accept s := by
  simp only [jogEndCommand, hx]

/-- JOG_END of an axis that does not jog, or decelerates already. -/
theorem exec_jogEnd_idle {n : Nat} (hc : canUse p .motion s) (hx : axisOf n = some x)
    (h : (s.axes.get x).state ≠ .jog ∨ (s.axes.get x).leg = .stopping) :
    exec (.jogEnd p (.form n)) s = .next (replied p 0x51#8 .ok [] s (taken p s)) := by
  refine command_eq hc ((jogEndCommand_eq (s := taken p s) hx).trans (if_neg ?_))
  rw [taken_axes]
  rintro ⟨hs, hl⟩
  rcases h with h | h
  · exact h hs
  · rw [h] at hl
    rcases hl with hl | hl <;> cases hl

theorem exec_jogEnd_owner {n : Nat} (hc : canUse p .motion s) (hx : axisOf n = some x) (hs : (s.axes.get x).state = .jog)
    (hl : (s.axes.get x).leg = .run ∨ (s.axes.get x).leg = .hold) (ho : (s.axes.get x).jogOwner = some p) :
    exec (.jogEnd p (.form n)) s = .next (replied p 0x51#8 .ok [] s
      ((taken p s).setAxis x (endJog (s.set.axes.get x) (s.axes.get x)))) := by
  refine command_eq hc ((jogEndCommand_eq (s := taken p s) hx).trans ?_)
  rw [taken_axes, taken_set, if_pos ⟨hs, hl⟩, if_pos ho]
  rfl

theorem exec_jogEnd_other {n : Nat} (hc : canUse p .motion s) (hx : axisOf n = some x) (hs : (s.axes.get x).state = .jog)
    (hl : (s.axes.get x).leg = .run ∨ (s.axes.get x).leg = .hold) (ho : (s.axes.get x).jogOwner ≠ some p) :
    exec (.jogEnd p (.form n)) s = .next (replied p 0x51#8 .busy [] s (taken p s)) := by
  refine command_eq hc ((jogEndCommand_eq (s := taken p s) hx).trans ?_)
  rw [taken_axes, if_pos ⟨hs, hl⟩, if_neg ho]
  rfl

theorem jogLimitReached_at (hs : (s.axes.get x).state = .jog) (hl : (s.axes.get x).leg = .run)
    (hd : (s.axes.get x).dir = (s.axes.get x).jogDir)
    (hp : (s.axes.get x).position = softLimit (s.set.axes.get x) (s.axes.get x).dir) :
    jogLimitReached x s = s.setAxis x { s.axes.get x with leg := .hold } := by
  have hat : atSoftLimit (s.set.axes.get x) (s.axes.get x) = true := by simp [atSoftLimit, hp]
  have hkeep : s.setAxis x { s.axes.get x with
      position := softLimit (s.set.axes.get x) (s.axes.get x).dir, leg := .hold } =
      s.setAxis x { s.axes.get x with leg := .hold } :=
    congrArg (fun p => s.setAxis x { s.axes.get x with position := p, leg := .hold }) hp.symm
  refine Eq.trans ?_ hkeep
  unfold jogLimitReached
  dsimp only
  split
  · exact if_pos ⟨hd, hat⟩
  · next hno => exact absurd hl (hno hs)

/-- After a refresh an expiry of the earlier run of the timeout changes nothing. -/
theorem jog_survives {t : State} (hc : canUse p .motion s) (hx : axisOf a.axis = some x) (h1 : 1 ≤ a.level)
    (h4 : a.level ≤ 4) (hs : (s.axes.get x).state = .jog) (hd : jogStep x (s.axes.get x).jogMap a.dir ≠ none)
    (ho : (s.axes.get x).jogOwner = some p) (hl : (s.axes.get x).leg = .run ∨ (s.axes.get x).leg = .hold)
    (ht : exec (.jog p (.form a)) s = .next t) :
    (t.axes.get x).state = .jog ∧ exec (.jogTimeoutExpiry ⟨x, (s.axes.get x).jogRun⟩) t = .next t := by
  obtain ⟨d, hd⟩ := Option.ne_none_iff_exists'.1 hd
  rw [exec_jog_refresh hc hx h1 h4 hs ho hl hd] at ht
  obtain rfl := Host.Outcome.next.inj ht
  obtain ⟨hrun, hstate⟩ := refreshed_jogRun (g := s.set.axes.get x) (load := s.set.jogTimeout) (d := d)
    (level := a.level) hl
  refine ⟨?_, congrArg Host.Outcome.next (jogTimedOut_earlier ?_)⟩
  · rw [replied_axes, State.setAxis, PerAxis.get_set_same, hstate, hs]
  · rw [replied_axes, State.setAxis, PerAxis.get_set_same, hrun]
    omega

/-- The clauses on the ends of a jog. -/
theorem jogEnd_clauses :
    let r := s.axes.get x
    let g := s.set.axes.get x
    let settled : AxisRec := { r with
      state := .settling, leg := .none, target := none, jogOwner := none, jogTimer := none }
    let n := mag (r.position - r.legStart)
    let whole := mag ((match r.dir with | .positive => g.travel | .negative => 0) - r.legStart)
    let toward := r.jogPeak * r.jogPeak
    let fastest := if r.jogFast ≤ toward then min (r.jogFast + 2 * g.accel) toward
      else max (r.jogFast - 2 * g.accel) toward
    let slowing : AxisRec := if r.dir = r.jogDir then
        { r with
          leg := .stopping, jogOwner := none, jogTimer := none,
          stopLo := min (n + rampSteps g r.jogSlow) whole, stopHi := min (n + 1 + rampSteps g fastest) whole }
      else { r with leg := .stopping, jogOwner := none, jogTimer := none }
    (r.leg = .hold → endJog g r = settled) ∧ (r.leg = .run → endJog g r = slowing) := by
  intro r g settled n whole toward fastest slowing
  have hwhole : mag (softLimit g r.dir - r.legStart) = whole := by
    simp only [whole]
    cases r.dir <;> rfl
  refine ⟨fun h => endJog_hold h, fun h => (endJog_run h).trans ?_⟩
  simp only [slowing, ← hwhole]
  split <;> rfl

end

/-- Settles O22, by what each command and each arrival of a jog makes of its record. -/
theorem jogging : Obligations.Jogging := by
  refine ⟨fun g v hg => ceilDiv_bounds (by omega), jogStep_eq,
    fun p s x a d hc hx h1 h4 => jog_clauses hc hx h1 h4, fun s x => ?_⟩
  obtain ⟨hhold, hrun⟩ := jogEnd_clauses (s := s) (x := x)
  intro r g settled n whole toward fastest slowing
  refine ⟨fun p n hc hx hs => exec_jogEnd_idle hc hx (.inl hs), fun hs => ⟨fun hl ht => ?_, fun hl ht => ?_,
    fun n hn => congrArg Host.Outcome.next (jogTimedOut_earlier hn),
    fun p a t hc hx h1 h4 hd ho hl ht => jog_survives hc hx h1 h4 hs hd ho hl ht,
    fun hl hd hp => congrArg Host.Outcome.next (jogLimitReached_at hs hl hd (hp.trans (by cases r.dir <;> rfl))),
    fun p n hc hx => ⟨fun hl ho => ?_, fun hl ho => ?_,
      fun hl ho => exec_jogEnd_other hc hx hs hl.symm ho, fun hl => exec_jogEnd_idle hc hx (.inr hl)⟩⟩⟩
  · exact congrArg Host.Outcome.next ((jogTimedOut_eq hs).trans
      ((if_pos ⟨Option.isSome_iff_ne_none.2 ht, rfl⟩).trans (congrArg (s.setAxis x) (hhold hl))))
  · exact congrArg Host.Outcome.next ((jogTimedOut_eq hs).trans
      ((if_pos ⟨Option.isSome_iff_ne_none.2 ht, rfl⟩).trans (congrArg (s.setAxis x) (hrun hl))))
  · exact (exec_jogEnd_owner hc hx hs (.inr hl) ho).trans (congrArg (fun q => Host.Outcome.next
      (replied p 0x51#8 .ok [] s ((taken p s).setAxis x q))) (hhold hl))
  · exact (exec_jogEnd_owner hc hx hs (.inl hl) ho).trans (congrArg (fun q => Host.Outcome.next
      (replied p 0x51#8 .ok [] s ((taken p s).setAxis x q))) (hrun hl))

end Sys2Proof.Machine
end

section
/-! STOP (06, section 6.6): the axes it stops, the requests it marks, and how these end. -/

namespace Sys2Proof.Machine

/-! ## What STOP does to one axis (06 R108) -/

theorem stopAxis_running (g : AxisSettings) (r : AxisRec) : (stopAxis g r).running = r.running := by
  unfold stopAxis
  split
  · split <;> rfl
  · unfold endJog
    split
    · split <;> rfl
    · rfl
    · rfl
  · rfl
  · rfl

theorem stopAxis_homing {g : AxisSettings} {r : AxisRec} (h : r.state = .homing) :
    stopAxis g r = { r with state := .unhomed, leg := .none } := by
  simp only [stopAxis, h]

theorem stopAxis_jog {g : AxisSettings} {r : AxisRec} (h : r.state = .jog) : stopAxis g r = endJog g r := by
  simp only [stopAxis, h]

theorem stopAxis_leg {g : AxisSettings} {r : AxisRec} (h : r.state = .moving) (hl : r.leg = .leg1 ∨ r.leg = .leg2) :
    stopAxis g r = stopInLeg g r := by
  rcases hl with hl | hl <;> simp only [stopAxis, h, hl]

theorem stopAxis_stopping {g : AxisSettings} {r : AxisRec} (h : r.state = .moving ∨ r.state = .jog)
    (hl : r.leg = .stopping) : stopAxis g r = r := by
  rcases h with h | h <;> simp only [stopAxis, endJog, h, hl]

theorem stopAxis_still {g : AxisSettings} {r : AxisRec}
    (h : r.state = .idle ∨ r.state = .settling ∨ r.state = .unhomed ∨ r.state = .lost ∨ r.state = .fault) :
    stopAxis g r = r := by
  rcases h with h | h | h | h | h <;> simp only [stopAxis, h]

section
variable {s : State} {p : Port} {m : Nat}

/-- The clauses on one axis. -/
theorem stopped_clauses (x : Axis) :
    let r := s.axes.get x
    let a := stopAxis (s.set.axes.get x) r
    let g := s.set.axes.get x
    let n := mag (r.position - r.legStart)
    let top := rampSteps g (g.maxSpeed * g.maxSpeed)
    let toward := r.jogPeak * r.jogPeak
    let fastest := if r.jogFast ≤ toward then min (r.jogFast + 2 * g.accel) toward
      else max (r.jogFast - 2 * g.accel) toward
    let rest (slow fast stop : Int) (k : AxisRec) : AxisRec := { k with
      leg := .stopping, stopLo := min (n + slow) (mag (stop - r.legStart)),
      stopHi := min (n + 1 + fast) (mag (stop - r.legStart)) }
    (r.state = .homing → a = { r with state := .unhomed, leg := .none })
    ∧ (r.state = .jog → r.leg = .hold → a =
        { r with state := .settling, leg := .none, target := none, jogOwner := none, jogTimer := none })
    ∧ (r.state = .jog → r.leg = .run → r.dir = r.jogDir → a =
        rest (rampSteps g r.jogSlow) (rampSteps g fastest) (match r.dir with | .positive => g.travel | .negative => 0)
          { r with jogOwner := none, jogTimer := none })
    ∧ (r.state = .jog → r.leg = .run → r.dir ≠ r.jogDir → a =
        { r with leg := .stopping, jogOwner := none, jogTimer := none })
    ∧ (r.state = .moving → (r.leg = .leg1 ∨ r.leg = .leg2) → a = rest (min n top) (min (n + 1) top) r.legEnd r)
    ∧ ((r.state = .moving ∨ r.state = .jog) → r.leg = .stopping → a = r)
    ∧ (r.state = .idle ∨ r.state = .settling ∨ r.state = .unhomed ∨ r.state = .lost ∨ r.state = .fault → a = r) := by
  obtain ⟨_, hrun⟩ := jogEnd_clauses (s := s) (x := x)
  intro r a g n top toward fastest rest
  exact ⟨stopAxis_homing, fun hs hl => (stopAxis_jog hs).trans (endJog_hold hl),
    fun hs hl hd => (stopAxis_jog hs).trans ((hrun hl).trans (if_pos hd)),
    fun hs hl hd => (stopAxis_jog hs).trans ((hrun hl).trans (if_neg hd)),
    fun hs hl => stopAxis_leg hs hl, stopAxis_stopping, stopAxis_still⟩

/-! ## The axes and the requests of a STOP -/

/-- The request runs and holds a named axis. -/
def stopHits (which : PerAxis Bool) (q : Request) : Bool := q.dispatched && sharesAxis q.axes which

/-- The named axes, and those of every request that holds one of them. -/
def stopSet (which : PerAxis Bool) (l : List Request) : PerAxis Bool :=
  l.foldl (fun v q => if stopHits which q then v.map fun x b => b || q.names x else v) which

/-- The requests, each that is hit marked stopped. -/
def stopMarked (which : PerAxis Bool) (l : List Request) : List Request :=
  l.map fun q => if stopHits which q then { q with stopped := true } else q

/-- The axes after a STOP. -/
def stopEach (which : PerAxis Bool) (s : State) : PerAxis AxisRec :=
  s.axes.map fun x r => if (stopSet which s.mq.requests).get x then stopAxis (s.set.axes.get x) r else r

theorem stopNamed_eq (which : PerAxis Bool) : stopNamed which s = settleQueue { s with
    axes := stopEach which s, mq := { s.mq with requests := stopMarked which s.mq.requests } } := rfl

theorem stopHits_iff {which : PerAxis Bool} {q : Request} :
    stopHits which q = true ↔ q.dispatched = true ∧ ∃ x, which.get x = true ∧ q.axes.get x = true := by
  rw [stopHits, Bool.and_eq_true, sharesAxis, any_allAxes]
  simp only [Bool.and_eq_true, and_comm]

theorem stopSet_foldl {which : PerAxis Bool} {x : Axis} (l : List Request) (v : PerAxis Bool) :
    (l.foldl (fun v q => if stopHits which q then v.map fun x b => b || q.names x else v) v).get x = true ↔
      v.get x = true ∨ ∃ q ∈ l, stopHits which q = true ∧ q.axes.get x = true := by
  induction l generalizing v with
  | nil => simp
  | cons q l ih =>
    rw [List.foldl_cons, ih]
    cases h : stopHits which q <;> simp [h, Request.names, or_assoc]

theorem stopSet_iff {which : PerAxis Bool} {x : Axis} {l : List Request} :
    (stopSet which l).get x = true ↔ which.get x = true ∨ ∃ q ∈ l, stopHits which q = true ∧ q.axes.get x = true :=
  stopSet_foldl l which

theorem stopMarked_get {which : PerAxis Bool} {l : List Request} {n : Nat} {q : Request} (h : l[n]? = some q) :
    (stopMarked which l)[n]? = some (if stopHits which q then { q with stopped := true } else q) := by
  simp [stopMarked, h]

theorem stopMarked_mem {which : PerAxis Bool} {l : List Request} {k : Request} (h : k ∈ stopMarked which l) :
    ∃ q ∈ l, k.dispatched = q.dispatched ∧ k.axes = q.axes := by
  obtain ⟨q, hq, rfl⟩ := List.mem_map.1 h
  refine ⟨q, hq, ?_⟩
  split <;> exact ⟨rfl, rfl⟩

theorem stopEach_busy {which : PerAxis Bool} {x : Axis} (h : (s.axes.get x).state = .moving ∨ (s.axes.get x).state = .settling) :
    ((stopEach which s).get x).state.busy = true := by
  rw [stopEach, PerAxis.get_map]
  split
  · exact stopAxis_busy h
  · rcases h with h | h <;> rw [h] <;> rfl

theorem stopEach_running {which : PerAxis Bool} {x : Axis} :
    ((stopEach which s).get x).running = (s.axes.get x).running := by
  rw [stopEach, PerAxis.get_map]
  split
  · exact stopAxis_running _ _
  · rfl

/-- Every request has an axis in motion, or one that is held while it waits: the queue stays. -/
theorem stopNamed_goes_on {which : PerAxis Bool} (h : ∀ q ∈ s.mq.requests, ∃ x, q.axes.get x = true ∧
    ((s.axes.get x).state = .moving ∨ (s.axes.get x).state = .settling
      ∨ q.dispatched = false ∧ (s.axes.get x).running ≠ none)) :
    stopNamed which s = { s with
      axes := stopEach which s, mq := { s.mq with requests := stopMarked which s.mq.requests } } := by
  rw [stopNamed_eq]
  refine settleQueue_still (fun k hk hrest => ?_) (fun n k _ hk hd => ?_)
  · obtain ⟨q, hq, hdq, haq⟩ := stopMarked_mem hk
    obtain ⟨x, hx, hm⟩ := h q hq
    have hfree := hrest.2 x (haq ▸ hx)
    have hbusy : ((stopEach which s).get x).state.busy = true := by
      rcases hm with hm | hm | ⟨hw, _⟩
      · exact stopEach_busy (.inl hm)
      · exact stopEach_busy (.inr hm)
      · exact absurd (hdq.symm.trans hrest.1) (by simp [hw])
    exact absurd (hfree.symm.trans hbusy) (by decide)
  · obtain ⟨q, hq, hdq, haq⟩ := stopMarked_mem (List.mem_of_getElem? hk)
    obtain ⟨x, hx, hm⟩ := h q hq
    refine ⟨x, haq ▸ hx, ?_⟩
    rcases hm with hm | hm | ⟨_, hr⟩
    · exact .inr (.inl (stopEach_busy (.inl hm)))
    · exact .inr (.inl (stopEach_busy (.inr hm)))
    · exact .inl (by rw [show ((stopEach which s).get x).running = _ from stopEach_running]; exact hr)

/-- The only request is hit, and its axes are at rest once they are stopped: it ends. -/
theorem stopNamed_ends {which : PerAxis Bool} {q : Request} (hreq : s.mq.requests = [q]) (hhit : stopHits which q = true)
    (h : ∀ x, q.axes.get x = true → (s.axes.get x).state ≠ .moving ∧ (s.axes.get x).state ≠ .settling
      ∧ (s.axes.get x).state ≠ .jog) :
    stopNamed which s = ended q (if q.failed then .fault else .aborted) { s with axes := stopEach which s } := by
  let t : State := { s with axes := stopEach which s }
  let k : Request := { q with stopped := true }
  have hmarked : stopMarked which s.mq.requests = [k] := by simp [hreq, stopMarked, hhit, k]
  have hrest : atRest { t with mq := { s.mq with requests := [k] } } k := by
    refine ⟨(stopHits_iff.1 hhit).1, fun x hx => ?_⟩
    show ((stopEach which s).get x).state.busy = false
    rw [stopEach, PerAxis.get_map, if_pos (stopSet_iff.2 (.inr ⟨q, by simp [hreq], hhit, hx⟩))]
    exact stopAxis_rest (h x hx)
  have ho : axesOutcome k = if q.failed then .fault else .aborted := by
    simp only [axesOutcome, k, if_true]
  have hne : axesOutcome k ≠ .done := by
    rw [ho]
    split <;> exact nofun
  have hfilter : ([k].filter fun r => decide (r.serial ≠ q.serial)) =
      t.mq.requests.filter fun r => decide (r.serial ≠ q.serial) := by
    rw [show t.mq.requests = [q] from hreq]
    simp [k]
  calc stopNamed which s = settleQueue { t with mq := { s.mq with requests := [k] } } := by rw [stopNamed_eq, hmarked]
    _ = ended q (axesOutcome k) { t with mq := { s.mq with requests := [k] } } :=
      (settleQueue_single rfl hrest).trans (endRequest_ended k _ _ (.inl hne))
    _ = ended q (axesOutcome k) t := (ended_requests q _ [k] t).trans (by rw [hfilter]; rfl)
    _ = _ := by rw [ho]

theorem exec_stop (hc : canUse p .motion s) (h1 : 1 ≤ m) (h15 : m ≤ 15) :
    exec (.stop p (.form m)) s = .next (replied p 0x52#8 .ok [] s (stopNamed (axesOfMask m) (taken p s))) :=
  command_eq hc (if_neg (by omega))

end

/-- Settles O23, by the axes that STOP stops and the requests that it marks. -/
theorem stop : Obligations.Stop := by
  intro p s m hc h1 h15 named hit stopped stops
  have hhit (q : Request) : stopHits (axesOfMask m) q = true ↔ hit q := stopHits_iff
  have hset (x : Axis) : (stopSet (axesOfMask m) (taken p s).mq.requests).get x = true ↔
      (named x ∨ ∃ q ∈ s.mq.requests, hit q ∧ q.axes.get x = true) := by
    rw [stopSet_iff, taken_mq]
    simp only [hhit]
    rfl
  have hstops : stops (stopEach (axesOfMask m) (taken p s)) := by
    intro x
    have hget := PerAxis.get_map (fun x r => if (stopSet (axesOfMask m) (taken p s).mq.requests).get x then
      stopAxis ((taken p s).set.axes.get x) r else r) (taken p s).axes x
    refine ⟨fun h => ?_, fun h => ?_⟩
    · have hx : (stopEach (axesOfMask m) (taken p s)).get x = stopAxis (s.set.axes.get x) (s.axes.get x) := by
        refine hget.trans ?_
        rw [if_pos ((hset x).2 h), taken_set, taken_axes]
      refine ⟨hx, ?_⟩
      rw [hx]
      exact stopped_clauses x
    · refine hget.trans ?_
      rw [if_neg (mt (hset x).1 h), taken_axes]
  have hlength : (stopMarked (axesOfMask m) (taken p s).mq.requests).length = s.mq.requests.length := by
    rw [stopMarked, List.length_map, taken_mq]
  have hmarks (n : Nat) (q : Request) (hq : s.mq.requests[n]? = some q) :
      (hit q → (stopMarked (axesOfMask m) (taken p s).mq.requests)[n]? = some { q with stopped := true })
      ∧ (¬ hit q → (stopMarked (axesOfMask m) (taken p s).mq.requests)[n]? = some q) := by
    have hget := stopMarked_get (which := axesOfMask m) (l := (taken p s).mq.requests) (by rw [taken_mq]; exact hq)
    exact ⟨fun h => by rw [hget, if_pos ((hhit q).2 h)], fun h => by rw [hget, if_neg (mt (hhit q).1 h)]⟩
  refine ⟨⟨_, _, _, exec_stop hc h1 h15, ?_, hstops, hlength, hmarks⟩, fun h => ⟨_, _, ?_, hstops, hlength, hmarks⟩,
    fun q hreq hq h => ⟨_, hstops, ?_⟩⟩
  · rw [stopNamed_eq, ← taken_mq p s]
    exact settleQueue_settled _
  · rw [exec_stop hc h1 h15, stopNamed_goes_on (by rw [taken_mq, taken_axes]; exact h), taken_mq]
  · rw [exec_stop hc h1 h15, stopNamed_ends (by rw [taken_mq]; exact hreq) ((hhit q).2 hq)
      (by rw [taken_axes]; exact h)]

end Sys2Proof.Machine
end

section
/-! The commands on the settings of an axis (06, section 6.7), and the dispatch of a request among others (07 R118). -/

namespace Sys2Proof.Machine

/-! ## The settings of an axis (06 R93, R109, R110) -/

theorem axisOk_iff (g : AxisSettings) : g.ok = true ↔
    (1000 ≤ g.travel ∧ g.travel ≤ 65000) ∧ (50 ≤ g.startSpeed ∧ g.startSpeed ≤ 5000)
    ∧ (g.startSpeed ≤ g.maxSpeed ∧ g.maxSpeed ≤ 20000) ∧ (500 ≤ g.accel ∧ g.accel ≤ 100000)
    ∧ (50 ≤ g.homingSpeed ∧ g.homingSpeed ≤ g.startSpeed) ∧ (0 ≤ g.backlash ∧ g.backlash ≤ 255)
    ∧ (0 ≤ g.indexPos ∧ g.indexPos ≤ g.travel) ∧ (4 ≤ g.indexTol ∧ g.indexTol ≤ 255)
    ∧ (0 ≤ g.settle ∧ g.settle ≤ 1000) := by
  simp only [AxisSettings.ok, Bool.and_eq_true, within_iff, and_assoc]

section
variable {p : Port} {s : State} {x : Axis} {a : AxisArgs} {g : AxisSettings}

/-- The record of an axis whose travel has changed. -/
def unhome (g : AxisSettings) (r : AxisRec) : AxisRec :=
  { haltAxis .unhomed r with
    reason := .none, indexError := none, homingCount := min r.homingCount (homingLimit g).toNat }

theorem replaceAxisSettings_eq : replaceAxisSettings x g s =
    if g.travel = (s.set.axes.get x).travel then { s with set := { s.set with axes := s.set.axes.set x g } }
    else settleQueue { s with
      set := { s.set with axes := s.set.axes.set x g }, axes := s.axes.set x (unhome g (s.axes.get x)) } := by
  unfold replaceAxisSettings
  by_cases h : g.travel = (s.set.axes.get x).travel
  · simp [h]
  · simp only [h, ne_eq, not_false_iff, decide_true, if_true, if_false]
    rfl

theorem axisSetParams_busy (hx : axisOf a.axis = some x) (ha : axisSettingsOf a = some g) (hg : g.ok = true)
    (h : (s.axes.get x).state.busy = true ∨ (s.axes.get x).running ≠ none) : axisSetParams a s = refuse s .busy := by
  have hb : ((s.axes.get x).state.busy || (s.axes.get x).running.isSome) = true := by
    rw [Bool.or_eq_true, Option.isSome_iff_ne_none]
    exact h
  simp only [axisSetParams, hx, ha, hg, hb, if_true]

theorem axisSetParams_taken (hx : axisOf a.axis = some x) (ha : axisSettingsOf a = some g) (hg : g.ok = true)
    (hb : (s.axes.get x).state.busy = false) (hr : (s.axes.get x).running = none) :
    axisSetParams a s = accept (replaceAxisSettings x g s) := by
  simp only [axisSetParams, hx, ha, hg, hb, hr, if_true]
  rfl

theorem axisSettingsOf_eq {d : StepDir} (h : a.approach = (match d with | .positive => 0 | .negative => 1)) :
    axisSettingsOf a = some
      { travel := a.travel, startSpeed := a.startSpeed, maxSpeed := a.maxSpeed, accel := a.accel,
        homingSpeed := a.homingSpeed, backlash := a.backlash, approach := d, indexPos := a.indexPos,
        indexTol := a.indexTol, settle := a.settle } := by
  cases d <;> simp only at h <;> simp only [axisSettingsOf, h]

/-- The clauses on AXIS_SET_PARAMS with settings in range. -/
theorem axisSetParams_clauses (hc : canUse p .config s) (hx : axisOf a.axis = some x) (ha : axisSettingsOf a = some g)
    (hg : g.ok = true) :
    let r := s.axes.get x
    let set : Settings := { s.set with axes := s.set.axes.set x g }
    (r.state.busy = false → r.running = none → g.travel = (s.set.axes.get x).travel →
      exec (.axisSetParams p (.form a)) s = .next (replied p 0x53#8 .ok [] s { taken p s with set := set }))
    ∧ (r.state.busy = false → r.running = none → g.travel ≠ (s.set.axes.get x).travel →
      let unhomed : State := { taken p s with
        set := set,
        axes := s.axes.set x { r with
          state := .unhomed, leg := .none, target := none, jogOwner := none, jogTimer := none, reason := .none,
          indexError := none, homingCount := min r.homingCount (g.travel + g.travel / 10).toNat } }
      (s.mq.requests = [] → exec (.axisSetParams p (.form a)) s = .next (replied p 0x53#8 .ok [] s unhomed))
      ∧ ∃ t, exec (.axisSetParams p (.form a)) s = .next (replied p 0x53#8 .ok [] s t) ∧ QueueSettled unhomed t)
    ∧ ((r.state.busy = true ∨ r.running ≠ none) →
      exec (.axisSetParams p (.form a)) s = .next (replied p 0x53#8 .busy [] s (taken p s))) := by
  intro r set
  have hexec (hb : r.state.busy = false) (hr : r.running = none) :
      exec (.axisSetParams p (.form a)) s = .next (replied p 0x53#8 .ok [] s (replaceAxisSettings x g (taken p s))) :=
    command_eq hc (axisSetParams_taken (s := taken p s) hx ha hg (by rw [taken_axes]; exact hb)
      (by rw [taken_axes]; exact hr))
  have hnew := replaceAxisSettings_eq (s := taken p s) (x := x) (g := g)
  have hset : ({ taken p s with set := { (taken p s).set with axes := (taken p s).set.axes.set x g } } : State) =
      { taken p s with set := set } :=
    congrArg (fun k => { taken p s with set := { k with axes := k.axes.set x g } }) (taken_set p s)
  refine ⟨fun hb hr ht => (hexec hb hr).trans (congrArg (fun t => Host.Outcome.next (replied p 0x53#8 .ok [] s t))
      (hnew.trans ((if_pos (by rw [taken_set]; exact ht)).trans hset))), fun hb hr ht => ?_, fun h => command_eq hc
    (axisSetParams_busy (s := taken p s) hx ha hg (by rw [taken_axes]; exact h))⟩
  · intro unhomed
    rw [taken_set, taken_axes, if_neg ht] at hnew
    refine ⟨fun hq => (hexec hb hr).trans ?_, ⟨_, hexec hb hr, hnew ▸ settleQueue_settled _⟩⟩
    rw [hnew, settleQueue_nil (by exact (congrArg Queue.requests (taken_mq p s)).trans hq)]
    rfl

/-- Settles O24, by what AXIS_SET_PARAMS makes of the settings and what the reads send. -/
theorem axisCommands : Obligations.AxisCommands := by
  refine fun p s => ⟨busy_iff, axisOk_iff, ?_, fun hc t h1 h2 => ?_, fun hc => ⟨?_, fun n x hx => ?_⟩⟩
  · intro x a d hc hx ha h1 h2 h3 h4 h5 h6 h7 h8 h9 h10 h11 h12 h13 h14 h15
    exact axisSetParams_clauses hc hx (axisSettingsOf_eq ha) ((axisOk_iff _).2 (by dsimp only; omega))
  · refine command_eq hc ((if_pos ((within_iff _ _ _).2 (by omega))).trans ?_)
    rw [taken_set]
    rfl
  · intro running jog axis
    refine command_eq hc (?_ : reply (taken p s) (axisStatusData (taken p s)) = _)
    have hout (r : AxisRec) : enableOutput r = decide (r.state ≠ .unhomed ∧ r.state ≠ .lost ∧ r.state ≠ .fault) := by
      unfold enableOutput
      cases r.state <;> rfl
    have hfind : findRequest (taken p s) = fun k => s.mq.requests.find? fun q => decide (q.serial = k) :=
      funext fun k => by rw [findRequest, taken_mq]
    have haxis (y : Axis) : axisBytes (taken p s) y = axis y := by
      simp only [axisBytes, axis, taken_axes, taken_inputs, hout, runningBytes, jogBytes, running, jog, hfind] <;> rfl
    simp only [reply, axisStatusData, allAxes, List.flatMap_cons, List.flatMap_nil, haxis, taken_set, taken_inputs,
      List.append_nil, List.append_assoc]
  · refine command_eq hc (?_ : axisReadParams n (taken p s) = _)
    simp only [axisReadParams, hx, reply, axisSettingsBytes, taken_set]

end

/-! ## The parts of a dispatch (07 R118) -/

section
variable {s : State} {r : Request} {l l' : List Request}

/-- A change of one record of the queue. -/
theorem map_only {k : Nat} {f : Request → Request} (hk : r.serial = k) (hl : ∀ q ∈ l ++ l', q.serial ≠ k) :
    ((l ++ r :: l').map fun q => if q.serial = k then f q else q) = l ++ f r :: l' := by
  have hside : ∀ m : List Request, (∀ q ∈ m, q.serial ≠ k) → (m.map fun q => if q.serial = k then f q else q) = m :=
    fun m hm => (List.map_congr_left fun q hq => if_neg (hm q hq)).trans (List.map_id' m)
  rw [List.map_append, List.map_cons, hside l fun q hq => hl q (List.mem_append_left _ hq),
    hside l' fun q hq => hl q (List.mem_append_right _ hq), if_pos hk]

theorem filter_only {k : Nat} (hk : r.serial = k) (hl : ∀ q ∈ l ++ l', q.serial ≠ k) :
    ((l ++ r :: l').filter fun q => decide (q.serial ≠ k)) = l ++ l' := by
  have hside : ∀ m : List Request, (∀ q ∈ m, q.serial ≠ k) → (m.filter fun q => decide (q.serial ≠ k)) = m :=
    fun m hm => List.filter_eq_self.2 fun q hq => decide_eq_true (hm q hq)
  rw [List.filter_append, List.filter_cons_of_neg (by simp [hk]), hside l fun q hq => hl q (List.mem_append_left _ hq),
    hside l' fun q hq => hl q (List.mem_append_right _ hq)]

theorem findRequest_only {k : Nat} (h : s.mq.requests = l ++ r :: l') (hk : r.serial = k)
    (hl : ∀ q ∈ l ++ l', q.serial ≠ k) : findRequest s k = some r := by
  unfold findRequest
  rw [h, List.find?_append, List.find?_eq_none.2 fun q hq => by simpa using hl q (List.mem_append_left _ hq)]
  simp [hk]

/-- The axes of a request taken over by it. -/
def bindAxes (r : Request) (v : PerAxis AxisRec) : PerAxis AxisRec :=
  v.map fun x a => if r.axes.get x then { a with running := some r.serial } else a

/-- The axes of a request freed. -/
def freeAxes (r : Request) (v : PerAxis AxisRec) : PerAxis AxisRec :=
  v.map fun x a => if r.axes.get x then { a with running := none } else a

/-- The axes that a request holds, released. -/
def releaseAxes (k : Nat) (v : PerAxis AxisRec) : PerAxis AxisRec :=
  v.map fun _ a => if a.running = some k then { a with running := none } else a

/-- The record that a request becomes as it starts to run. -/
def startedRecord (s : State) (r : Request) : Request :=
  { r with dispatched := true, focusStart := s.axes.focus.position }

theorem bindRequest_only (h : s.mq.requests = l ++ r :: l') (hl : ∀ q ∈ l ++ l', q.serial ≠ r.serial) :
    bindRequest r s = { s with
      axes := bindAxes r s.axes, mq := { s.mq with requests := l ++ startedRecord s r :: l' } } := by
  unfold bindRequest updateRequest
  dsimp only
  rw [h, map_only (f := fun q => { q with dispatched := true, focusStart := s.axes.focus.position }) rfl hl]
  rfl

theorem bindAxes_position (x : Axis) : ((bindAxes r s.axes).get x).position = (s.axes.get x).position := by
  rw [bindAxes, PerAxis.get_map]
  split <;> rfl

theorem bindAxes_state (x : Axis) : ((bindAxes r s.axes).get x).state = (s.axes.get x).state := by
  rw [bindAxes, PerAxis.get_map]
  split <;> rfl

/-- The target handed to an axis does not depend on who holds the axes. -/
theorem dispatchTarget_bound {o : Option SlotRec} {m : Queue} (x : Axis) :
    dispatchTarget { s with axes := bindAxes r s.axes, mq := m } r o x = dispatchTarget s r o x := by
  delta dispatchTarget
  simp only [bindAxes_position]

/-- The axes of a request handed their targets. -/
def handedAxes (s : State) (r : Request) (o : Option SlotRec) : PerAxis AxisRec :=
  s.axes.map fun x a =>
    if r.axes.get x then
      handTarget (s.set.axes.get x) (dispatchTarget s r o x) { a with running := some r.serial }
    else a

/-- The record that a request becomes as its axes are handed their targets. -/
def handedRecord (s : State) (r : Request) (o : Option SlotRec) : Request :=
  { startedRecord s r with
    targets := r.axes.map fun x b => if b then some (dispatchTarget s r o x) else none,
    payload := o.bind SlotRec.offsets }

/-- A request that runs toward its targets, among others. -/
def handed (s : State) (r : Request) (o : Option SlotRec) (l l' : List Request) : State :=
  { s with axes := handedAxes s r o, mq := { s.mq with requests := l ++ handedRecord s r o :: l' } }

theorem handTargets_bound (h : s.mq.requests = l ++ r :: l') (hl : ∀ q ∈ l ++ l', q.serial ≠ r.serial)
    (o : Option SlotRec) : handTargets r o (bindRequest r s) = handed s r o l l' := by
  rw [bindRequest_only h hl]
  unfold handTargets updateRequest
  simp only [dispatchTarget_bound]
  rw [map_only (k := r.serial) (r := startedRecord s r) (f := fun q => { q with
    targets := r.axes.map fun x b => if b then some (dispatchTarget s r o x) else none,
    payload := o.bind SlotRec.offsets }) rfl hl]
  have haxes : ((bindAxes r s.axes).map fun x a =>
      if r.names x then handTarget (s.set.axes.get x) (dispatchTarget s r o x) a else a) = handedAxes s r o :=
    PerAxis.ext_get fun x => by
      simp only [bindAxes, handedAxes, PerAxis.get_map, Request.names]
      cases r.axes.get x <;> rfl
  rw [haxes]
  rfl

theorem allIdle_bound : allIdle (bindRequest r s) r = true ↔ ∀ x, r.axes.get x = true → (s.axes.get x).state = .idle := by
  have hstate (x : Axis) : ((bindRequest r s).axes.get x).state = (s.axes.get x).state := bindAxes_state x
  simp only [allIdle, List.all_eq_true, Bool.or_eq_true, Bool.not_eq_true', decide_eq_true_iff, hstate, Request.names]
  exact ⟨fun h x hx => (h x (mem_allAxes x)).resolve_left (by simp [hx]),
    fun h x _ => (Bool.eq_false_or_eq_true (r.axes.get x)).symm.imp id (h x)⟩

/-! ## The end of a request that has just been dispatched -/

/-- The end of a request, from other records of the axes and the queue. -/
theorem ended_swap {q : Request} {o : Outcome} {t : State} {v : PerAxis AxisRec} {k : List Request}
    (hax : releaseAxes q.serial v = releaseAxes q.serial t.axes) (hp : v.focus.position = t.axes.focus.position)
    (hk : (k.filter fun r => decide (r.serial ≠ q.serial)) = t.mq.requests.filter fun r => decide (r.serial ≠ q.serial)) :
    ended q o { t with axes := v, mq := { t.mq with requests := k } } = ended q o t := by
  simp only [releaseAxes] at hax
  unfold ended
  simp only [hax, hp, hk]

/-- The axes that a dispatch took are those that the end frees. -/
theorem release_bound {v : PerAxis AxisRec} (halone : ∀ x, r.axes.get x = false → (s.axes.get x).running ≠ some r.serial)
    (hin : ∀ x, r.axes.get x = true → v.get x = { s.axes.get x with running := some r.serial })
    (hout : ∀ x, r.axes.get x = false → v.get x = s.axes.get x) :
    releaseAxes r.serial v = releaseAxes r.serial (freeAxes r s.axes) :=
  PerAxis.ext_get fun x => by
    simp only [releaseAxes, freeAxes, PerAxis.get_map]
    cases h : r.axes.get x with
    | true =>
      rw [hin x h]
      simp
    | false =>
      rw [hout x h]
      simp [halone x h]

/-- A request that ends as it is dispatched leaves the axes free of it and the queue without it. -/
theorem ended_bound {q : Request} {o : Outcome} (h : s.mq.requests = l ++ r :: l')
    (hl : ∀ q ∈ l ++ l', q.serial ≠ r.serial) (halone : ∀ x, r.axes.get x = false → (s.axes.get x).running ≠ some r.serial)
    (hq : q.serial = r.serial) {c : Request} (hc : c.serial = r.serial) :
    ended q o { s with axes := bindAxes r s.axes, mq := { s.mq with requests := l ++ c :: l' } } =
      ended q o { s with axes := freeAxes r s.axes } := by
  have hax : releaseAxes q.serial (bindAxes r s.axes) = releaseAxes q.serial (freeAxes r s.axes) := by
    rw [hq]
    exact release_bound halone (fun x hx => by rw [bindAxes, PerAxis.get_map, if_pos hx])
      (fun x hx => by rw [bindAxes, PerAxis.get_map, if_neg (by simp [hx])])
  have hp : (bindAxes r s.axes).focus.position = (freeAxes r s.axes).focus.position :=
    (bindAxes_position .focus).trans (by simp only [freeAxes, PerAxis.map]; split <;> rfl)
  refine ended_swap (t := { s with axes := freeAxes r s.axes }) hax hp ?_
  dsimp only
  rw [h, filter_only (hc.trans hq.symm) (hq ▸ hl), filter_only hq.symm (hq ▸ hl)]

/-- Only the kind, the source, the tag, the serial number and, for a COMP, the FOCUS position at the start of a request
matter to its end. -/
theorem ended_started {o : Outcome} {t : State} (h : r.kind ≠ .comp) : ended (startedRecord s r) o t = ended r o t := by
  unfold ended startedRecord endEvent
  cases hk : r.kind with
  | comp => exact absurd hk h
  | _ => rfl

theorem bindRequest_ended {q : Request} {o : Outcome} (h : s.mq.requests = l ++ r :: l')
    (hl : ∀ q ∈ l ++ l', q.serial ≠ r.serial) (halone : ∀ x, r.axes.get x = false → (s.axes.get x).running ≠ some r.serial)
    (hq : q.serial = r.serial) : ended q o (bindRequest r s) = ended q o { s with axes := freeAxes r s.axes } := by
  rw [bindRequest_only h hl]
  exact ended_bound h hl halone hq rfl

end
end Sys2Proof.Machine
end

section
/-! The dispatch of a request, among others (07 R118). -/

namespace Sys2Proof.Machine

/-! ## A composition does not look at the axes' records or the queue -/

section
variable {q : Request} {s t u : State} {v : PerAxis AxisRec} {k : List Request}

theorem reportCornerClip_motion (c : Candidate) (d : Dest) (m : Queue) :
    reportCornerClip c d { s with axes := v, mq := m } = { reportCornerClip c d s with axes := v, mq := m } := by
  unfold reportCornerClip
  cases c.clamp with
  | none => rfl
  | some k =>
    dsimp only
    unfold reportClip
    cases s.geo.clip <;> rfl

theorem reportCornerClip_axes (c : Candidate) (d : Dest) : (reportCornerClip c d s).axes = s.axes := by
  obtain ⟨k, u, h⟩ := reportCornerClip_frame c d s
  rw [h]

theorem reportCornerClip_mq (c : Candidate) (d : Dest) : (reportCornerClip c d s).mq = s.mq := by
  obtain ⟨k, u, h⟩ := reportCornerClip_frame c d s
  rw [h]

theorem ComposedTo.of_motion {g : GeoRecord} {c : Candidate} {m : Queue}
    (h : ComposedTo g c { s with axes := v, mq := m } t) :
    ComposedTo g c s { t with axes := s.axes, mq := s.mq } ∧ t = { t with axes := v, mq := m } := by
  obtain ⟨⟨e, q, rfl⟩, hask⟩ := h
  exact ⟨⟨⟨e, q, rfl⟩, hask.of_eq rfl rfl⟩, rfl⟩

/-- The end of a RECALL, from other records of the axes and the queue. -/
theorem recallEnded_swap (hax : releaseAxes q.serial v = releaseAxes q.serial t.axes)
    (hp : v.focus.position = t.axes.focus.position)
    (hk : (k.filter fun r => decide (r.serial ≠ q.serial)) = t.mq.requests.filter fun r => decide (r.serial ≠ q.serial))
    (h : RecallEnded q { t with axes := v, mq := { t.mq with requests := k } } u) : RecallEnded q t u := by
  have hswap (o : Outcome) (w : State) (hw : w.axes = t.axes) (hm : w.mq = t.mq) :
      ended q o { w with axes := v, mq := { t.mq with requests := k } } = ended q o w := by
    rw [← hm]
    exact ended_swap (hw ▸ hax) (hw ▸ hp) (hm ▸ hk)
  unfold RecallEnded at h ⊢
  cases hpay : q.payload with
  | none =>
    rw [hpay] at h
    exact h.trans (hswap .done t rfl rfl)
  | some d =>
    rw [hpay] at h
    dsimp only at h ⊢
    by_cases hb : q.source = .portB ∧ t.set.rights.geometry = false
    · rw [if_pos hb] at h ⊢
      exact h.trans (hswap .doneNoGeometry t rfl rfl)
    · rw [if_neg hb] at h ⊢
      simp only [reportCornerClip_motion] at h
      obtain ⟨hok, hno⟩ := h
      refine ⟨fun hs => ?_, fun hs => ?_⟩
      · obtain ⟨w, hw, rfl⟩ := hok hs
        obtain ⟨hw', he⟩ := hw.of_motion
        refine ⟨_, hw', ?_⟩
        rw [he]
        exact hswap .done { w with axes := _, mq := _ } (reportCornerClip_axes _ _) (reportCornerClip_mq _ _)
      · rw [hno hs]
        exact hswap .geomRefused _ (reportCornerClip_axes _ _) (reportCornerClip_mq _ _)

end

/-! ## A request that runs, and one that is there already -/

section
variable {s : State} {r : Request} {l l' : List Request} {o : Option SlotRec}

/-- Every named axis stands at its target. -/
def standsThere (s : State) (r : Request) (o : Option SlotRec) : Prop :=
  ∀ x, r.axes.get x = true → dispatchTarget s r o x = (s.axes.get x).position

theorem requestAtRest_iff {q : Request} :
    requestAtRest s q = true ↔ ∀ x, q.axes.get x = true → (s.axes.get x).state.busy = false := by
  simp only [requestAtRest, List.all_eq_true, Bool.or_eq_true, Bool.not_eq_true', Request.names]
  exact ⟨fun h x hx => (h x (mem_allAxes x)).resolve_left (by simp [hx]),
    fun h x _ => (Bool.eq_false_or_eq_true (q.axes.get x)).symm.imp id (h x)⟩

theorem endIfAtRest_busy {q : Request} {t : State} (h : t.mq.requests = l ++ q :: l') (hq : q.serial = r.serial)
    (hl : ∀ q ∈ l ++ l', q.serial ≠ r.serial) {x : Axis} (hx : q.axes.get x = true)
    (hb : (t.axes.get x).state.busy = true) : endIfAtRest r.serial t = t := by
  have hno : ¬ requestAtRest t q = true := fun c =>
    absurd ((requestAtRest_iff.1 c x hx).symm.trans hb) (by decide)
  unfold endIfAtRest
  rw [findRequest_only h hq hl]
  exact if_neg hno

theorem endIfAtRest_rest {q : Request} {t : State} (h : t.mq.requests = l ++ q :: l') (hq : q.serial = r.serial)
    (hl : ∀ q ∈ l ++ l', q.serial ≠ r.serial) (hr : ∀ x, q.axes.get x = true → (t.axes.get x).state.busy = false) :
    endIfAtRest r.serial t = endRequest q (axesOutcome q) t := by
  unfold endIfAtRest
  rw [findRequest_only h hq hl]
  exact if_pos (requestAtRest_iff.2 hr)

theorem handTarget_there {g : AxisSettings} {t : Int} {a : AxisRec} (h : t = a.position) : handTarget g t a = a := if_pos h

theorem handTarget_moving {g : AxisSettings} {t : Int} {a : AxisRec} (h : t ≠ a.position) :
    (handTarget g t a).state = .moving := congrArg AxisRec.state (if_neg h)

/-- One named axis is not at its target: the request runs. -/
theorem handed_runs (hl : ∀ q ∈ l ++ l', q.serial ≠ r.serial) (h : ¬ standsThere s r o) :
    endIfAtRest r.serial (handed s r o l l') = handed s r o l l' := by
  simp only [standsThere, not_forall] at h
  obtain ⟨x, hx, hne⟩ := h
  refine endIfAtRest_busy rfl rfl hl hx ?_
  have hget : (handed s r o l l').axes.get x =
      handTarget (s.set.axes.get x) (dispatchTarget s r o x) { s.axes.get x with running := some r.serial } :=
    (PerAxis.get_map _ _ _).trans (if_pos hx)
  rw [hget]
  exact congrArg AxisState.busy (handTarget_moving (a := { s.axes.get x with running := some r.serial }) hne)

theorem endRequest_fault (q : Request) (t : State) : endRequest q .fault t = ended q .fault t :=
  endRequest_ended q .fault t (.inl nofun)

/-- Every named axis is at its target: nothing moves. -/
theorem handed_there (h : standsThere s r o) : handed s r o l l' = { s with
    axes := bindAxes r s.axes, mq := { s.mq with requests := l ++ handedRecord s r o :: l' } } := by
  have haxes : handedAxes s r o = bindAxes r s.axes := PerAxis.ext_get fun x => by
    simp only [handedAxes, bindAxes, PerAxis.get_map]
    cases hx : r.axes.get x with
    | false => rfl
    | true => exact handTarget_there (h x hx)
  unfold handed
  rw [haxes]

theorem handed_ends (hl : ∀ q ∈ l ++ l', q.serial ≠ r.serial) (h : standsThere s r o)
    (hidle : ∀ x, r.axes.get x = true → (s.axes.get x).state = .idle) (hf : r.failed = false) (hs : r.stopped = false) :
    endIfAtRest r.serial (handed s r o l l') = endRequest (handedRecord s r o) .done { s with
      axes := bindAxes r s.axes, mq := { s.mq with requests := l ++ handedRecord s r o :: l' } } := by
  have ho : axesOutcome (handedRecord s r o) = .done := by
    show (if r.failed then _ else if r.stopped then _ else _) = _
    rw [hf, hs]
    rfl
  rw [handed_there h]
  refine (endIfAtRest_rest (q := handedRecord s r o) rfl rfl hl fun x hx => ?_).trans (by rw [ho])
  show ((bindAxes r s.axes).get x).state.busy = false
  rw [bindAxes_state, hidle x hx]
  rfl

/-! ## The dispatch by kind -/

section
variable (h : s.mq.requests = l ++ r :: l') (hl : ∀ q ∈ l ++ l', q.serial ≠ r.serial)
include h hl

theorem dispatch_toward (hk : r.kind = .move ∨ r.kind = .step ∨ r.kind = .comp)
    (hidle : ∀ x, r.axes.get x = true → (s.axes.get x).state = .idle) :
    dispatch r s = endIfAtRest r.serial (handed s r none l l') := by
  rw [← handTargets_bound h hl]
  unfold dispatch dispatchWork
  rcases hk with hk | hk | hk <;> rw [hk] <;> exact if_pos (allIdle_bound.2 hidle)

theorem dispatch_slot (hk : r.kind = .recall) (hidle : ∀ x, r.axes.get x = true → (s.axes.get x).state = .idle)
    {q : SlotRec} (hq : s.set.slots[r.slot]?.join = some q) :
    dispatch r s = endIfAtRest r.serial (handed s r (some q) l l') := by
  have hslot : (bindRequest r s).set.slots[r.slot]?.join = some q := hq
  rw [← handTargets_bound h hl]
  unfold dispatch dispatchWork
  rw [hk]
  dsimp only
  rw [if_pos (allIdle_bound.2 hidle), hslot]

theorem dispatch_emptySlot (hk : r.kind = .recall) (hidle : ∀ x, r.axes.get x = true → (s.axes.get x).state = .idle)
    (halone : ∀ x, r.axes.get x = false → (s.axes.get x).running ≠ some r.serial)
    (hq : s.set.slots[r.slot]?.join = none) :
    dispatch r s = ended r .emptySlot { s with axes := freeAxes r s.axes } := by
  have hslot : (bindRequest r s).set.slots[r.slot]?.join = none := hq
  rw [← bindRequest_ended h hl halone rfl]
  unfold dispatch dispatchWork
  rw [hk]
  dsimp only
  rw [if_pos (allIdle_bound.2 hidle), hslot]
  exact endRequest_ended _ _ _ (.inl nofun)

theorem dispatch_notIdle (hk : r.kind ≠ .home)
    (hidle : ¬ ∀ x, r.axes.get x = true → (s.axes.get x).state = .idle)
    (halone : ∀ x, r.axes.get x = false → (s.axes.get x).running ≠ some r.serial) :
    dispatch r s = ended (startedRecord s r) .fault { s with axes := freeAxes r s.axes } := by
  have hno : ¬ allIdle (bindRequest r s) r = true := mt allIdle_bound.1 hidle
  have hbound (o : Outcome) := bindRequest_ended (q := startedRecord s r) (o := o) h hl halone rfl
  have hplain (hc : r.kind ≠ .comp) : endRequest r .fault (bindRequest r s) =
      ended (startedRecord s r) .fault { s with axes := freeAxes r s.axes } := by
    rw [endRequest_fault, ← ended_started hc, hbound]
  unfold dispatch dispatchWork
  cases hkind : r.kind with
  | home => exact absurd hkind hk
  | comp =>
    refine (if_neg hno).trans ((endRequest_fault _ _).trans ?_)
    rw [← hbound]
    have hp : (bindRequest r s).axes.focus.position = s.axes.focus.position := bindAxes_position .focus
    rw [hp]
    exact congrArg (fun k => ended { startedRecord s r with kind := k } .fault (bindRequest r s)) hkind.symm
  | _ => exact (if_neg hno).trans (hplain (by rw [hkind]; decide))

theorem dispatch_home_fault (hk : r.kind = .home) (hm : s.inputs.mdflt.level = true)
    (halone : ∀ x, r.axes.get x = false → (s.axes.get x).running ≠ some r.serial)
    (hrest : ∀ x, r.axes.get x = true → (s.axes.get x).state.busy = false) :
    dispatch r s = ended (startedRecord s r) .fault { s with axes := freeAxes r s.axes } := by
  let q : Request := { startedRecord s r with failed := true }
  have hfailed : startHomingAxes r (bindRequest r s) = { s with
      axes := bindAxes r s.axes, mq := { s.mq with requests := l ++ q :: l' } } := by
    rw [bindRequest_only h hl]
    refine (if_pos hm).trans ?_
    unfold updateRequest
    dsimp only
    rw [map_only (r := startedRecord s r) (k := r.serial) (f := fun q => { q with failed := true }) rfl hl]
  unfold dispatch dispatchWork
  rw [hk]
  dsimp only
  rw [hfailed, endIfAtRest_rest (r := r) (q := q) rfl rfl hl (fun x hx => by
    show ((bindAxes r s.axes).get x).state.busy = false
    rw [bindAxes_state]
    exact hrest x hx), show axesOutcome q = .fault from rfl, endRequest_fault]
  exact ended_bound (q := startedRecord s r) h hl halone rfl (c := q) rfl

theorem dispatch_home_starts (hk : r.kind = .home) (hm : s.inputs.mdflt.level = false) (hx : ∃ x, r.axes.get x = true) :
    dispatch r s = { s with
      axes := s.axes.map fun x a =>
        if r.axes.get x then startHoming (s.inputs.home.get x).level { a with running := some r.serial } else a,
      mq := { s.mq with requests := l ++ startedRecord s r :: l' } } := by
  have hstart : startHomingAxes r (bindRequest r s) = { s with
      axes := s.axes.map fun x a =>
        if r.axes.get x then startHoming (s.inputs.home.get x).level { a with running := some r.serial } else a,
      mq := { s.mq with requests := l ++ startedRecord s r :: l' } } := by
    have haxes : ((bindAxes r s.axes).map fun x a =>
        if r.names x then startHoming (s.inputs.home.get x).level a else a) = s.axes.map fun x a =>
        if r.axes.get x then startHoming (s.inputs.home.get x).level { a with running := some r.serial } else a :=
      PerAxis.ext_get fun x => by
        simp only [bindAxes, PerAxis.get_map, Request.names]
        cases r.axes.get x <;> rfl
    rw [bindRequest_only h hl, ← haxes]
    exact if_neg (by simp [hm])
  obtain ⟨x, hx⟩ := hx
  unfold dispatch dispatchWork
  rw [hk]
  dsimp only
  rw [hstart]
  refine endIfAtRest_busy (q := startedRecord s r) rfl rfl hl hx ?_
  rw [PerAxis.get_map, if_pos hx]
  rfl

/-- The clauses on the dispatch of a request that has targets. -/
theorem dispatch_clauses :
    let taken' : State := { s with
      axes := s.axes.map fun x a => if r.axes.get x then { a with running := none } else a }
    let idle : Prop := ∀ x, r.axes.get x = true → (s.axes.get x).state = .idle
    let started : Request := { r with dispatched := true, focusStart := s.axes.focus.position }
    let runs (o : Option SlotRec) : Prop :=
      dispatch r s = { s with
        axes := s.axes.map fun x a =>
          if r.axes.get x then
            handTarget (s.set.axes.get x) (dispatchTarget s r o x) { a with running := some r.serial }
          else a,
        mq := { s.mq with requests := l ++ { started with
          targets := r.axes.map fun x b => if b then some (dispatchTarget s r o x) else none,
          payload := o.bind SlotRec.offsets } :: l' } }
    let there (o : Option SlotRec) : Prop := ∀ x, r.axes.get x = true → dispatchTarget s r o x = (s.axes.get x).position
    let alone : Prop := ∀ x, r.axes.get x = false → (s.axes.get x).running ≠ some r.serial
    ((r.kind = .move ∨ r.kind = .step ∨ r.kind = .comp) → idle →
      (¬ there none → runs none)
      ∧ (there none → alone → r.failed = false → r.stopped = false → dispatch r s = ended started .done taken'))
    ∧ (r.kind = .recall → idle →
      (s.set.slots[r.slot]?.join = none → alone → dispatch r s = ended r .emptySlot taken')
      ∧ ∀ q, s.set.slots[r.slot]?.join = some q →
        (¬ there (some q) → runs (some q))
        ∧ (there (some q) → alone → r.failed = false → r.stopped = false →
          RecallEnded { started with payload := q.offsets } taken' (dispatch r s)))
    ∧ (r.kind ≠ .home → ¬ idle → alone → dispatch r s = ended started .fault taken')
    ∧ (r.kind = .home → s.inputs.mdflt.level = true → alone →
      (∀ x, r.axes.get x = true → (s.axes.get x).state.busy = false) → dispatch r s = ended started .fault taken') := by
  intro taken' idle started runs there alone
  refine ⟨fun hk hidle => ⟨fun hno => ?_, fun hthere halone hf hs => ?_⟩,
    fun hk hidle => ⟨fun hq halone => dispatch_emptySlot h hl hk hidle halone hq, fun q hq => ⟨fun hno => ?_,
      fun hthere halone hf hs => ?_⟩⟩,
    fun hk hidle halone => dispatch_notIdle h hl hk hidle halone,
    fun hk hm halone hrest => dispatch_home_fault h hl hk hm halone hrest⟩
  · exact (dispatch_toward h hl hk hidle).trans (handed_runs hl hno)
  · have hnot : (handedRecord s r none).kind ≠ .recall := by
      show r.kind ≠ .recall
      rcases hk with hk | hk | hk <;> rw [hk] <;> decide
    rw [dispatch_toward h hl hk hidle, handed_ends hl hthere hidle hf hs, endRequest_ended _ _ _ (.inr hnot)]
    exact ended_bound (q := started) h hl halone rfl rfl
  · exact (dispatch_slot h hl hk hidle hq).trans (handed_runs hl hno)
  · rw [dispatch_slot h hl hk hidle hq, handed_ends hl hthere hidle hf hs]
    have hax : releaseAxes r.serial (bindAxes r s.axes) = releaseAxes r.serial (freeAxes r s.axes) :=
      release_bound halone (fun x hx => by rw [bindAxes, PerAxis.get_map, if_pos hx])
        (fun x hx => by rw [bindAxes, PerAxis.get_map, if_neg (by simp [hx])])
    have hp : (bindAxes r s.axes).focus.position = (freeAxes r s.axes).focus.position :=
      (bindAxes_position .focus).trans (by simp only [freeAxes, PerAxis.map]; split <;> rfl)
    refine recallEnded_swap (q := handedRecord s r (some q)) (t := taken') hax hp ?_
      (endRequest_recall (handedRecord s r (some q)) _ hk)
    exact (filter_only (k := r.serial) (r := handedRecord s r (some q)) rfl hl).trans
      ((congrArg (List.filter fun q => decide (q.serial ≠ r.serial)) h).trans (filter_only rfl hl)).symm

/-- The clauses on the requests of Port A and on homing. -/
theorem dispatch_portA_clauses :
    let run : Request := { r with dispatched := true, focusStart := s.axes.focus.position }
    (r.source = .portA → (r.kind = .move ∨ r.kind = .step) → (∀ x, r.axes.get x = true → (s.axes.get x).state = .idle) →
      (∃ x, r.axes.get x = true ∧ dispatchTarget s r none x ≠ (s.axes.get x).position) →
      dispatch r s = { s with
        axes := s.axes.map fun x a =>
          if r.axes.get x then
            handTarget (s.set.axes.get x) (dispatchTarget s r none x) { a with running := some r.serial }
          else a,
        mq := { s.mq with requests := l ++ { run with
          targets := r.axes.map fun x b => if b then some (dispatchTarget s r none x) else none,
          payload := none } :: l' } })
    ∧ (r.source = .portA → (r.kind = .move ∨ r.kind = .step) →
      (∃ x, r.axes.get x = true ∧ (s.axes.get x).state ≠ .idle) →
      (∀ x, r.axes.get x = false → (s.axes.get x).running ≠ some r.serial) →
      dispatch r s = { s with
        axes := s.axes.map fun x a => if r.axes.get x then { a with running := none } else a,
        mq := { s.mq with
          requests := l ++ l',
          outcomes := { s.mq.outcomes with a := pushWindow 4 s.mq.outcomes.a ⟨r.tag, r.kind, .fault⟩ } },
        port := s.port.raise (.port .a) .motionFault }) := by
  refine ⟨fun _ hk hidle hx => ?_, fun hs hk hx halone => ?_⟩
  · have hno : ¬ standsThere s r none := by
      obtain ⟨x, hx, hne⟩ := hx
      exact fun c => hne (c x hx)
    exact (dispatch_toward h hl (hk.imp_right .inl) hidle).trans (handed_runs hl hno)
  · have hidle : ¬ ∀ x, r.axes.get x = true → (s.axes.get x).state = .idle := by
      obtain ⟨x, hx, hne⟩ := hx
      exact fun c => hne (c x hx)
    have hkind : r.kind ≠ .home ∧ r.kind ≠ .comp := by rcases hk with hk | hk <;> rw [hk] <;> decide
    have hfree : releaseAxes r.serial (freeAxes r s.axes) = freeAxes r s.axes := PerAxis.ext_get fun x => by
      simp only [releaseAxes, freeAxes, PerAxis.get_map]
      cases hr : r.axes.get x with
      | true => rfl
      | false => exact if_neg (halone x hr)
    rw [dispatch_notIdle h hl hkind.1 hidle halone, ended_started hkind.2]
    have hend : ended r .fault { s with axes := freeAxes r s.axes } = { s with
        axes := releaseAxes r.serial (freeAxes r s.axes),
        mq := { s.mq with
          requests := s.mq.requests.filter fun q => decide (q.serial ≠ r.serial),
          outcomes := { s.mq.outcomes with a := pushWindow 4 s.mq.outcomes.a ⟨r.tag, r.kind, .fault⟩ } },
        port := s.port.raise (.port .a) .motionFault } := by
      unfold ended endEvent
      rw [hs]
      rcases hk with hk | hk <;> rw [hk] <;> rfl
    rw [hend, hfree, h, filter_only rfl hl]
    rfl

end

/-! ## Targets (06 R95, 07 R118) -/

theorem dispatchTarget_clauses (s : State) (r : Request) (o : Option SlotRec) (x : Axis) :
    let travel := (s.set.axes.get x).travel
    let position := (s.axes.get x).position
    let value := (r.targets.get x).getD 0
    (r.kind = .move → dispatchTarget s r o x = clamp 0 travel (if x = .focus then value + s.fc.applied else value))
    ∧ (r.kind = .step → dispatchTarget s r o x = clamp 0 travel (position + value))
    ∧ (r.kind = .comp → dispatchTarget s r o x = clamp 0 travel (position + r.compTarget - s.fc.applied))
    ∧ (∀ q, r.kind = .recall → o = some q → dispatchTarget s r o x = clamp 0 travel (match x with
        | .shiftH => q.shiftH
        | .shiftV => q.shiftV
        | .zoom => q.zoom
        | .focus => q.focusUser + s.fc.applied)) := by
  refine ⟨fun hk => ?_, fun hk => ?_, fun hk => ?_, fun q hk ho => ?_⟩ <;> delta dispatchTarget <;> dsimp only <;> rw [hk]
  · cases x <;> rfl
  · subst ho
    cases x <;> rfl

/-- Settles O26, by the parts of a dispatch and the kinds. -/
theorem dispatch_settled : Obligations.Dispatch := by
  refine ⟨dispatchTarget_clauses, fun g t a => ⟨handTarget_there, fun hne => if_neg hne, fun b => rfl⟩,
    fun s r l l' h hl _ => dispatch_clauses h hl, fun s r l l' h hl _ => ?_⟩
  obtain ⟨h1, h2⟩ := dispatch_portA_clauses h hl
  exact ⟨h1, h2, fun hk hm hx => dispatch_home_starts h hl hk hm hx⟩

end
end Sys2Proof.Machine
end

section
/-! Requests join the Motion Queue, or are refused (07, sections 7.1 to 7.3). -/

namespace Sys2Proof.Machine

/-! ## The first request that the dispatch test starts -/

section
variable {s t : State} {n : Nat} {q r : Request} {l : List Request}

/-- The dispatch test starts with the first request that is not held back. -/
theorem DispatchTested.of_next (h : DispatchTested s t) (hq : s.mq.requests[n]? = some q) (hd : q.dispatched = false)
    (hb : heldBefore s n) (hf : ¬ heldBack s n q) : DispatchTested (dispatch q s) t := by
  cases h with
  | done hall => exact absurd (hall n q (List.getElem?_eq_some_iff.1 hq).1 hq hd) hf
  | next hp hpd hpb hpf ht =>
    rename_i i p
    rcases Nat.lt_trichotomy i n with hlt | rfl | hgt
    · exact absurd (hb i p hlt hp hpd) hpf
    · obtain rfl : p = q := Option.some.inj (hp.symm.trans hq)
      exact ht
    · exact absurd (hpb n q hgt hq hd) hf

/-- What holds a request back are the axes, and the requests before it. -/
theorem heldBack_congr {s' : State} (hax : s.axes = s'.axes)
    (hl : ∀ k, k < n → s.mq.requests[k]? = s'.mq.requests[k]?) : heldBack s n q ↔ heldBack s' n q := by
  unfold heldBack
  rw [hax]
  refine exists_congr fun x => and_congr_right fun _ => or_congr_right (or_congr_right ?_)
  exact exists_congr fun k => exists_congr fun p => and_congr_right fun hk => by rw [hl k hk]

theorem heldBefore_congr {s' : State} (hax : s.axes = s'.axes)
    (hl : ∀ k, k < n → s.mq.requests[k]? = s'.mq.requests[k]?) : heldBefore s n ↔ heldBefore s' n := by
  unfold heldBefore
  refine forall_congr' fun k => forall_congr' fun p => ⟨fun h hk hp hd => ?_, fun h hk hp hd => ?_⟩
  · exact (heldBack_congr hax fun i hi => hl i (hi.trans hk)).1 (h hk (by rw [hl k hk]; exact hp) hd)
  · exact (heldBack_congr hax fun i hi => hl i (hi.trans hk)).2 (h hk (by rw [← hl k hk]; exact hp) hd)

/-- With nothing WAITING nothing is tested. -/
theorem running_of_waitingCount (h : waitingCount s = 0) : ∀ q ∈ s.mq.requests, q.dispatched = true := by
  intro q hq
  have := List.countP_eq_zero.1 h q hq
  simpa using this

/-- The only WAITING request of a queue is dispatched, and the test is over. -/
theorem dispatch_only (hq : q ∈ s.mq.requests) (hd : q.dispatched = false) (h1 : waitingCount s = 1) :
    ∀ p ∈ (dispatch q s).mq.requests, p.dispatched = true :=
  running_of_waitingCount (by have := dispatch_waiting q s hq hd; omega)

/-! ## What a dispatch leaves of the other requests and axes -/

/-- The requests before one that has been dispatched stay, and the axes that it does not name. -/
structure Leaves (k : Nat) (m : PerAxis Bool) (l : List Request) (v : PerAxis AxisRec) (t : State) : Prop where
  requests : ∃ c, t.mq.requests = l ++ c ∧ ∀ q ∈ c, q.serial = k ∧ q.dispatched = true
  axes : ∀ x, m.get x = false → t.axes.get x = v.get x

theorem endRequest_releases (q : Request) (o : Outcome) : (endRequest q o s).axes = releaseAxes q.serial s.axes := by
  have hsettled : (if o = .done && q.kind = .recall then settleGeometry q s else (s, o)).1.axes = s.axes := by
    split
    · unfold settleGeometry
      split
      · rfl
      · split
        · rfl
        · obtain ⟨_, _, _, _, _, _, h⟩ := compose_frame { s.set.geo with offsets := _, corners := true } q.source.dest s
          rw [h]
    · rfl
  have hrecord (p : Request) (o : Outcome) (u : State) : (recordOutcome p o u).axes = u.axes := by
    unfold recordOutcome raiseOutcome listOutcome
    cases p.source <;> simp only [Source.list] <;> (try split) <;> rfl
  have haccount (u : State) : (accountComp q u).axes = u.axes := by
    unfold accountComp
    split <;> rfl
  unfold endRequest
  rw [hrecord]
  show releaseAxes q.serial (accountComp q _).axes = _
  rw [haccount, hsettled]

section
variable {k : Nat} {m : PerAxis Bool} {v : PerAxis AxisRec} (hl : ∀ q ∈ l, q.serial ≠ k)
  (hv : ∀ x, m.get x = false → (v.get x).running ≠ some k)

include hl in
theorem Leaves.update (h : Leaves k m l v s) (f : Request → Request)
    (hf : ∀ q, (f q).serial = q.serial ∧ (f q).dispatched = q.dispatched) {w : PerAxis AxisRec}
    (hw : ∀ x, m.get x = false → w.get x = s.axes.get x) : Leaves k m l v (updateRequest k f { s with axes := w }) := by
  obtain ⟨c, hc, hk⟩ := h.requests
  refine ⟨⟨c.map fun q => if q.serial = k then f q else q, ?_, fun q hq => ?_⟩,
    fun x hx => (hw x hx).trans (h.axes x hx)⟩
  · have hsame : (l.map fun q => if q.serial = k then f q else q) = l :=
      (List.map_congr_left fun q hq => if_neg (hl q hq)).trans (List.map_id' l)
    show s.mq.requests.map _ = _
    rw [hc, List.map_append, hsame]
  · obtain ⟨p, hp, rfl⟩ := List.mem_map.1 hq
    obtain ⟨h1, h2⟩ := hk p hp
    rw [if_pos h1]
    exact ⟨(hf p).1.trans h1, (hf p).2.trans h2⟩

include hl hv in
theorem Leaves.ended (h : Leaves k m l v s) (hq : q.serial = k) (o : Outcome) : Leaves k m l v (endRequest q o s) := by
  obtain ⟨c, hc, hk⟩ := h.requests
  refine ⟨⟨[], ?_, by simp⟩, fun x hx => ?_⟩
  · rw [endRequest_requests, hc, List.filter_append, hq, List.filter_eq_self.2 fun p hp => decide_eq_true (hl p hp),
      List.filter_eq_nil_iff.2 fun p hp => by simpa using (hk p hp).1]
  · rw [endRequest_releases, releaseAxes, PerAxis.get_map, h.axes x hx, hq, if_neg (hv x hx)]

include hl hv in
theorem Leaves.endIfAtRest (h : Leaves k m l v s) : Leaves k m l v (endIfAtRest k s) := by
  unfold Machine.endIfAtRest
  split
  · exact h
  · next p hp =>
    split
    · exact h.ended hl hv (by simpa using List.find?_some hp) _
    · exact h

include hl hv in
theorem Leaves.dispatchWork (h : Leaves k m l v s) (hr : r.serial = k) (hm : r.axes = m) :
    Leaves k m l v (dispatchWork r s) := by
  subst hr hm
  have hhand (o : Option SlotRec) : Leaves r.serial r.axes l v (handTargets r o s) :=
    h.update hl (fun q => { q with
      targets := r.axes.map fun x b => if b then some (dispatchTarget s r o x) else none,
      payload := o.bind SlotRec.offsets }) (fun q => ⟨rfl, rfl⟩) fun x hx => (PerAxis.get_map _ _ _).trans (if_neg (by simp [Request.names, hx]))
  have hhome : Leaves r.serial r.axes l v (startHomingAxes r s) := by
    unfold startHomingAxes
    split
    · exact h.update hl (fun q => { q with failed := true }) (fun q => ⟨rfl, rfl⟩) fun x _ => rfl
    · exact ⟨h.requests, fun x hx =>
        (PerAxis.get_map _ _ _).trans ((if_neg (by simp [Request.names, hx])).trans (h.axes x hx))⟩
  unfold Machine.dispatchWork
  split
  · exact hhome.endIfAtRest hl hv
  · split
    · split
      · exact h.ended hl hv (by rfl) _
      · exact (hhand _).endIfAtRest hl hv
    · exact h.ended hl hv (by rfl) _
  all_goals
    split
    · exact (hhand none).endIfAtRest hl hv
    · exact h.ended hl hv (by rfl) _

end

/-- A dispatch of the youngest request. -/
theorem dispatch_leaves (h : s.mq.requests = l ++ [r]) (hl : ∀ q ∈ l, q.serial ≠ r.serial)
    (hv : ∀ x, r.axes.get x = false → (s.axes.get x).running ≠ some r.serial) :
    Leaves r.serial r.axes l s.axes (dispatch r s) := by
  refine Leaves.dispatchWork hl hv ?_ rfl rfl
  rw [bindRequest_only h (by simpa using hl)]
  exact ⟨⟨[startedRecord s r], rfl, by simp [startedRecord]⟩, fun x hx =>
    (PerAxis.get_map _ _ _).trans (if_neg (by simp [hx]))⟩

/-- Requests that were held back before a younger one was dispatched are held back after it: it held none of their
axes. -/
theorem heldBefore_dispatch (h : s.mq.requests = l ++ [r]) (hl : ∀ q ∈ l, q.serial ≠ r.serial)
    (hv : ∀ x, r.axes.get x = false → (s.axes.get x).running ≠ some r.serial) (hb : heldBefore s l.length)
    (hf : ¬ heldBack s l.length r) (hd : ∀ q ∈ l, q.serial = r.serial → q.dispatched = true) :
    heldBefore (dispatch r s) (dispatch r s).mq.requests.length
    ∧ ∀ q ∈ (dispatch r s).mq.requests, q.serial = r.serial → q.dispatched = true := by
  obtain ⟨⟨c, hc, hk⟩, hax⟩ := dispatch_leaves h hl hv
  have hold (i : Nat) (hi : i < l.length) : (dispatch r s).mq.requests[i]? = s.mq.requests[i]? := by
    rw [hc, h, List.getElem?_append_left hi, List.getElem?_append_left hi]
  have hfree (x : Axis) (hx : (s.axes.get x).running ≠ none ∨ (s.axes.get x).state.busy = true) :
      r.axes.get x = false := by
    by_contra hr
    exact hf ⟨x, by simpa using hr, hx.imp_right .inl⟩
  refine ⟨fun i q hi hq hqd => ?_, fun q hq hqs => ?_⟩
  · by_cases hlt : i < l.length
    · obtain ⟨x, hx, hcause⟩ := hb i q hlt (by rw [← hold i hlt]; exact hq) hqd
      refine ⟨x, hx, ?_⟩
      rcases hcause with hrun | hbusy | ⟨j, p, hj, hp, hpd, hpx⟩
      · exact .inl (by rw [hax x (hfree x (.inl hrun))]; exact hrun)
      · exact .inr (.inl (by rw [hax x (hfree x (.inr hbusy))]; exact hbusy))
      · exact .inr (.inr ⟨j, p, hj, by rw [hold j (hj.trans hlt)]; exact hp, hpd, hpx⟩)
    · rw [hc, List.getElem?_append_right (by omega)] at hq
      exact absurd (hk q (List.mem_of_getElem? hq)).2 (by simp [hqd])
  · rw [hc] at hq
    rcases List.mem_append.1 hq with hq | hq
    · exact hd q hq hqs
    · exact (hk q hq).2

end

/-! ## The axis sets and the values of a request (07 R115) -/

section
variable (m : Nat)

/-- The place of an axis in an axis set. -/
def axisBit : Axis → Nat
  | .shiftH => 0
  | .shiftV => 1
  | .zoom => 2
  | .focus => 3

theorem axisCount_eq : axisCount m = ((List.range 4).filter fun k => m.testBit k).length := by
  have h : List.range 4 = [0, 1, 2, 3] := rfl
  rw [h]
  simp only [axisCount, allAxes, List.filter_cons, List.filter_nil, axesOfMask, PerAxis.get]
  cases m.testBit 0 <;> cases m.testBit 1 <;> cases m.testBit 2 <;> cases m.testBit 3 <;> rfl

theorem axesOfMask_get (x : Axis) : (axesOfMask m).get x = m.testBit (axisBit x) := by cases x <;> rfl

theorem assignValues_get (x : Axis) (l : List Int) : (assignValues (axesOfMask m) l).get x =
    if m.testBit (axisBit x) then l[((List.range (axisBit x)).filter fun k => m.testBit k).length]? else none := by
  have h1 : List.range 1 = [0] := rfl
  have h2 : List.range 2 = [0, 1] := rfl
  have h3 : List.range 3 = [0, 1, 2] := rfl
  cases x with
  | shiftH => rfl
  | shiftV =>
    simp only [axisBit, h1, List.filter_cons, List.filter_nil, assignValues, axesOfMask, PerAxis.get]
    rcases Bool.eq_false_or_eq_true (m.testBit 0) with h0 | h0 <;> simp [h0]
  | zoom =>
    simp only [axisBit, h2, List.filter_cons, List.filter_nil, assignValues, axesOfMask, PerAxis.get]
    rcases Bool.eq_false_or_eq_true (m.testBit 0) with h0 | h0 <;>
      rcases Bool.eq_false_or_eq_true (m.testBit 1) with h1 | h1 <;> simp [h0, h1]
  | focus =>
    simp only [axisBit, h3, List.filter_cons, List.filter_nil, assignValues, axesOfMask, PerAxis.get]
    rcases Bool.eq_false_or_eq_true (m.testBit 0) with h0 | h0 <;>
      rcases Bool.eq_false_or_eq_true (m.testBit 1) with h1 | h1 <;>
        rcases Bool.eq_false_or_eq_true (m.testBit 2) with h2 | h2 <;> simp [h0, h1, h2]

end

theorem notWithin_iff {a b v : Int} : (!within a b v) = true ↔ v < a ∨ b < v := by
  simp only [within, Bool.not_eq_true', decide_eq_false_iff_not]
  omega

theorem heldTarget_focus (s : State) (t : Int) : heldTarget s .focus t = t := rfl

theorem heldTarget_other (s : State) {x : Axis} (t : Int) (h : x ≠ .focus) :
    heldTarget s x t = clamp 0 (s.set.axes.get x).travel t := by
  cases x with
  | focus => exact absurd rfl h
  | shiftH | shiftV | zoom => rfl

theorem moveClamps_other (s : State) {x : Axis} (t : Int) (h : x ≠ .focus) :
    moveClamps s x t = !within 0 (s.set.axes.get x).travel t := by
  cases x with
  | focus => exact absurd rfl h
  | shiftH | shiftV | zoom => rfl

theorem heldTarget_taken (p : Port) (s : State) : heldTarget (taken p s) = heldTarget s := by cases p <;> rfl

theorem moveClamps_taken (p : Port) (s : State) : moveClamps (taken p s) = moveClamps s := by cases p <;> rfl

/-! ## Joining the queue (07 R113, R114, R129) -/

section
variable {s : State} {p : Port} {r : Request} {k : Status}

/-- The requests that stay beside a new one: a waiting COMP request gives way to one that names FOCUS. -/
def keptBeside (r : Request) (s : State) : List Request :=
  if r.axes.focus then s.mq.requests.filter fun q => !(decide (q.kind = .comp) && !q.dispatched) else s.mq.requests

/-- The queue that a new request has joined. -/
def joined (r : Request) (s : State) : State :=
  { s with mq := { s.mq with
    requests := keptBeside r s ++ [{ r with serial := s.mq.nextSerial }], nextSerial := s.mq.nextSerial + 1 } }

/-- The queue after a new request has joined and been tested. -/
def joinedTested (r : Request) (s : State) : State := dispatchPass (joined r s).mq.requests.length (joined r s)

/-- The new request still waits. -/
def stillWaits (k : Nat) (t : State) : Bool := t.mq.requests.any fun q => decide (q.serial = k) && !q.dispatched

theorem joinQueue_kept (hk : r.kind ≠ .comp) :
    (if r.axes.focus then removeWaitingComp (joinQueue r s) else joinQueue r s) = joined r s := by
  cases hf : r.axes.focus with
  | false => simp [joinQueue, joined, keptBeside, hf]
  | true => simp [removeWaitingComp, joinQueue, joined, keptBeside, hf, Request.waitingComp, hk]

theorem enqueue_eq (hk : r.kind ≠ .comp) : enqueue r k s =
    { st := joinedTested r s, status := k,
      data := u8 (r.tag.getD 0) ++ u8 (if stillWaits s.mq.nextSerial (joinedTested r s) then 0 else 1) } := by
  unfold enqueue
  dsimp only
  rw [joinQueue_kept hk]
  unfold flag
  simp only [Bool.not_eq_true', ← Bool.not_eq_true, ite_not]
  rfl

theorem queueFull_iff : queueFull s r.axes = true ↔ 8 ≤ (keptBeside r s).length := by
  unfold queueFull keptBeside
  rw [decide_eq_true_iff]
  cases hf : r.axes.focus <;> simp [Request.waitingComp]

theorem notHomed_iff {m : PerAxis Bool} : notHomed s m = true ↔ ∃ x, m.get x = true ∧
    ((s.axes.get x).state = .unhomed ∨ (s.axes.get x).state = .lost ∨ (s.axes.get x).state = .fault) := by
  unfold notHomed
  rw [any_allAxes]
  refine exists_congr fun x => ?_
  rw [Bool.and_eq_true]
  refine and_congr_right fun _ => ?_
  cases (s.axes.get x).state <;> simp

theorem tryEnqueue_room (hn : (keptBeside r s).length < 8) (hh : r.kind ≠ .home → notHomed s r.axes = false) :
    tryEnqueue r k s = enqueue r k s := by
  have hfull : ¬ queueFull s r.axes = true := fun c => absurd (queueFull_iff.1 c) (by omega)
  unfold tryEnqueue
  rw [if_neg hfull]
  refine if_neg ?_
  by_cases hk : r.kind = .home
  · simp [hk]
  · simp [hh hk]

/-- The queue is full, and none of its requests gives way. -/
def fullQueue (s : State) : Prop :=
  8 ≤ s.mq.requests.length ∧ ∀ q ∈ s.mq.requests, q.dispatched = true ∨ q.kind ≠ .comp

theorem keptBeside_full (h : fullQueue s) : keptBeside r s = s.mq.requests := by
  unfold keptBeside
  split
  · refine List.filter_eq_self.2 fun q hq => ?_
    rcases h.2 q hq with h | h <;> simp [h]
  · rfl

theorem tryEnqueue_full (h : fullQueue s) : tryEnqueue r k s = refuse s .full :=
  if_pos (queueFull_iff.2 (by rw [keptBeside_full h]; exact h.1))

theorem keptBeside_length : (keptBeside r s).length ≤ s.mq.requests.length := by
  unfold keptBeside
  split
  · exact List.length_filter_le _ _
  · exact Nat.le_refl _

theorem tryEnqueue_notHomed (hn : s.mq.requests.length < 8) (hk : r.kind ≠ .home) (hh : notHomed s r.axes = true) :
    tryEnqueue r k s = refuse s .notHomed := by
  have hfull : ¬ queueFull s r.axes = true := fun c => by
    have h1 := queueFull_iff.1 c
    have h2 := keptBeside_length (r := r) (s := s)
    omega
  unfold tryEnqueue
  rw [if_neg hfull]
  exact if_pos (by simp [hk, hh])

/-- A new request that nothing holds back is dispatched, and the test is over. -/
theorem joinedTested_dispatched (hd : r.dispatched = false) (hb : heldBefore (joined r s) (keptBeside r s).length)
    (hf : ¬ heldBack (joined r s) (keptBeside r s).length r)
    (hside : (∀ q ∈ keptBeside r s, q.dispatched = true)
      ∨ (∀ q ∈ keptBeside r s, q.serial ≠ s.mq.nextSerial) ∧ ∀ x, (s.axes.get x).running ≠ some s.mq.nextSerial) :
    joinedTested r s = dispatch { r with serial := s.mq.nextSerial } (joined r s)
    ∧ stillWaits s.mq.nextSerial (joinedTested r s) = false := by
  let q : Request := { r with serial := s.mq.nextSerial }
  have hq : (joined r s).mq.requests[(keptBeside r s).length]? = some q := by simp [joined, q]
  have hover : heldBefore (dispatch q (joined r s)) (dispatch q (joined r s)).mq.requests.length
      ∧ ∀ p ∈ (dispatch q (joined r s)).mq.requests, p.serial = q.serial → p.dispatched = true := by
    rcases hside with hrun | ⟨hserial, hfree⟩
    · have hcount : waitingCount (joined r s) = 1 := by
        have hzero : (keptBeside r s).countP (fun p => !p.dispatched) = 0 :=
          List.countP_eq_zero.2 fun p hp => by simp [hrun p hp]
        simp [waitingCount, joined, hzero, hd]
      have hall := dispatch_only (List.mem_of_getElem? hq) hd hcount
      exact ⟨heldBefore_of_running hall, fun p hp _ => hall p hp⟩
    · exact heldBefore_dispatch rfl hserial (fun x _ => hfree x) hb hf fun p hp he => absurd he (hserial p hp)
  have heq : joinedTested r s = dispatch q (joined r s) :=
    ((dispatchPass_tested (joined r s)).of_next hq hd hb hf).eq_of_held hover.1
  refine ⟨heq, ?_⟩
  rw [heq, stillWaits, List.any_eq_false]
  intro p hp
  have := hover.2 p hp
  simp only [Bool.and_eq_true, decide_eq_true_iff, Bool.not_eq_true', not_and, Bool.not_eq_false]
  exact this

/-- A new request that is held back waits. -/
theorem joinedTested_waits (hd : r.dispatched = false) (hb : heldBefore (joined r s) (keptBeside r s).length)
    (hf : heldBack (joined r s) (keptBeside r s).length r) :
    joinedTested r s = joined r s ∧ stillWaits s.mq.nextSerial (joinedTested r s) = true := by
  have hall : heldBefore (joined r s) (joined r s).mq.requests.length := by
    intro i q hi hq hqd
    rcases Nat.lt_or_ge i (keptBeside r s).length with hlt | hge
    · exact hb i q hlt hq hqd
    · have hi' : i = (keptBeside r s).length := by
        have hlen : i < (keptBeside r s ++ [{ r with serial := s.mq.nextSerial }]).length := hi
        rw [List.length_append] at hlen
        simp only [List.length_cons, List.length_nil] at hlen
        omega
      subst hi'
      have hq' : { r with serial := s.mq.nextSerial } = q := by simpa [joined] using hq
      subst hq'
      exact hf
  have heq : joinedTested r s = joined r s := dispatchPass_held hall
  refine ⟨heq, ?_⟩
  rw [heq]
  simp [stillWaits, joined, hd]

/-- What an accepted enqueue answers. -/
theorem enqueue_answers {i : Instr} {id : Byte} {tag : Nat} (hk : r.kind ≠ .comp) (ht : r.tag = some tag)
    (hd : r.dispatched = false)
    (hexec : (keptBeside r s).length < 8 → exec i s =
      .next (replied p id k (enqueue r k (taken p s)).data s (enqueue r k (taken p s)).st)) :
    let kept := keptBeside r s
    let before : State := { s with mq := { s.mq with requests := kept } }
    let queue : State := { taken p s with mq := { s.mq with
      requests := kept ++ [{ r with serial := s.mq.nextSerial }], nextSerial := s.mq.nextSerial + 1 } }
    let n := kept.length
    n < 8 →
    (∃ t, DispatchTested queue t ∧ exec i s = .next (replied p id k (u8 tag
      ++ u8 (if t.mq.requests.any fun q => decide (q.serial = s.mq.nextSerial) && !q.dispatched then 0 else 1)) s t))
    ∧ (heldBefore before n →
      (heldBack before n r → exec i s = .next (replied p id k (u8 tag ++ u8 0) s queue))
      ∧ (¬ heldBack before n r →
        ((∀ q ∈ kept, q.dispatched = true)
          ∨ (∀ q ∈ kept, q.serial ≠ s.mq.nextSerial) ∧ ∀ x, (s.axes.get x).running ≠ some s.mq.nextSerial) →
        exec i s = .next (replied p id k (u8 tag ++ u8 1) s (dispatch { r with serial := s.mq.nextSerial } queue)))) := by
  intro kept before queue n hn
  have hkept : keptBeside r (taken p s) = kept := by simp only [keptBeside, taken_mq, kept]
  have hqueue : joined r (taken p s) = queue := by simp only [joined, hkept, taken_mq, queue]
  have hanswer : exec i s = .next (replied p id k (u8 tag
      ++ u8 (if stillWaits s.mq.nextSerial (joinedTested r (taken p s)) then 0 else 1)) s
        (joinedTested r (taken p s))) := by
    rw [hexec hn, enqueue_eq hk, ht, taken_mq]
    rfl
  have hsame (j : Nat) (hj : j < n) : before.mq.requests[j]? = queue.mq.requests[j]? :=
    (List.getElem?_append_left hj).symm
  have haxes : before.axes = queue.axes := (taken_axes p s).symm
  refine ⟨⟨_, hqueue ▸ dispatchPass_tested _, hanswer⟩, fun hb => ⟨fun hf => ?_, fun hf hside => ?_⟩⟩
  · obtain ⟨heq, hwaits⟩ := joinedTested_waits (s := taken p s) hd
      (by rw [hqueue, hkept]; exact (heldBefore_congr haxes hsame).1 hb)
      (by rw [hqueue, hkept]; exact (heldBack_congr haxes hsame).1 hf)
    rw [taken_mq] at hwaits
    rw [hanswer, hwaits, heq, hqueue]
    rfl
  · obtain ⟨heq, hwaits⟩ := joinedTested_dispatched (s := taken p s) hd
      (by rw [hqueue, hkept]; exact (heldBefore_congr haxes hsame).1 hb)
      (by rw [hqueue, hkept]; exact fun c => hf ((heldBack_congr haxes hsame).2 c))
      (by rw [hkept, taken_mq, taken_axes]; exact hside)
    rw [taken_mq] at hwaits heq
    rw [hanswer, hwaits, heq, hqueue]
    rfl

end
end Sys2Proof.Machine
end

section
/-! The commands that enqueue, and their refusals (07 R114 to R116). -/

namespace Sys2Proof.Machine

section
variable {s : State} {p : Port}

theorem axisSetOk_iff {m : Nat} : axisSetOk m = true ↔ 1 ≤ m ∧ m ≤ 15 := by
  unfold axisSetOk
  rw [decide_eq_true_iff]
  omega

theorem notHomed_taken (m : PerAxis Bool) : notHomed (taken p s) m = notHomed s m := by
  simp only [notHomed, taken_axes]

/-- The values of a MOVE or a STEP, and its axis set, are in their ranges. -/
theorem motionChecks_iff {a : MoveArgs} {lo hi : Int} :
    (axisSetOk a.axes && decide (a.vals.length = (allAxes.filter (axesOfMask a.axes).get).length)
      && a.vals.all (within lo hi)) = true ↔
    (1 ≤ a.axes ∧ a.axes ≤ 15) ∧ a.vals.length = axisCount a.axes ∧ ∀ v ∈ a.vals, lo ≤ v ∧ v ≤ hi := by
  simp only [Bool.and_eq_true, axisSetOk_iff, decide_eq_true_iff, List.all_eq_true, within_iff, and_assoc]
  rfl

/-- The record that MQ_MOVE enqueues. -/
def moveRequest (p : Port) (s : State) (a : MoveArgs) : Request :=
  newRequest p .move (axesOfMask a.axes) ((assignValues (axesOfMask a.axes) a.vals).map fun x o => o.map (heldTarget s x))
    0 a.tag

/-- Whether MQ_MOVE clamps a target (07 R115). -/
def moveStatus (s : State) (a : MoveArgs) : Status :=
  if allAxes.any fun x => match (assignValues (axesOfMask a.axes) a.vals).get x with
    | none => false
    | some t => moveClamps s x t
  then .okClamped else .ok

theorem mqMove_taken {a : MoveArgs} (h : (1 ≤ a.axes ∧ a.axes ≤ 15) ∧ a.vals.length = axisCount a.axes
    ∧ ∀ v ∈ a.vals, 0 ≤ v ∧ v ≤ 65535) :
    mqMove p a (taken p s) = tryEnqueue (moveRequest p s a) (moveStatus s a) (taken p s) := by
  refine (if_pos (motionChecks_iff.2 h)).trans ?_
  rw [heldTarget_taken, moveClamps_taken]
  rfl

theorem mqStep_taken {a : MoveArgs} (h : (1 ≤ a.axes ∧ a.axes ≤ 15) ∧ a.vals.length = axisCount a.axes
    ∧ ∀ v ∈ a.vals, -65000 ≤ v ∧ v ≤ 65000) :
    mqStep p a (taken p s) = tryEnqueue
      (newRequest p .step (axesOfMask a.axes) (assignValues (axesOfMask a.axes) a.vals) 0 a.tag) .ok (taken p s) :=
  if_pos (motionChecks_iff.2 h)

theorem mqHome_taken {m tag : Nat} (h1 : 1 ≤ m) (h15 : m ≤ 15) : mqHome p ⟨m, tag⟩ (taken p s) =
    tryEnqueue (newRequest p .home (axesOfMask m) (PerAxis.const none) 0 tag) .ok (taken p s) :=
  if_pos (axisSetOk_iff.2 ⟨h1, h15⟩)

theorem mqRecall_taken {slot tag : Nat} (h : slot ≤ 9) : mqRecall p ⟨slot, tag⟩ (taken p s) =
    tryEnqueue (newRequest p .recall (PerAxis.const true) (PerAxis.const none) slot tag) .ok (taken p s) := if_pos h

/-! ## What an enqueue that its checks let pass answers -/

section
variable {α : Type} {id : Byte} {a : α} {unit : α → State → Answer} {r : Request} {k : Status}
  (hc : canUse p .motion s) (hu : unit a (taken p s) = tryEnqueue r k (taken p s))
include hc hu

theorem enqueued (hh : r.kind ≠ .home → notHomed s r.axes = false) (hn : (keptBeside r s).length < 8) :
    command p id .motion (.form a) unit s =
      .next (replied p id k (enqueue r k (taken p s)).data s (enqueue r k (taken p s)).st) := by
  have hkept : keptBeside r (taken p s) = keptBeside r s := by simp only [keptBeside, taken_mq]
  exact command_eq hc (hu.trans (tryEnqueue_room (by rw [hkept]; exact hn)
    (fun hk => by rw [notHomed_taken]; exact hh hk)))

theorem refused_full (hf : fullQueue s) : command p id .motion (.form a) unit s = .next (replied p id .full [] s (taken p s)) :=
  command_eq hc (hu.trans (tryEnqueue_full (by unfold fullQueue; rw [taken_mq]; exact hf)))

theorem refused_notHomed (hn : s.mq.requests.length < 8) (hk : r.kind ≠ .home)
    (hl : ∃ x, r.axes.get x = true ∧
      ((s.axes.get x).state = .unhomed ∨ (s.axes.get x).state = .lost ∨ (s.axes.get x).state = .fault)) :
    command p id .motion (.form a) unit s = .next (replied p id .notHomed [] s (taken p s)) :=
  command_eq hc (hu.trans (tryEnqueue_notHomed (by rw [taken_mq]; exact hn) hk
    (by rw [notHomed_taken]; exact notHomed_iff.2 hl)))

end

theorem homed_checked {m : PerAxis Bool} (h : ∀ x, m.get x = true →
    (s.axes.get x).state ≠ .unhomed ∧ (s.axes.get x).state ≠ .lost ∧ (s.axes.get x).state ≠ .fault) :
    notHomed s m = false := by
  by_contra c
  obtain ⟨x, hx, hs⟩ := notHomed_iff.1 (by simpa using c)
  obtain ⟨h1, h2, h3⟩ := h x hx
  rcases hs with hs | hs | hs
  · exact h1 hs
  · exact h2 hs
  · exact h3 hs

/-! ## The refusals -/

theorem not_motionChecks {a : MoveArgs} {lo hi : Int}
    (h : a.axes = 0 ∨ 16 ≤ a.axes ∨ a.vals.length ≠ axisCount a.axes ∨ ∃ t ∈ a.vals, t < lo ∨ hi < t) :
    ¬ (axisSetOk a.axes && decide (a.vals.length = (allAxes.filter (axesOfMask a.axes).get).length)
      && a.vals.all (within lo hi)) = true := by
  rw [motionChecks_iff]
  rintro ⟨hm, hlen, hv⟩
  rcases h with h | h | h | ⟨t, ht, h⟩
  · omega
  · omega
  · exact h hlen
  · have := hv t ht
    omega

/-- The clauses on the refusals of an enqueue. -/
theorem refusal_clauses (p : Port) (s : State) (m tag : Nat) (hc : canUse p .motion s) :
    let no (i : Instr) (id : Byte) (k : Status) : Prop := exec i s = .next (replied p id k [] s (taken p s))
    let full : Prop := 8 ≤ s.mq.requests.length ∧ ∀ q ∈ s.mq.requests, q.dispatched = true ∨ q.kind ≠ .comp
    let lost (x : Axis) : Prop :=
      (s.axes.get x).state = .unhomed ∨ (s.axes.get x).state = .lost ∨ (s.axes.get x).state = .fault
    ((m = 0 ∨ 16 ≤ m) → no (.mqHome p (.form ⟨m, tag⟩)) 0x62#8 .range)
    ∧ (∀ v : List Int, (m = 0 ∨ 16 ≤ m ∨ v.length ≠ axisCount m ∨ ∃ t ∈ v, t < 0 ∨ 65535 < t) →
      no (.mqMove p (.form ⟨m, tag, v⟩)) 0x60#8 .range)
    ∧ (∀ v : List Int, (m = 0 ∨ 16 ≤ m ∨ v.length ≠ axisCount m ∨ ∃ t ∈ v, t < -65000 ∨ 65000 < t) →
      no (.mqStep p (.form ⟨m, tag, v⟩)) 0x61#8 .range)
    ∧ (∀ slot : Nat, 9 < slot → no (.mqRecall p (.form ⟨slot, tag⟩)) 0x63#8 .range)
    ∧ (1 ≤ m → m ≤ 15 → full → no (.mqHome p (.form ⟨m, tag⟩)) 0x62#8 .full)
    ∧ (∀ slot : Nat, slot ≤ 9 → full → no (.mqRecall p (.form ⟨slot, tag⟩)) 0x63#8 .full)
    ∧ (∀ x slot, slot ≤ 9 → s.mq.requests.length < 8 → lost x →
      no (.mqRecall p (.form ⟨slot, tag⟩)) 0x63#8 .notHomed)
    ∧ (1 ≤ m → m ≤ 15 → ∀ v : List Int, v.length = axisCount m →
      ((∀ t ∈ v, 0 ≤ t ∧ t ≤ 65535) →
        (full → no (.mqMove p (.form ⟨m, tag, v⟩)) 0x60#8 .full)
        ∧ (s.mq.requests.length < 8 → (∃ x, (axesOfMask m).get x = true ∧ lost x) →
          no (.mqMove p (.form ⟨m, tag, v⟩)) 0x60#8 .notHomed))
      ∧ ((∀ t ∈ v, -65000 ≤ t ∧ t ≤ 65000) →
        (full → no (.mqStep p (.form ⟨m, tag, v⟩)) 0x61#8 .full)
        ∧ (s.mq.requests.length < 8 → (∃ x, (axesOfMask m).get x = true ∧ lost x) →
          no (.mqStep p (.form ⟨m, tag, v⟩)) 0x61#8 .notHomed))) := by
  intro no full lost
  refine ⟨fun h => command_eq hc (if_neg ?_), fun v h => command_eq hc (if_neg (not_motionChecks (a := ⟨m, tag, v⟩) h)),
    fun v h => command_eq hc (if_neg (not_motionChecks (a := ⟨m, tag, v⟩) h)), fun slot h => command_eq hc (if_neg ?_),
    fun h1 h15 hf => refused_full hc (mqHome_taken h1 h15) hf, fun slot h hf => refused_full hc (mqRecall_taken h) hf,
    fun x slot h hn hl => refused_notHomed hc (mqRecall_taken h) hn (by decide : Kind.recall ≠ .home)
      ⟨x, PerAxis.get_const _ _, hl⟩,
    fun h1 h15 v hlen => ⟨fun hv => ?_, fun hv => ?_⟩⟩
  · rw [axisSetOk_iff]
    dsimp only
    omega
  · dsimp only
    omega
  · have hu := mqMove_taken (s := s) (p := p) (a := ⟨m, tag, v⟩) ⟨⟨h1, h15⟩, hlen, hv⟩
    exact ⟨fun hf => refused_full hc hu hf, fun hn hl => refused_notHomed hc hu hn (by decide : Kind.move ≠ .home) hl⟩
  · have hu := mqStep_taken (s := s) (p := p) (a := ⟨m, tag, v⟩) ⟨⟨h1, h15⟩, hlen, hv⟩
    exact ⟨fun hf => refused_full hc hu hf, fun hn hl => refused_notHomed hc hu hn (by decide : Kind.step ≠ .home) hl⟩

end

/-- Settles O25, by what an accepted enqueue answers and what refuses one. -/
theorem enqueueAndRefusals : Obligations.EnqueueAndRefusals := by
  refine ⟨⟨fun m => ⟨axisCount_eq m, fun x l => ⟨?_, ?_⟩⟩, fun s x t => ⟨?_, fun hx => ⟨?_, ?_⟩⟩, fun p k m v slot tag => ?_⟩,
    fun p s hc => ⟨?_, ?_, ?_, ?_⟩, fun p s m tag hc => refusal_clauses p s m tag hc⟩
  · rw [axesOfMask_get]
    cases x <;> rfl
  · rw [assignValues_get]
    cases x <;> rfl
  · rintro rfl
    exact ⟨rfl, notWithin_iff⟩
  · exact heldTarget_other s t hx
  · rw [moveClamps_other s t hx, notWithin_iff]
  · cases p <;> exact ⟨rfl, rfl, rfl, rfl, rfl, rfl, rfl, rfl, rfl, rfl⟩
  · intro a h1 h15 hlen hv hh
    exact enqueue_answers (r := moveRequest p s a) (k := moveStatus s a) (by decide : Kind.move ≠ .comp) rfl rfl
      (enqueued hc (mqMove_taken ⟨⟨h1, h15⟩, hlen, hv⟩) fun _ => homed_checked hh)
  · intro a h1 h15 hlen hv hh
    exact enqueue_answers (by decide : Kind.step ≠ .comp) rfl rfl
      (enqueued hc (mqStep_taken ⟨⟨h1, h15⟩, hlen, hv⟩) fun _ => homed_checked hh)
  · intro m tag h1 h15
    exact enqueue_answers (by decide : Kind.home ≠ .comp) rfl rfl
      (enqueued hc (mqHome_taken h1 h15) fun hk => absurd rfl hk)
  · intro slot tag hs hh
    exact enqueue_answers (by decide : Kind.recall ≠ .comp) rfl rfl
      (enqueued hc (mqRecall_taken hs) fun _ => homed_checked hh)

end Sys2Proof.Machine
end

section
/-! FLUSH, the lens memories and Focus Compensation (07, sections 7.3 to 7.5). -/

namespace Sys2Proof.Machine

/-! ## A queue that is tested (07 R117) -/

/-- What the dispatch test of a queue answers, whatever is done with the state that it leaves. -/
theorem tested_clauses {s : State} {l : List Request} {answers : State → Prop}
    (h : answers (dispatchPass l.length { s with mq := { s.mq with requests := l } })) :
    let u : State := { s with mq := { s.mq with requests := l } }
    (∃ t, DispatchTested u t ∧ answers t) ∧ (heldBefore u l.length → answers u)
    ∧ ∀ q : Request, (l.filter fun r => !r.dispatched) = [q] →
        (∀ x, q.axes.get x = true → (s.axes.get x).running = none ∧ (s.axes.get x).state.busy = false) →
        answers (dispatch q u) := by
  intro u
  have htested : DispatchTested u (dispatchPass l.length u) := dispatchPass_tested u
  refine ⟨⟨_, htested, h⟩, fun hb => htested.eq_of_held hb ▸ h, fun q hq hfree => ?_⟩
  obtain ⟨k, m, hl, hk, hd, hm⟩ := List.filter_eq_cons_iff.1 hq
  have hqd : q.dispatched = false := by simpa using hd
  have hat : u.mq.requests[k.length]? = some q := by
    show l[k.length]? = some q
    rw [hl]
    simp
  have holder (i : Nat) (p : Request) (hi : i < k.length) (hp : u.mq.requests[i]? = some p) : p.dispatched = true := by
    have hp' : l[i]? = some p := hp
    rw [hl, List.getElem?_append_left hi] at hp'
    simpa using hk p (List.mem_of_getElem? hp')
  have hb : heldBefore u k.length := fun i p hi hp hpd => absurd (holder i p hi hp) (by simp [hpd])
  have hf : ¬ heldBack u k.length q := by
    rintro ⟨x, hx, hrun | hbusy | ⟨i, p, hi, hp, hpd, _⟩⟩
    · exact hrun (hfree x hx).1
    · exact absurd ((hfree x hx).2.symm.trans hbusy) (by decide)
    · exact absurd (holder i p hi hp) (by simp [hpd])
  have hcount : waitingCount u = 1 := by
    show l.countP _ = 1
    rw [List.countP_eq_length_filter, hq]
    rfl
  have hover := dispatch_only (List.mem_of_getElem? hat) hqd hcount
  exact (htested.of_next hat hqd hb hf).eq_of_held (heldBefore_of_running hover) ▸ h

/-! ## FLUSH and the reads of the queue (07 R121 to R123) -/

section
variable {s : State} {p : Port}

theorem flushed_eq (q : Request) : flushed p q = (!q.dispatched && match p with
    | .a => decide (q.source = .portA ∨ q.source = .start)
    | .b => decide (q.source = .portB)) := by
  unfold flushed
  cases p <;> cases q.source <;> rfl

theorem targetBytes_eq (r : Request) (o : Option Int) : targetBytes r o =
    if r.kind = .step ∧ r.dispatched = false then s24 (o.getD 0) ++ flag o.isNone else opt16 o := by
  unfold targetBytes
  refine if_congr ?_ rfl rfl
  simp

/-! ## Lens memories (07 R124 to R127) -/

theorem anyBusy_iff : anyBusy s = true ↔ ∃ x, (s.axes.get x).state.busy = true := any_allAxes _

theorem labelOk_iff {l : List Byte} :
    labelOk l = true ↔ (1 ≤ l.length ∧ l.length ≤ 12) ∧ ∀ c ∈ l, 32 ≤ c.toNat ∧ c.toNat ≤ 126 := by
  simp [labelOk]

theorem labelOf_none {a : SaveArgs} (h : a.flags.testBit 1 = false) : labelOf a = some none := by simp [labelOf, h]

theorem labelOf_some {a : SaveArgs} (h : a.flags.testBit 1 = true) (hl : labelOk a.label = true) :
    labelOf a = some (some a.label) := by simp [labelOf, h, hl]

theorem memSave_taken {a : SaveArgs} {o : Option (List Byte)} (hl : labelOf a = some o) (hs : a.slot < 10)
    (hf : a.flags < 4) (hidle : ∀ x, (s.axes.get x).state = .idle) :
    memSave a s = accept (setSlot a.slot (some (savedSlot s o (a.flags.testBit 0))) s) := by
  have hhomed : notHomed s (PerAxis.const true) = false := homed_checked fun x _ => by
    rw [hidle x]
    decide
  have hbusy : anyBusy s = false := by
    by_contra c
    obtain ⟨x, hx⟩ := anyBusy_iff.1 (by simpa using c)
    rw [hidle x] at hx
    cases hx
  unfold memSave
  rw [hl]
  dsimp only
  rw [if_neg (by omega), hhomed, hbusy]
  rfl

theorem memSave_notHomed {slot : Nat} (hs : slot < 10) (h : ∃ x, (s.axes.get x).state = .unhomed
    ∨ (s.axes.get x).state = .lost ∨ (s.axes.get x).state = .fault) :
    memSave ⟨slot, 0, []⟩ s = refuse s .notHomed := by
  obtain ⟨x, hx⟩ := h
  have hl : notHomed s (PerAxis.const true) = true := notHomed_iff.2 ⟨x, PerAxis.get_const _ _, hx⟩
  unfold memSave
  rw [labelOf_none (Nat.zero_testBit 1)]
  dsimp only
  rw [if_neg (by omega), hl]
  rfl

theorem memSave_busy {slot : Nat} (hs : slot < 10) (h : ∃ x, (s.axes.get x).state.busy = true)
    (hall : ∀ x, (s.axes.get x).state = .idle ∨ (s.axes.get x).state.busy = true) :
    memSave ⟨slot, 0, []⟩ s = refuse s .busy := by
  have hhomed : notHomed s (PerAxis.const true) = false := homed_checked fun x _ => by
    rcases hall x with h | h
    · rw [h]
      decide
    · rcases (busy_iff _).1 h with h | h | h | h <;> rw [h] <;> decide
  unfold memSave
  rw [labelOf_none (Nat.zero_testBit 1)]
  dsimp only
  rw [if_neg (by omega), hhomed, anyBusy_iff.2 h]
  rfl

theorem setSlot_taken (i : Fin 10) (o : Option SlotRec) :
    setSlot i.val o (taken p s) = { taken p s with set := { s.set with slots := s.set.slots.set i o } } := by
  unfold setSlot
  rw [setAt_of_lt, taken_set]

/-- The flag bytes of MEM_SAVE: bit 0 asks for the geometry, bit 1 carries a label (07 R125). -/
theorem saveFlags_bare (b : Bool) : (if b then 1 else 0 : Nat).testBit 1 = false
    ∧ (if b then 1 else 0 : Nat).testBit 0 = b ∧ (if b then 1 else 0 : Nat) < 4 := by
  cases b <;> decide

theorem saveFlags_label (b : Bool) : (if b then 3 else 2 : Nat).testBit 1 = true
    ∧ (if b then 3 else 2 : Nat).testBit 0 = b ∧ (if b then 3 else 2 : Nat) < 4 := by
  cases b <;> decide

/-- The clauses on the lens memories. -/
theorem memory_clauses (p : Port) (s : State) (i : Fin 10) :
    (canUse p .motion s →
      let slot (l : Option (List Byte)) (o : Option (PerCorner Pt)) : SlotRec :=
        ⟨l, s.axes.shiftH.position, s.axes.shiftV.position, s.axes.zoom.position,
          s.axes.focus.position - s.fc.applied, o⟩
      let put (o : Option SlotRec) : State := { taken p s with set := { s.set with slots := s.set.slots.set i o } }
      (∀ b : Bool, (∀ x, (s.axes.get x).state = .idle) →
        let o := if b then some s.set.geo.offsets else none
        exec (.memSave p (.form ⟨i.val, if b then 1 else 0, []⟩)) s =
          .next (replied p 0x70#8 .ok [] s (put (some (slot none o))))
        ∧ ∀ l : List Byte, 1 ≤ l.length → l.length ≤ 12 → (∀ c ∈ l, 32 ≤ c.toNat ∧ c.toNat ≤ 126) →
          exec (.memSave p (.form ⟨i.val, if b then 3 else 2, l⟩)) s =
            .next (replied p 0x70#8 .ok [] s (put (some (slot (some l) o)))))
      ∧ ((∃ x, (s.axes.get x).state = .unhomed ∨ (s.axes.get x).state = .lost ∨ (s.axes.get x).state = .fault) →
        exec (.memSave p (.form ⟨i.val, 0, []⟩)) s = .next (replied p 0x70#8 .notHomed [] s (taken p s)))
      ∧ ((∃ x, (s.axes.get x).state.busy = true) → (∀ x, (s.axes.get x).state = .idle ∨ (s.axes.get x).state.busy = true) →
        exec (.memSave p (.form ⟨i.val, 0, []⟩)) s = .next (replied p 0x70#8 .busy [] s (taken p s)))
      ∧ exec (.memDelete p (.form i.val)) s = .next (replied p 0x71#8 .ok [] s (put none)))
    ∧ (canUse p .none s →
      let pair (d : Pt) : List Byte := s16 d.x ++ s16 d.y
      let slot : List Byte := match s.set.slots.get i with
        | none => u8 0
        | some r =>
          let o := r.offsets.getD ⟨⟨0, 0⟩, ⟨0, 0⟩, ⟨0, 0⟩, ⟨0, 0⟩⟩
          u8 1 ++ u8 (r.label.getD []).length ++ r.label.getD [] ++ flag r.label.isNone
            ++ s16 r.shiftH ++ s16 r.shiftV ++ s16 r.zoom ++ s24 r.focusUser
            ++ (pair o.tl ++ pair o.tr ++ pair o.bl ++ pair o.br) ++ flag r.offsets.isNone
      exec (.memRead p (.form i.val)) s = .next (replied p 0x72#8 .ok
        (slot ++ u8 (match s.set.powerOn with | none => 0xFF | some k => k.val)) s (taken p s)))
    ∧ (canUse p .config s →
      exec (.memSetPoweron p (.form i.val)) s =
        .next (replied p 0x73#8 .ok [] s { taken p s with set := { s.set with powerOn := some i } })
      ∧ exec (.memSetPoweron p (.form 0xFF)) s =
        .next (replied p 0x73#8 .ok [] s { taken p s with set := { s.set with powerOn := none } })) := by
  have hslot := i.isLt
  refine ⟨fun hc => ?_, fun hc => ?_, fun hc => ⟨command_eq hc ?_, command_eq hc ?_⟩⟩
  · intro slot put
    have hsaved (l : Option (List Byte)) (b : Bool) :
        accept (setSlot i.val (some (savedSlot (taken p s) l b)) (taken p s)) =
          ⟨put (some (slot l (if b then some s.set.geo.offsets else none))), .ok, []⟩ := by
      rw [setSlot_taken, savedSlot, taken_axes, taken_fc, taken_set]
      rfl
    refine ⟨fun b hidle => ⟨command_eq hc ?_, fun l h1 h12 hl => command_eq hc ?_⟩, fun h => command_eq hc ?_,
      fun h hall => command_eq hc ?_, command_eq hc ?_⟩
    · obtain ⟨h1, h0, h4⟩ := saveFlags_bare b
      refine (memSave_taken (s := taken p s) (a := ⟨i.val, if b then 1 else 0, []⟩) (labelOf_none h1) hslot h4
        (by rw [taken_axes]; exact hidle)).trans ?_
      rw [h0]
      exact hsaved none b
    · obtain ⟨h1', h0, h4⟩ := saveFlags_label b
      refine (memSave_taken (s := taken p s) (a := ⟨i.val, if b then 3 else 2, l⟩) (labelOf_some h1'
        (labelOk_iff.2 ⟨⟨h1, h12⟩, hl⟩)) hslot h4 (by rw [taken_axes]; exact hidle)).trans ?_
      rw [h0]
      exact hsaved (some l) b
    · exact memSave_notHomed hslot (by rw [taken_axes]; exact h)
    · exact memSave_busy hslot (by rw [taken_axes]; exact h) (by rw [taken_axes]; exact hall)
    · refine (if_neg (by omega)).trans ?_
      rw [setSlot_taken]
      rfl
  · intro pair slot
    refine command_eq hc ?_
    have hget : (taken p s).set.slots[i.val]? = some (s.set.slots.get i) := by
      rw [taken_set]
      simp [Vector.get]
    unfold memRead
    rw [hget, taken_set]
    simp only [slot]
    cases s.set.slots.get i <;> rfl
  · refine (dif_pos hslot).trans ?_
    rw [taken_set]
    rfl
  · refine (dif_neg (by decide)).trans ((if_pos rfl).trans ?_)
    rw [taken_set]
    rfl

/-! ## Focus Compensation (07 R131) -/

theorem fcOk_iff (g : FcSettings) : g.ok = true ↔ (-255 ≤ g.k ∧ g.k ≤ 255) ∧ (-400 ≤ g.tRef ∧ g.tRef ≤ 1500)
    ∧ (0 ≤ g.limit ∧ g.limit ≤ 2000) ∧ 1 ≤ g.deadband ∧ g.deadband ≤ 255 := by
  simp only [FcSettings.ok, tempOk, Bool.and_eq_true, within_iff, and_assoc]

theorem fcSet_on {k t l d : Int} (h : (⟨true, k, t, l, d⟩ : FcSettings).ok = true) :
    fcSet ⟨1, k, t, l, d⟩ s = accept { s with set := { s.set with fc := ⟨true, k, t, l, d⟩ } } := by
  simp only [fcSet, fcSettingsOf, h, if_true]

theorem fcSet_off {k t l d : Int} (h : (⟨false, k, t, l, d⟩ : FcSettings).ok = true) :
    fcSet ⟨0, k, t, l, d⟩ s =
      let u := removeWaitingComp { s with set := { s.set with fc := ⟨false, k, t, l, d⟩ } }
      accept (dispatchPass u.mq.requests.length u) := by
  simp only [fcSet, fcSettingsOf, h, if_true]
  rfl

theorem compHeld_eq : compHeld s = match s.mq.requests.find? fun q => decide (q.kind = .comp) with
    | none => 0
    | some q => if q.dispatched then 2 else 1 := rfl

end

/-- Settles O27, by the requests that FLUSH and FC_SET remove and the slots of the table. -/
theorem queueMemoryFocus : Obligations.QueueMemoryFocus := by
  unfold Obligations.QueueMemoryFocus
  intro tested
  refine ⟨fun p s => ⟨fun hc => ?_, fun hc => ?_⟩, memory_clauses, fun p s => ⟨fun k t l d hc => ?_, fun hc => ?_⟩⟩
  · intro gone
    have hgone : gone = flushed p := funext fun q => (flushed_eq q).symm
    refine tested_clauses (s := taken p s) (command_eq hc ?_)
    rw [hgone]
    unfold flushCommand
    rw [taken_mq] <;> rfl
  · intro target record
    refine ⟨command_eq hc ?_, command_eq hc ?_⟩
    · have hrecord : requestBytes = record := funext fun r => by
        simp only [requestBytes, record, target, targetBytes_eq, allAxes, List.flatMap_cons, List.flatMap_nil,
          PerAxis.get, List.append_nil, List.append_assoc]
      simp only [reply, mqStatusData, hrecord, taken_mq, taken_fc]
    · unfold mqOutcomes
      rw [taken_mq]
  · intro hk1 hk2 ht1 ht2 hl1 hl2 hd1 hd2
    have hok (b : Bool) : (⟨b, k, t, l, d⟩ : FcSettings).ok = true :=
      (fcOk_iff _).2 ⟨⟨hk1, hk2⟩, ⟨ht1, ht2⟩, ⟨hl1, hl2⟩, hd1, hd2⟩
    refine ⟨command_eq hc ((fcSet_on (hok true)).trans ?_), ?_⟩
    · rw [taken_set]
      rfl
    · refine tested_clauses (s := { taken p s with set := { s.set with fc := ⟨false, k, t, l, d⟩ } })
        (command_eq hc ((fcSet_off (hok false)).trans ?_))
      unfold removeWaitingComp Request.waitingComp
      simp only [taken_set, taken_mq]
      rfl
  · intro g
    refine command_eq hc ?_
    simp only [reply, fcStatusData, taken_set, taken_fc, compHeld_eq, taken_mq]
    rfl

/-! ## The evaluation (07 R128, R129) -/

section
variable {s : State} {t : Int}

theorem focusKnown_iff : focusKnown s = true ↔ s.axes.focus.state = .idle ∨ s.axes.focus.state = .moving
    ∨ s.axes.focus.state = .jog ∨ s.axes.focus.state = .settling := by
  unfold focusKnown
  cases s.axes.focus.state <;> simp

theorem waitingComp_iff {q : Request} : q.waitingComp = true ↔ q.kind = .comp ∧ q.dispatched = false := by
  simp [Request.waitingComp]

theorem askComp_waiting (h : ∃ q ∈ s.mq.requests, q.kind = .comp ∧ q.dispatched = false) :
    askComp t s = { s with mq := { s.mq with requests := s.mq.requests.map fun q =>
      if q.kind = .comp ∧ q.dispatched = false then { q with compTarget := t } else q } } := by
  obtain ⟨q, hq, hw⟩ := h
  refine (if_pos (List.any_eq_true.2 ⟨q, hq, waitingComp_iff.2 hw⟩)).trans ?_
  simp only [waitingComp_iff]

theorem no_waitingComp (h : ∀ q ∈ s.mq.requests, q.kind = .comp → q.dispatched = true) :
    ¬ s.mq.requests.any Request.waitingComp = true := by
  rw [List.any_eq_true]
  rintro ⟨q, hq, hw⟩
  obtain ⟨hk, hd⟩ := waitingComp_iff.1 hw
  exact absurd (h q hq hk) (by simp [hd])

theorem askComp_running (h : ∃ q ∈ s.mq.requests, q.kind = .comp)
    (hd : ∀ q ∈ s.mq.requests, q.kind = .comp → q.dispatched = true) : askComp t s = s := by
  obtain ⟨q, hq, hk⟩ := h
  exact (if_neg (no_waitingComp hd)).trans (if_pos (List.any_eq_true.2 ⟨q, hq, by simp [hk]⟩))

theorem askComp_none (h : ∀ q ∈ s.mq.requests, q.kind ≠ .comp) : askComp t s =
    if 8 ≤ s.mq.requests.length then s
    else dispatchPass (joinQueue (compRequest t) s).mq.requests.length (joinQueue (compRequest t) s) := by
  have hno : ¬ (s.mq.requests.any fun r => decide (r.kind = .comp)) = true := by
    rw [List.any_eq_true]
    rintro ⟨q, hq, hk⟩
    exact h q hq (by simpa using hk)
  exact (if_neg (no_waitingComp fun q hq hk => absurd hk (h q hq))).trans (if_neg hno)

/-- FOCUS is held or busy: the new COMP request waits. -/
theorem joinComp_waits (hrun : ∀ q ∈ s.mq.requests, q.dispatched = true)
    (hf : s.axes.focus.running ≠ none ∨ s.axes.focus.state.busy = true) :
    dispatchPass (joinQueue (compRequest t) s).mq.requests.length (joinQueue (compRequest t) s) =
      joinQueue (compRequest t) s := by
  refine dispatchPass_held fun i q hi hq hqd => ?_
  have hlast : q = { compRequest t with serial := s.mq.nextSerial } := by
    rcases List.mem_append.1 (List.mem_of_getElem? hq) with h | h
    · exact absurd (hrun q h) (by simp [hqd])
    · exact List.mem_singleton.1 h
  subst hlast
  exact ⟨.focus, rfl, hf.imp_right .inl⟩

/-- FOCUS is free: the new COMP request is dispatched. -/
theorem joinComp_dispatched (hrun : ∀ q ∈ s.mq.requests, q.dispatched = true)
    (hf : s.axes.focus.running = none) (hb : s.axes.focus.state.busy = false) :
    dispatchPass (joinQueue (compRequest t) s).mq.requests.length (joinQueue (compRequest t) s) =
      dispatch { compRequest t with serial := s.mq.nextSerial } (joinQueue (compRequest t) s) := by
  let q : Request := { compRequest t with serial := s.mq.nextSerial }
  let u := joinQueue (compRequest t) s
  have hq : u.mq.requests[s.mq.requests.length]? = some q := by
    show (s.mq.requests ++ [q])[s.mq.requests.length]? = some q
    simp
  have holder (i : Nat) (p : Request) (hi : i < s.mq.requests.length) (hp : u.mq.requests[i]? = some p) :
      p.dispatched = true := by
    have hp' : (s.mq.requests ++ [q])[i]? = some p := hp
    rw [List.getElem?_append_left hi] at hp'
    exact hrun p (List.mem_of_getElem? hp')
  have hback : ¬ heldBack u s.mq.requests.length q := by
    rintro ⟨x, hx, hcause⟩
    have hx' : x = .focus := by cases x <;> first | rfl | cases hx
    subst hx'
    rcases hcause with h | h | ⟨i, p, hi, hp, hpd, _⟩
    · exact h hf
    · exact absurd (hb.symm.trans h) (by decide)
    · exact absurd (holder i p hi hp) (by simp [hpd])
  have hcount : waitingCount u = 1 := by
    have hzero : s.mq.requests.countP (fun p => !p.dispatched) = 0 :=
      List.countP_eq_zero.2 fun p hp => by simp [hrun p hp]
    show (s.mq.requests ++ [q]).countP _ = 1
    rw [List.countP_append, hzero]
    rfl
  have hover := dispatch_only (List.mem_of_getElem? hq) rfl hcount
  exact ((dispatchPass_tested u).of_next hq rfl (fun i p hi hp hpd => absurd (holder i p hi hp) (by simp [hpd]))
    hback).eq_of_held (heldBefore_of_running hover)

/-- A COMP request for a FOCUS that is IDLE and not at its target runs. -/
theorem dispatch_comp (hserial : ∀ q ∈ s.mq.requests, q.serial ≠ s.mq.nextSerial) (hi : s.axes.focus.state = .idle)
    {goal : Int} (hg : goal = clamp 0 s.set.axes.focus.travel (s.axes.focus.position + t - s.fc.applied))
    (hne : goal ≠ s.axes.focus.position) :
    dispatch { compRequest t with serial := s.mq.nextSerial } (joinQueue (compRequest t) s) = { s with
      axes := s.axes.set .focus
        (handTarget s.set.axes.focus goal { s.axes.focus with running := some s.mq.nextSerial }),
      mq := { s.mq with
        requests := s.mq.requests ++ [{ compRequest t with
          serial := s.mq.nextSerial, dispatched := true, focusStart := s.axes.focus.position,
          targets := (PerAxis.const none).set .focus (some goal) }],
        nextSerial := s.mq.nextSerial + 1 } } := by
  let q : Request := { compRequest t with serial := s.mq.nextSerial }
  let u := joinQueue (compRequest t) s
  have htarget : dispatchTarget u q none .focus = goal :=
    ((dispatchTarget_clauses u q none .focus).2.2.1 rfl).trans hg.symm
  have hidle : ∀ x, q.axes.get x = true → (u.axes.get x).state = .idle := by
    intro x hx
    cases x with
    | focus => exact hi
    | shiftH | shiftV | zoom => cases hx
  have hno : ¬ standsThere u q none := fun c => hne (htarget.symm.trans (c .focus rfl))
  have hall : ∀ p ∈ s.mq.requests ++ [], p.serial ≠ q.serial := by simpa using hserial
  have hrun := (dispatch_toward (s := u) (r := q) (l := s.mq.requests) (l' := []) rfl hall (.inr (.inr rfl)) hidle).trans
    (handed_runs hall hno)
  refine hrun.trans ?_
  have haxes : handedAxes u q none = s.axes.set .focus
      (handTarget s.set.axes.focus goal { s.axes.focus with running := some s.mq.nextSerial }) :=
    PerAxis.ext_get fun x => by
      cases x with
      | focus => exact congrArg (fun v => handTarget s.set.axes.focus v
          { s.axes.focus with running := some s.mq.nextSerial }) htarget
      | shiftH | shiftV | zoom => rfl
  have htargets : (q.axes.map fun x b => if b then some (dispatchTarget u q none x) else none) =
      (PerAxis.const none).set .focus (some goal) :=
    PerAxis.ext_get fun x => by
      cases x with
      | focus => exact congrArg some htarget
      | shiftH | shiftV | zoom => rfl
  unfold handed handedRecord
  rw [haxes, htargets]
  rfl

theorem evaluateComp_asks :
    let g := s.set.fc
    let target := compTargetOf g t
    let kept : State := { s with fc := { s.fc with lastTarget := some target } }
    evaluateComp t s =
      if g.enable = true ∧ focusKnown s = true ∧ g.deadband ≤ mag (target - s.fc.applied) then askComp target kept
      else kept := by
  unfold evaluateComp
  simp only [Bool.and_eq_true, decide_eq_true_iff, and_assoc]
  rfl

/-- The clauses on an evaluation. -/
theorem evaluation_clauses (t : Int) (s : State) :
    let g := s.set.fc
    let target := clamp (-g.limit) g.limit (roundDiv (g.k * (t - g.tRef)) 16)
    let kept : State := { s with fc := { s.fc with lastTarget := some target } }
    let homed := s.axes.focus.state = .idle ∨ s.axes.focus.state = .moving ∨ s.axes.focus.state = .jog
      ∨ s.axes.focus.state = .settling
    ((g.enable = false ∨ ¬ homed ∨ mag (target - s.fc.applied) < g.deadband) → evaluateComp t s = kept)
    ∧ (g.enable = true → homed → g.deadband ≤ mag (target - s.fc.applied) →
      ((∃ q ∈ s.mq.requests, q.kind = .comp ∧ q.dispatched = false) →
        evaluateComp t s = { kept with mq := { s.mq with requests := s.mq.requests.map fun q =>
          if q.kind = .comp ∧ q.dispatched = false then { q with compTarget := target } else q } })
      ∧ ((∃ q ∈ s.mq.requests, q.kind = .comp) → (∀ q ∈ s.mq.requests, q.kind = .comp → q.dispatched = true) →
        evaluateComp t s = kept)
      ∧ ((∀ q ∈ s.mq.requests, q.kind ≠ .comp) → 8 ≤ s.mq.requests.length → evaluateComp t s = kept)
      ∧ ((∀ q ∈ s.mq.requests, q.kind ≠ .comp) → s.mq.requests.length < 8 →
        DispatchTested { kept with mq := { s.mq with
          requests := s.mq.requests ++ [{ compRequest target with serial := s.mq.nextSerial }],
          nextSerial := s.mq.nextSerial + 1 } } (evaluateComp t s))
      ∧ ((∀ q ∈ s.mq.requests, q.kind ≠ .comp ∧ q.dispatched = true) → s.mq.requests.length < 8 →
        (s.axes.focus.running ≠ none ∨ s.axes.focus.state ≠ .idle) →
        evaluateComp t s = { kept with mq := { s.mq with
          requests := s.mq.requests ++ [{ compRequest target with serial := s.mq.nextSerial }],
          nextSerial := s.mq.nextSerial + 1 } })
      ∧ ((∀ q ∈ s.mq.requests, q.kind ≠ .comp ∧ q.dispatched = true ∧ q.serial ≠ s.mq.nextSerial) →
        s.mq.requests.length < 8 → s.axes.focus.running = none → s.axes.focus.state = .idle →
        let goal := clamp 0 s.set.axes.focus.travel (s.axes.focus.position + target - s.fc.applied)
        goal ≠ s.axes.focus.position →
        evaluateComp t s = { kept with
          axes := s.axes.set .focus
            (handTarget s.set.axes.focus goal { s.axes.focus with running := some s.mq.nextSerial }),
          mq := { s.mq with
            requests := s.mq.requests ++ [{ compRequest target with
              serial := s.mq.nextSerial, dispatched := true, focusStart := s.axes.focus.position,
              targets := (PerAxis.const none).set .focus (some goal) }],
            nextSerial := s.mq.nextSerial + 1 } })) := by
  intro g target kept homed
  refine ⟨fun h => evaluateComp_asks.trans (if_neg ?_), fun he hh hd => ?_⟩
  · rintro ⟨h1, h2, h3⟩
    rcases h with h | h | h
    · exact absurd (h.symm.trans h1) (by decide)
    · exact h (focusKnown_iff.1 h2)
    · exact absurd h3 (by exact Int.not_le.2 h)
  · have hask : evaluateComp t s = askComp target kept :=
      evaluateComp_asks.trans (if_pos ⟨he, focusKnown_iff.2 hh, hd⟩)
    have hroom (hk : ∀ q ∈ s.mq.requests, q.kind ≠ .comp) (hn : s.mq.requests.length < 8) :
        evaluateComp t s = dispatchPass (joinQueue (compRequest target) kept).mq.requests.length
          (joinQueue (compRequest target) kept) :=
      hask.trans ((askComp_none (s := kept) hk).trans (if_neg (Nat.not_le.2 hn)))
    refine ⟨fun h => hask.trans (askComp_waiting (s := kept) h), fun h hr => hask.trans (askComp_running (s := kept) h hr),
      fun hk hn => hask.trans ((askComp_none (s := kept) hk).trans (if_pos hn)), fun hk hn => ?_, fun hk hn hf => ?_,
      fun hk hn hr hi => ?_⟩
    · rw [hroom hk hn]
      exact dispatchPass_tested _
    · refine (hroom (fun q hq => (hk q hq).1) hn).trans (joinComp_waits (s := kept) (fun q hq => (hk q hq).2) ?_)
      refine hf.imp_right fun hi => ?_
      rcases hh with h | h | h | h
      · exact absurd h hi
      all_goals exact (congrArg AxisState.busy h).trans rfl
    · intro goal hne
      refine (hroom (fun q hq => (hk q hq).1) hn).trans
        ((joinComp_dispatched (s := kept) (fun q hq => (hk q hq).2.1) hr ((congrArg AxisState.busy hi).trans rfl)).trans ?_)
      exact dispatch_comp (s := kept) (fun q hq => (hk q hq).2.2) hi rfl hne

/-- A valid conversion of T_LB evaluates its filtered value (01 R15). -/
theorem conversion_evaluates {rest : List (Fin 10)} {code : Nat} (hr : s.smp.round = 6 :: rest) (h1 : 32 ≤ code)
    (h2 : code ≤ 4063) (hv : (s.smp.records.get 6).validity ≠ .fault) : ∃ l m q,
      exec (.conversionCompletion code) s =
        .next { evaluateComp
            ((meanOf (pushWindow 4 (s.smp.records.get 6).history
              (tableTemp (s.set.tables.get (s.set.tempTable.get 6)) code))).getD 0)
            { s with smp := { s.smp with records := l } } with smp := m, prot := q } := by
  have hq : takeSample (acceptCode s 6 code) code (s.smp.records.get 6) = _ :=
    (takeSample_valid h1 h2).trans (takeValid_sound (by exact hv))
  exact ⟨_, _, _, exec_conversion_temp_accepted hr (by omega) (by decide) hq rfl⟩

end

/-- Settles O28, by what an evaluation asks for and what the dispatch test makes of it. -/
theorem focusEvaluation : Obligations.FocusEvaluation :=
  ⟨fun _ => ⟨rfl, rfl, fun x => by cases x <;> rfl, rfl, rfl, rfl, rfl, rfl, rfl⟩,
    fun _ _ _ hr h1 h2 hv => conversion_evaluates hr h1 h2 hv, evaluation_clauses⟩

end Sys2Proof.Machine
end

section
/-! The Fan Controller (08): the control period, the timers and the tach supervision, and the commands. -/

namespace Sys2Proof.Machine

/-! ## Demand and override (08 R135 to R137) -/

theorem greatest_eq_none {l : List Int} : greatest l = none ↔ l = [] := by cases l <;> simp [greatest]

theorem greatest_eq_some {l : List Int} {m : Int} : greatest l = some m ↔ m ∈ l ∧ ∀ d ∈ l, d ≤ m := by
  induction l generalizing m with
  | nil => simp [greatest]
  | cons d l ih =>
    unfold greatest
    cases h : greatest l with
    | none =>
      obtain rfl := greatest_eq_none.1 h
      simp only [Option.some.injEq, List.mem_singleton, forall_eq]
      exact ⟨fun e => ⟨e.symm, e ▸ Int.le_refl _⟩, fun e => e.1.symm⟩
    | some e =>
      obtain ⟨he, hmax⟩ := ih.1 h
      simp only [Option.some.injEq, List.mem_cons, forall_eq_or_imp]
      constructor
      · rintro rfl
        refine ⟨?_, Int.le_max_left _ _, fun x hx => (hmax x hx).trans (Int.le_max_right _ _)⟩
        rcases Int.le_total d e with hle | hle
        · exact .inr (by rw [Int.max_eq_right hle]; exact he)
        · exact .inl (Int.max_eq_left hle)
      · rintro ⟨hm, hd, hall⟩
        refine Int.le_antisymm (Int.max_le.2 ⟨hd, hall e he⟩) ?_
        rcases hm with rfl | hm
        · exact Int.le_max_left _ _
        · exact (hmax m hm).trans (Int.le_max_right _ _)

section
variable {s : State} {g : FanSettings}

theorem mem_boundChannels {c : Fin 7} : c ∈ boundChannels g ↔ g.bound.get c = true := by
  simp [boundChannels, mem_tempChannels]

theorem contribution_eq_some {curve : List CurvePoint} {c : Fin 7} {d : Int} : contribution s curve c = some d ↔
    (tempRec s c).validity = .fault ∧ d = 1000
      ∨ (tempRec s c).validity = .valid ∧ ∃ t, (tempRec s c).filtered = some t ∧ d = lookup curve (t + offsetOf s c) := by
  unfold contribution
  cases (tempRec s c).validity with
  | new => simp
  | fault => simp [eq_comm]
  | valid => simp [Option.map_eq_some_iff, eq_comm]

/-- The demands that the bound channels give. -/
theorem mem_contributions {d : Int} : d ∈ (boundChannels g).filterMap (contribution s g.curve) ↔
    ∃ c, g.bound.get c = true ∧ contribution s g.curve c = some d := by
  simp only [List.mem_filterMap, mem_boundChannels]

theorem demandOf_none (h : ∀ c d, ¬ (g.bound.get c = true ∧ contribution s g.curve c = some d)) :
    demandOf s g = g.spinFloor := by
  have hnil : (boundChannels g).filterMap (contribution s g.curve) = [] :=
    List.eq_nil_iff_forall_not_mem.2 fun d hd => by
      obtain ⟨c, hc⟩ := mem_contributions.1 hd
      exact h c d hc
  unfold demandOf
  rw [greatest_eq_none.2 hnil]

theorem demandOf_greatest {c : Fin 7} {d : Int} (h : g.bound.get c = true ∧ contribution s g.curve c = some d)
    (hmax : ∀ c' d', g.bound.get c' = true ∧ contribution s g.curve c' = some d' → d' ≤ d) :
    demandOf s g = if 0 < d ∧ d < g.spinFloor then g.spinFloor else d := by
  have hg : greatest ((boundChannels g).filterMap (contribution s g.curve)) = some d :=
    greatest_eq_some.2 ⟨mem_contributions.2 ⟨c, h⟩, fun e he => by
      obtain ⟨c', hc'⟩ := mem_contributions.1 he
      exact hmax c' e hc'⟩
  unfold demandOf
  rw [hg]
  rfl

/-- The clauses on the demand and the override of a fan. -/
theorem demand_clauses (s : State) (g : FanSettings) :
    let gives (c : Fin 7) (d : Int) : Prop := g.bound.get c = true ∧
      ((tempRec s c).validity = .fault ∧ d = 1000
        ∨ (tempRec s c).validity = .valid ∧ ∃ t, (tempRec s c).filtered = some t ∧ d = lookup g.curve (t +
          match s.att.effective with
          | .floor => (s.set.offsets.get c).floor
          | .ceiling => (s.set.offsets.get c).ceiling))
    ((∀ c d, ¬ gives c d) → demandOf s g = g.spinFloor)
    ∧ (∀ c d, gives c d → (∀ c' d', gives c' d' → d' ≤ d) →
      demandOf s g = if 0 < d ∧ d < g.spinFloor then g.spinFloor else d)
    ∧ ((overrideOf s g).trip = true ↔ s.prot.trip ≠ none)
    ∧ ((overrideOf s g).failedFan = true ↔ ∃ f, (s.fan.fans.get f).state = .failed)
    ∧ ((overrideOf s g).faultChannel = true ↔ ∃ c, g.bound.get c = true ∧ (tempRec s c).validity = .fault) := by
  intro gives
  have hgives (c : Fin 7) (d : Int) : (g.bound.get c = true ∧ contribution s g.curve c = some d) ↔ gives c d :=
    and_congr_right fun _ => contribution_eq_some
  refine ⟨fun h => demandOf_none fun c d hc => h c d ((hgives c d).1 hc),
    fun c d h hmax => demandOf_greatest ((hgives c d).2 h) fun c' d' hc' => hmax c' d' ((hgives c' d').1 hc'),
    Option.isSome_iff_ne_none, ?_, ?_⟩
  · simp only [overrideOf, any_allFans, decide_eq_true_iff]
  · show (boundChannels g).any _ = true ↔ _
    simp only [List.any_eq_true, mem_boundChannels, decide_eq_true_iff]

end

/-! ## The control period (08 R133, R138 to R140) -/

section
variable {quiet : Bool} {slew cap : Int} {r : FanRec}

theorem driveFan_off (h : r.state = .off) : driveFan quiet slew cap r = if 0 < r.target then spinUp r else r := by
  simp only [driveFan, h]

theorem driveFan_running (h : r.state = .running) : driveFan quiet slew cap r =
    if r.target = 0 then turnOff r
    else { r with duty := runningDuty quiet r.override.any cap slew r.target r.duty } := by
  cases r
  simp only at h
  subst h
  rfl

theorem driveFan_other (h : r.state = .spinup ∨ r.state = .stalled ∨ r.state = .failed) :
    driveFan quiet slew cap r = r := by
  rcases h with h | h | h <;> simp only [driveFan, h]

end

/-- Settles O30, by the demand, the override and the state of each fan. -/
theorem fanPeriod : Obligations.FanPeriod := by
  refine fun s => ⟨demand_clauses s, fun h => congrArg Host.Outcome.next (if_neg (by simp [h])), fun h =>
    ⟨s.fan.fans.map (controlFan s), congrArg Host.Outcome.next (if_pos h), fun f => ?_⟩⟩
  intro g r q demand ovr forced plain target start duty shown
  have hq : q = driveFan s.set.quiet s.set.slew g.quietCap shown := PerFan.get_map _ _ _
  exact ⟨fun hs ht => hq.trans ((driveFan_off (r := shown) hs).trans (if_pos ht)),
    fun hs ht => hq.trans ((driveFan_off (r := shown) hs).trans (if_neg (Int.not_lt.2 ht))),
    fun hs ht => hq.trans ((driveFan_running (r := shown) hs).trans (if_pos ht)),
    fun hs ht => hq.trans ((driveFan_running (r := shown) hs).trans (if_neg ht)),
    fun hs => hq.trans (driveFan_other (r := shown) hs)⟩

/-! ## Timers and tach supervision (08 R140 to R143) -/

section
variable {s : State} {f : Fan}

theorem spinupExpired_spinup (h : (s.fan.fans.get f).state = .spinup) : spinupExpired f s =
    s.setFan f (if 0 < (s.fan.fans.get f).target then
      enterRunning s.set.quiet (s.set.fans.get f).quietCap (s.fan.fans.get f) else turnOff (s.fan.fans.get f)) := by
  simp only [spinupExpired, h]

theorem spinupExpired_other (h : (s.fan.fans.get f).state ≠ .spinup) : spinupExpired f s = s := by
  unfold spinupExpired
  dsimp only
  cases hs : (s.fan.fans.get f).state with
  | spinup => exact absurd hs h
  | off | running | stalled | failed => rfl

theorem stopExpired_stalled (h : (s.fan.fans.get f).state = .stalled) : stopExpired f s =
    s.setFan f (if 0 < (s.fan.fans.get f).target then
      spinUp { s.fan.fans.get f with restarts := (s.fan.fans.get f).restarts + 1 } else turnOff (s.fan.fans.get f)) := by
  unfold stopExpired
  dsimp only
  rw [h]

theorem stopExpired_other (h : (s.fan.fans.get f).state ≠ .stalled) : stopExpired f s = s := by
  unfold stopExpired
  dsimp only
  cases hs : (s.fan.fans.get f).state with
  | stalled => exact absurd hs h
  | off | running | spinup | failed => rfl

/-- The duty at the end of a spin-up (08 R140). -/
theorem enterRunning_eq (quiet : Bool) (cap : Int) (r : FanRec) : enterRunning quiet cap r = { r with
    state := .running, duty := if quiet = true ∧ r.override.any = false then min r.target cap else r.target,
    lowWindows := 0, edges := 0, windowWait := 4 } := by
  have hif : (if quiet && !r.override.any then min r.target cap else r.target) =
      if quiet = true ∧ r.override.any = false then min r.target cap else r.target :=
    if_congr (by simp) rfl rfl
  unfold enterRunning
  rw [hif]
  rfl

/-- The clauses on the timers of a fan. -/
theorem timer_clauses (s : State) (f : Fan) :
    let r := s.fan.fans.get f
    let capped := if s.set.quiet = true ∧ r.override.any = false then min r.target (s.set.fans.get f).quietCap else r.target
    (r.state = .spinup → 0 < r.target → exec (.spinupTimerExpiry f) s =
      .next (s.setFan f { r with state := .running, duty := capped, lowWindows := 0, edges := 0, windowWait := 4 }))
    ∧ (r.state = .spinup → r.target ≤ 0 → exec (.spinupTimerExpiry f) s =
      .next (s.setFan f { r with state := .off, duty := 0 }))
    ∧ (r.state ≠ .spinup → exec (.spinupTimerExpiry f) s = .next s)
    ∧ (r.state = .stalled → 0 < r.target → exec (.stopTimerExpiry f) s =
      .next (s.setFan f { r with state := .spinup, duty := 1000, restarts := r.restarts + 1 }))
    ∧ (r.state = .stalled → r.target ≤ 0 → exec (.stopTimerExpiry f) s =
      .next (s.setFan f { r with state := .off, duty := 0 }))
    ∧ (r.state ≠ .stalled → exec (.stopTimerExpiry f) s = .next s) := by
  intro r capped
  refine ⟨fun hs ht => congrArg Host.Outcome.next ((spinupExpired_spinup hs).trans (congrArg (s.setFan f) ?_)),
    fun hs ht => congrArg Host.Outcome.next ((spinupExpired_spinup hs).trans (congrArg (s.setFan f) ?_)),
    fun hs => congrArg Host.Outcome.next (spinupExpired_other hs),
    fun hs ht => congrArg Host.Outcome.next ((stopExpired_stalled hs).trans (congrArg (s.setFan f) ?_)),
    fun hs ht => congrArg Host.Outcome.next ((stopExpired_stalled hs).trans (congrArg (s.setFan f) ?_)),
    fun hs => congrArg Host.Outcome.next (stopExpired_other hs)⟩
  · exact (if_pos ht).trans (enterRunning_eq _ _ _)
  · exact if_neg (Int.not_lt.2 ht)
  · exact if_pos ht
  · exact if_neg (Int.not_lt.2 ht)

/-- The filtered level of a tach input takes the raw one. -/
def confirmTach (f : Fan) (s : State) : State :=
  { s with inputs := { s.inputs with tach := s.inputs.tach.set f (s.inputs.tach.get f).confirm } }

theorem tachEdge_taken (hh : s.held = false) (hf : (s.inputs.tach.get f).raw ≠ (s.inputs.tach.get f).level) :
    tachEdge f s = if (s.inputs.tach.get f).raw && !s.deaf then
      (confirmTach f s).setFan f (countEdge (s.fan.fans.get f)) else confirmTach f s :=
  if_neg (by simp [hh, (running_iff _).2 hf])

theorem judgeSpeed_high {stall : Int} {r : FanRec} (h : stall ≤ (r.speed : Int)) :
    judgeSpeed stall r = { r with lowWindows := 0, restarts := 0 } := if_pos h

theorem judgeSpeed_low {stall : Int} {r : FanRec} (h : (r.speed : Int) < stall) :
    judgeSpeed stall r = if 3 ≤ r.lowWindows + 1 then stallFan { r with lowWindows := r.lowWindows + 1 }
      else { r with lowWindows := r.lowWindows + 1 } := if_neg (Int.not_le.2 h)

/-- The record after a window has been measured (08 R141). -/
def windowSeen (r : FanRec) : FanRec := { r with speed := 60 * r.edges, edges := 0 }

theorem measure_eq (r : FanRec) : measure r = windowSeen r := by
  unfold measure windowSeen
  rw [Nat.mul_comm]

theorem judgeWindow_running (h : (s.fan.fans.get f).state = .running) : judgeWindow f s =
    if (judgeSpeed (s.set.fans.get f).stallSpeed (windowSeen (s.fan.fans.get f))).state = .failed then
      raise .both .fanFault (s.setFan f (judgeSpeed (s.set.fans.get f).stallSpeed (windowSeen (s.fan.fans.get f))))
    else s.setFan f (judgeSpeed (s.set.fans.get f).stallSpeed (windowSeen (s.fan.fans.get f))) := by
  have hs : (windowSeen (s.fan.fans.get f)).state = .running := h
  unfold judgeWindow
  rw [measure_eq]
  dsimp only
  rw [hs]

theorem judgeWindow_other (h : (s.fan.fans.get f).state ≠ .running) :
    judgeWindow f s = s.setFan f (windowSeen (s.fan.fans.get f)) := by
  unfold judgeWindow
  rw [measure_eq]
  dsimp only
  cases hs : (windowSeen (s.fan.fans.get f)).state with
  | running => exact absurd hs h
  | off | spinup | stalled | failed => rfl

/-- A window that leaves the fan out of FAILED. -/
theorem judgeWindow_stays {q : FanRec} (h : (s.fan.fans.get f).state = .running)
    (hq : judgeSpeed (s.set.fans.get f).stallSpeed (windowSeen (s.fan.fans.get f)) = q) (hs : q.state ≠ .failed) :
    judgeWindow f s = s.setFan f q := by
  rw [judgeWindow_running h, hq, if_neg hs]

/-- The clauses on the tach supervision. -/
theorem tach_clauses (s : State) (f : Fan) :
    let r := s.fan.fans.get f
    let i := s.inputs.tach.get f
    let level : Inputs := { s.inputs with tach := s.inputs.tach.set f { i with level := i.raw } }
    let seen : FanRec := { r with speed := 60 * r.edges, edges := 0 }
    let stall := (s.set.fans.get f).stallSpeed
    (s.held = false → i.raw = false → i.level = true → exec (.tachEdge f) s = .next { s with inputs := level })
    ∧ (s.deaf = false → i.raw = true → i.level = false → exec (.tachEdge f) s =
      .next { s with
        inputs := level, fan := { s.fan with fans := s.fan.fans.set f { r with edges := min 4095 (r.edges + 1) } } })
    ∧ (s.fan.running = false → exec (.tachWindowEnd f) s = .next s)
    ∧ (s.fan.running = true → 0 < r.windowWait → exec (.tachWindowEnd f) s = .next (s.setFan f { r with windowWait := 0 }))
    ∧ (s.fan.running = true → r.windowWait = 0 →
      (r.state ≠ .running → exec (.tachWindowEnd f) s = .next (s.setFan f seen))
      ∧ (r.state = .running → stall ≤ 60 * (r.edges : Int) →
        exec (.tachWindowEnd f) s = .next (s.setFan f { seen with lowWindows := 0, restarts := 0 }))
      ∧ (r.state = .running → 60 * (r.edges : Int) < stall → r.lowWindows < 2 →
        exec (.tachWindowEnd f) s = .next (s.setFan f { seen with lowWindows := r.lowWindows + 1 }))
      ∧ (r.state = .running → 60 * (r.edges : Int) < stall → r.lowWindows = 2 → r.restarts < 3 →
        exec (.tachWindowEnd f) s = .next (s.setFan f { seen with state := .stalled, duty := 0, lowWindows := 0 }))
      ∧ (r.state = .running → 60 * (r.edges : Int) < stall → r.lowWindows = 2 → r.restarts = 3 →
        exec (.tachWindowEnd f) s = .next { s.setFan f { seen with state := .failed, duty := 0, lowWindows := 3 } with
          port := s.port.raise .both .fanFault })) := by
  intro r i level seen stall
  refine ⟨fun hh hr hl => congrArg Host.Outcome.next ?_, fun hd hr hl => congrArg Host.Outcome.next ?_,
    fun h => congrArg Host.Outcome.next (if_neg (by simp [h])),
    fun h hw => congrArg Host.Outcome.next ((if_pos h).trans (if_pos hw)), fun h hw => ?_⟩
  · have hne : i.raw ≠ i.level := by rw [hr, hl]; decide
    exact (tachEdge_taken hh hne).trans (if_neg (by simp [show (s.inputs.tach.get f).raw = false from hr]))
  · have hne : i.raw ≠ i.level := by rw [hr, hl]; decide
    have hheld : s.held = false := (Bool.or_eq_false_iff.1 hd).1
    exact (tachEdge_taken hheld hne).trans (if_pos (by rw [show (s.inputs.tach.get f).raw = true from hr, hd]; rfl))
  · have hjudged : exec (.tachWindowEnd f) s = .next (judgeWindow f s) :=
      congrArg Host.Outcome.next ((if_pos h).trans (if_neg (by rw [hw]; decide)))
    have hspeed : ((windowSeen r).speed : Int) = 60 * (r.edges : Int) := by simp [windowSeen]
    refine ⟨fun hs => hjudged.trans (congrArg Host.Outcome.next (judgeWindow_other hs)),
      fun hs hv => hjudged.trans (congrArg Host.Outcome.next (judgeWindow_stays hs (judgeSpeed_high (hspeed ▸ hv)) ?_)),
      fun hs hv hl => hjudged.trans (congrArg Host.Outcome.next (judgeWindow_stays hs
        ((judgeSpeed_low (hspeed ▸ hv)).trans (if_neg ?_)) ?_)),
      fun hs hv hl hr => hjudged.trans (congrArg Host.Outcome.next (judgeWindow_stays hs
        ((judgeSpeed_low (hspeed ▸ hv)).trans ((if_pos ?_).trans (if_pos hr))) nofun)),
      fun hs hv hl hr => hjudged.trans (congrArg Host.Outcome.next ?_)⟩
    · exact fun c => absurd (hs.symm.trans c) (by decide)
    · show ¬ 3 ≤ r.lowWindows + 1
      omega
    · exact fun c => absurd (hs.symm.trans c) (by decide)
    · show 3 ≤ r.lowWindows + 1
      omega
    · have hfailed : judgeSpeed stall (windowSeen r) = { seen with state := .failed, duty := 0, lowWindows := 3 } := by
        have h3 : 3 ≤ (windowSeen r).lowWindows + 1 := Nat.succ_le_succ (Nat.le_of_eq hl.symm)
        refine (judgeSpeed_low (hspeed ▸ hv)).trans ((if_pos h3).trans ((if_neg ?_).trans ?_))
        · show ¬ r.restarts < 3
          omega
        · exact congrArg (fun n => { seen with state := .failed, duty := 0, lowWindows := n + 1 }) hl
      rw [judgeWindow_running hs, show judgeSpeed _ (windowSeen (s.fan.fans.get f)) = _ from hfailed, if_pos rfl]
      rfl

/-- Settles O31, by the timers and the judgement of a window. -/
theorem fanTimersAndTach : Obligations.FanTimersAndTach := ⟨timer_clauses, tach_clauses⟩

end

/-! ## The commands (08 R143 to R148) -/

section
variable {s : State} {p : Port} {f : Fan}

theorem dropToCap_eq (quiet : Bool) (cap : Int) (r : FanRec) : dropToCap quiet cap r =
    if r.state = .running ∧ quiet = true ∧ r.override.any = false then { r with duty := min r.duty cap } else r := by
  unfold dropToCap
  cases h : r.state with
  | running =>
    refine if_congr ?_ (by rw [← h]) rfl
    simp
  | off | spinup | stalled | failed => exact (if_neg (by simp)).symm

theorem fanSetQuiet_on : fanSetQuiet 1 (taken p s) = accept { taken p s with
      set := { s.set with quiet := true },
      fan := { s.fan with fans := s.fan.fans.map fun f r =>
        if r.state = .running ∧ r.override.any = false then
          { r with duty := min r.duty (s.set.fans.get f).quietCap }
        else r } } := by
  have hdrop : (fun f r => dropToCap true ((taken p s).set.fans.get f).quietCap r) = fun f r =>
      if r.state = .running ∧ r.override.any = false then
        { r with duty := min r.duty (s.set.fans.get f).quietCap } else r := by
    funext f r
    rw [dropToCap_eq, taken_set]
    exact if_congr (by simp) rfl rfl
  show accept (dropAll _) = _
  unfold dropAll
  dsimp only
  rw [hdrop, taken_fan, taken_set]

theorem bindingOk_of {l : List Nat} (hne : l ≠ []) (hn : l.Nodup) (h6 : ∀ c ∈ l, c ≤ 6) : bindingOk l = true := by
  have hsub : l ⊆ List.range 7 := fun c hc => List.mem_range.2 (Nat.lt_succ_of_le (h6 c hc))
  have hlen : l.length ≤ 7 := by simpa using (List.Nodup.subperm hn hsub).length_le
  have hpos := List.length_pos_of_ne_nil hne
  unfold bindingOk
  simp only [Bool.and_eq_true, decide_eq_true_iff, List.all_eq_true]
  exact ⟨⟨⟨hpos, hlen⟩, hn⟩, fun c hc => Nat.lt_succ_of_le (h6 c hc)⟩

theorem fanParamsOk_iff {a b c : Int} :
    fanParamsOk a b c = true ↔ (150 ≤ a ∧ a ≤ 600) ∧ (b = 0 ∨ a ≤ b ∧ b ≤ 1000) ∧ 60 ≤ c ∧ c ≤ 3000 := by
  simp only [fanParamsOk, Bool.and_eq_true, Bool.or_eq_true, decide_eq_true_iff, within_iff, and_assoc]

/-- The clauses on the settings of one fan. -/
theorem fanSettings_clauses (hc : canUse p .config s) (n : Nat) (hf : fanOf n = some f) :
    let g := s.set.fans.get f
    let r := s.fan.fans.get f
    let put (h : FanSettings) : State := { taken p s with set := { s.set with fans := s.set.fans.set f h } }
    (∀ l : List CurvePoint, curveOk l = true →
      exec (.fanSetCurve p (.form ⟨n, l⟩)) s = .next (replied p 0x82#8 .ok [] s (put { g with curve := l })))
    ∧ (∀ l : List Nat, l ≠ [] → l.Nodup → (∀ c ∈ l, c ≤ 6) →
      exec (.fanSetBinding p (.form ⟨n, l⟩)) s =
        .next (replied p 0x83#8 .ok [] s (put { g with bound := Vector.ofFn fun c : Fin 7 => l.contains c.val })))
    ∧ (∀ a b c : Int, 150 ≤ a → a ≤ 600 → (b = 0 ∨ a ≤ b ∧ b ≤ 1000) → 60 ≤ c → c ≤ 3000 →
      exec (.fanSetParams p (.form ⟨n, a, b, c⟩)) s =
        .next (replied p 0x84#8 .ok [] s
          ((put { g with spinFloor := a, quietCap := b, stallSpeed := c }).setFan f
            (if r.state = .running ∧ s.set.quiet = true ∧ r.override.any = false then { r with duty := min r.duty b }
             else r)))) := by
  intro g r put
  have hput (h : FanSettings) : setFanSettings f h (taken p s) = put h := by
    unfold setFanSettings
    rw [taken_set]
  refine ⟨fun l hl => command_eq hc ?_, fun l hne hn h6 => command_eq hc ?_,
    fun a b c ha1 ha2 hb hc1 hc2 => command_eq hc ?_⟩
  · simp only [fanSetCurve, hf, hl, if_true, hput, taken_set]
    rfl
  · simp only [fanSetBinding, hf, bindingOk_of hne hn h6, if_true, hput, taken_set]
    rfl
  · have hok : fanParamsOk a b c = true := fanParamsOk_iff.2 ⟨⟨ha1, ha2⟩, hb, hc1, hc2⟩
    simp only [fanSetParams, hf, hok, if_true, hput, taken_set, taken_fan, dropToCap_eq]
    rfl

/-- The time left on a phase timer is within its load, and only the counter of free values moves. -/
theorem phaseLeft_cases (r : FanRec) (t : State) : ∃ o n, phaseLeft r t = (o, { t with freeCount := n })
    ∧ (r.state = .spinup → ∃ v, o = some v ∧ v ≤ 1000) ∧ (r.state = .stalled → ∃ v, o = some v ∧ v ≤ 2000)
    ∧ (r.state = .off ∨ r.state = .running ∨ r.state = .failed → o = none) := by
  have hdraw (b : Nat) : (drawFree b t).1 ≤ b := Nat.le_of_lt_succ (Nat.mod_lt _ (Nat.succ_pos b))
  unfold phaseLeft phaseLoad
  cases r.state with
  | spinup => exact ⟨_, _, rfl, fun _ => ⟨_, rfl, hdraw 1000⟩, nofun, by simp⟩
  | stalled => exact ⟨_, _, rfl, nofun, fun _ => ⟨_, rfl, hdraw 2000⟩, by simp⟩
  | off | running | failed => exact ⟨none, t.freeCount, rfl, nofun, nofun, fun _ => rfl⟩

/-- The clause on FAN_STATUS. -/
theorem fanStatus_clause (hc : canUse p .none s) :
    let fan (r : FanRec) (left : Option Nat) : List Byte :=
      let o := r.override
      u8 r.state.code ++ s16 r.duty ++ s16 r.demand ++ s16 r.target ++ s16 r.shortfall
        ++ (flag (o.trip || o.failedFan || o.faultChannel) ++ flag o.trip ++ flag o.failedFan ++ flag o.faultChannel)
        ++ u24 r.speed ++ u8 r.lowWindows ++ u8 r.restarts ++ u16 (left.getD 0) ++ flag left.isNone
    ∃ (a b c : Option Nat) (n : Nat),
      exec (.fanStatus p (.form ())) s = .next (replied p 0x87#8 .ok
        (flag s.set.quiet ++ s16 s.set.slew ++ flag s.fan.afterrunSeen ++ flag s.fan.tripSeen
          ++ fan s.fan.fans.ls a ++ fan s.fan.fans.oe b ++ fan s.fan.fans.ex c) s { taken p s with freeCount := n })
      ∧ ∀ r o, (r, o) ∈ [(s.fan.fans.ls, a), (s.fan.fans.oe, b), (s.fan.fans.ex, c)] →
        (r.state = .spinup → ∃ t, o = some t ∧ t ≤ 1000) ∧ (r.state = .stalled → ∃ t, o = some t ∧ t ≤ 2000)
          ∧ (r.state = .off ∨ r.state = .running ∨ r.state = .failed → o = none) := by
  intro fan
  obtain ⟨a, n, ha, hla⟩ := phaseLeft_cases s.fan.fans.ls (taken p s)
  obtain ⟨b, m, hb, hlb⟩ := phaseLeft_cases s.fan.fans.oe { taken p s with freeCount := n }
  obtain ⟨c, k, hc', hlc⟩ := phaseLeft_cases s.fan.fans.ex { taken p s with freeCount := m }
  refine ⟨a, b, c, k, command_eq hc ?_, fun r o h => ?_⟩
  · unfold fanStatus
    rw [taken_fan, ha]
    dsimp only
    rw [hb]
    dsimp only
    rw [hc']
    unfold reply fanStatusData
    rw [taken_set, taken_fan]
    rfl
  · simp only [List.mem_cons, List.not_mem_nil, or_false, Prod.mk.injEq] at h
    rcases h with ⟨rfl, rfl⟩ | ⟨rfl, rfl⟩ | ⟨rfl, rfl⟩
    · exact hla
    · exact hlb
    · exact hlc

end

/-- Settles O32, by what each command of the Fan Controller sets and sends. -/
theorem fanCommands : Obligations.FanCommands := by
  refine ⟨fun p s hc => ⟨command_eq hc ?_, command_eq hc fanSetQuiet_on, fun m hm => ?_⟩,
    fun p s hc => ⟨fun n f hf => fanSettings_clauses hc n hf, fun c a b h1 h2 h3 h4 => command_eq hc ?_,
      fun v h1 h2 => command_eq hc ?_⟩,
    fun p s hc => ⟨fanStatus_clause hc, fun n f hf => command_eq hc ?_⟩⟩
  · show accept _ = _
    rw [taken_set]
    rfl
  · intro named
    refine command_eq hc ((if_pos (by omega)).trans ?_)
    simp only [taken_fan]
    refine congrArg (fun v => Answer.mk { taken p s with fan := { s.fan with fans := v } } .ok
      (u8 (allFans.filter named).length)) ?_
    rfl
  · have hok : c.val < 7 ∧ (⟨a, b⟩ : OrientOffsets).ok = true :=
      ⟨c.isLt, by simp only [OrientOffsets.ok, Bool.and_eq_true, within_iff]; omega⟩
    refine (if_pos hok).trans ?_
    rw [taken_set, setAt_of_lt]
    rfl
  · refine (if_pos ((within_iff _ _ _).2 ⟨h1, h2⟩)).trans ?_
    rw [taken_set]
    rfl
  · simp only [fanReadSettings, hf, reply, fanSettingsData, taken_set]

end Sys2Proof.Machine
end

section
/-! The Protection Unit (09): the trip test, the period, the fault inputs, and the commands. -/

namespace Sys2Proof.Machine

/-! ## The conditions that latch a trip or hold its clear back (09 R158, R161) -/

/-- A VALID channel whose filtered value has reached a level. -/
def reaches (level : Fin 7 → Int) (s : State) (c : Fin 7) : Bool :=
  match validTemp s c with
  | none => false
  | some t => decide (level c ≤ t)

theorem reaches_iff (level : Fin 7 → Int) (s : State) (c : Fin 7) : reaches level s c = true ↔
    (tempRec s c).validity = .valid ∧ ∃ t, (tempRec s c).filtered = some t ∧ level c ≤ t := by
  unfold reaches validTemp
  by_cases hv : (tempRec s c).validity = .valid
  · rw [if_pos hv]
    cases hf : (tempRec s c).filtered <;> simp [hv]
  · rw [if_neg hv]
    simp [hv]

/-- The condition of the channel found, or the rest of them. -/
def causeOr (found : Option (Fin 7)) (rest : Option TripCause) : Option TripCause :=
  match found with
  | some c => some (.channel c)
  | none => rest

theorem failedCount_eq (s : State) :
    failedCount s = [Fan.ls, .oe, .ex].countP fun f => decide ((s.fan.fans.get f).state = .failed) :=
  List.countP_eq_length_filter.symm

theorem faultCount_eq (s : State) :
    faultCount s = (List.finRange 7).countP fun c => decide ((tempRec s c).validity = .fault) :=
  List.countP_eq_length_filter.symm

theorem tripCondition_eq (s : State) : tripCondition s =
    causeOr (tempChannels.find? (reaches (fun c => (s.set.thresholds.get c).tt) s))
      (if 2 ≤ failedCount s then some .fans else none) := rfl

theorem hotCondition_eq (s : State) : hotCondition s =
    causeOr (tempChannels.find? (reaches (fun c => (s.set.thresholds.get c).tt - 50) s))
      (if s.inputs.tco.level then some .tco
       else if s.inputs.drvflt.level then some .drvflt
       else if 2 ≤ failedCount s then some .fans
       else none) := rfl

section
variable (level : Fin 7 → Int) (s : State) (rest : Option TripCause)

/-- The lowest channel that has reached its level is the condition found. -/
theorem causeOr_lowest {c : Fin 7}
    (hc : (tempRec s c).validity = .valid ∧ ∃ t, (tempRec s c).filtered = some t ∧ level c ≤ t)
    (hlow : ∀ d, d < c → ¬ ((tempRec s d).validity = .valid ∧ ∃ t, (tempRec s d).filtered = some t ∧ level d ≤ t)) :
    causeOr (tempChannels.find? (reaches level s)) rest = some (.channel c) := by
  have hfind : tempChannels.find? (reaches level s) = some c :=
    (find?_eq_some_iff_first (fun a b h h' => absurd (h.trans h') (lt_irrefl a)) tempChannels_ascending).2
      ⟨mem_tempChannels c, (reaches_iff level s c).2 hc,
        fun d _ hd => Bool.eq_false_iff.2 fun h => hlow d hd ((reaches_iff level s d).1 h)⟩
  rw [hfind, causeOr]

theorem causeOr_rest
    (h : ∀ c, ¬ ((tempRec s c).validity = .valid ∧ ∃ t, (tempRec s c).filtered = some t ∧ level c ≤ t)) :
    causeOr (tempChannels.find? (reaches level s)) rest = rest := by
  have hfind : tempChannels.find? (reaches level s) = none :=
    List.find?_eq_none.2 fun c _ hc => h c ((reaches_iff level s c).1 hc)
  rw [hfind, causeOr]

end

/-! ## The allowance and the latch (09 R154, R157, R160) -/

/-- The Port Unit after the allowance went from one value to another. -/
def warnedFrom (old new : Int) (u : PortUnit) : PortUnit :=
  if old = 1000 ∧ new < 1000 then u.raise .both .thermalWarn else u

theorem setAllowance_eq (a : Int) (s : State) : setAllowance a s =
    { s with prot := { s.prot with allowance := a }, port := warnedFrom s.prot.allowance a s.port } := by
  unfold setAllowance warnedFrom
  by_cases h : s.prot.allowance = 1000 ∧ a < 1000
  · rw [if_pos h, if_pos h]
    rfl
  · rw [if_neg h, if_neg h]

/-- The Protection Unit after a latch. -/
def latchedProt (c : TripCause) (afterrun : Int) (q : Protection) : Protection :=
  { q with
    allowance := 0, trip := some c, lsen := false,
    afterrun := if afterrun = 0 then none else some afterrun,
    afterrunWait := (10 * afterrun - 1).toNat }

theorem latchTrip_clear (c : TripCause) {s : State} (h : s.prot.trip = none) : latchTrip c s =
    { s with
      prot := latchedProt c s.set.prot.afterrun s.prot
      port := (warnedFrom s.prot.allowance 0 s.port).raise .both .thermalTrip } := by
  unfold latchTrip
  rw [h]
  dsimp only
  rw [setAllowance_eq]
  simp [judgeLsen, Protection.judgeLsen, raise, latchedProt, afterrunStart, afterrunPeriods]

theorem latchTrip_latched (c : TripCause) {s : State} (h : s.prot.trip ≠ none) : latchTrip c s = s := by
  rcases latchTrip_cases c s with ⟨-, e⟩ | ⟨h', -⟩
  · exact e
  · exact absurd h' h

theorem testTrip_latched {s : State} (h : s.prot.trip ≠ none) : testTrip s = s := by
  unfold testTrip
  cases tripCondition s with
  | none => rfl
  | some c => exact latchTrip_latched c h

theorem moveAllowance_latched {s : State} (h : s.prot.trip ≠ none) : moveAllowance s = s := by
  unfold moveAllowance
  cases ht : s.prot.trip with
  | none => exact absurd ht h
  | some c => rfl

theorem moveAllowance_clear {s : State} (h : s.prot.trip = none) :
    moveAllowance s = setAllowance (nextAllowance s.set.prot.rise s.prot.raw s.prot.allowance) s := by
  unfold moveAllowance
  rw [h]

/-! ## One evaluation (09 R150 to R154) -/

/-- The derate terms, the raw allowance and the counts that an evaluation forms from a state. -/
def formed (s : State) (q : Protection) : Protection :=
  let term := channelTermOf s
  let derate := roundDiv (max (max s.fan.fans.ls.shortfall s.fan.fans.oe.shortfall) s.fan.fans.ex.shortfall * s.set.prot.gain) 16
  let failed : Nat := [Fan.ls, .oe, .ex].countP fun f => decide ((s.fan.fans.get f).state = .failed)
  let faulty : Nat := (List.finRange 7).countP fun c => decide ((tempRec s c).validity = .fault)
  let open1 := 1000 - max ((term.map Prod.fst).getD 0) derate
  let open2 := if 0 < faulty then min open1 700 else open1
  { q with
    raw := clamp s.set.prot.floor 1000 (if 0 < failed then s.set.prot.floor else open2),
    channelTerm := (term.map Prod.fst).getD 0, termChannel := term.map Prod.snd, shortfallDerate := derate,
    failedSeen := failed, faultSeen := faulty }

theorem formRaw_eq (s : State) : formRaw s = { s with prot := formed s s.prot } := by
  unfold formRaw formed rawAllowance shortfallDerateOf fanShortfall
  rw [failedCount_eq, faultCount_eq, max_assoc]

/-- The protection settings, the fans and the TEMP channels are all that the terms are formed from. -/
theorem formRaw_of_latch (s : State) (q : Protection) (u : PortUnit) :
    formRaw { s with prot := q, port := u } = { s with prot := formed s q, port := u } :=
  formRaw_eq _

theorem passPeriod_trip (s : State) : (passPeriod s).prot.trip = s.prot.trip := rfl

theorem evaluate_running {s : State} (h : s.prot.running = true) :
    evaluate s = moveAllowance (formRaw (testTrip (passPeriod s))) := if_pos h

/-- Settles O34, by the trip before and the condition that the trip test finds. -/
theorem protectionPeriod : Obligations.ProtectionPeriod := by
  unfold Obligations.ProtectionPeriod
  intro s term derate failed faulty hot open1 open2 raw terms next warned
  have hcond : tripCondition (passPeriod s) = tripCondition s := rfl
  refine ⟨fun c hc hlow => ?_, fun h => ?_, fun h => ?_, fun h ht => ?_, fun h ht hn => ?_, fun c h ht hsome => ?_⟩
  · exact (tripCondition_eq s).trans (causeOr_lowest _ s _ hc hlow)
  · exact (tripCondition_eq s).trans ((causeOr_rest _ s _ h).trans (by rw [failedCount_eq]))
  · exact congrArg Host.Outcome.next (if_neg (by simp [h]))
  · refine congrArg Host.Outcome.next ((evaluate_running h).trans ?_)
    rw [testTrip_latched (s := passPeriod s) ht, formRaw_eq]
    exact (moveAllowance_latched (by exact ht)).trans rfl
  · have htest : testTrip (passPeriod s) = passPeriod s := by rw [testTrip, hcond, hn]
    refine congrArg Host.Outcome.next ((evaluate_running h).trans ?_)
    rw [htest, formRaw_eq]
    refine (moveAllowance_clear (by exact ht)).trans ((setAllowance_eq _ _).trans ?_)
    rfl
  · have htest : testTrip (passPeriod s) = latchTrip c (passPeriod s) := by rw [testTrip, hcond, hsome]
    refine congrArg Host.Outcome.next ((evaluate_running h).trans ?_)
    rw [htest, latchTrip_clear (s := passPeriod s) c ht]
    refine (congrArg moveAllowance (formRaw_of_latch (passPeriod s) _ _)).trans
      ((moveAllowance_latched (Option.some_ne_none c)).trans ?_)
    rfl

/-! ## Commands -/

theorem requestLight_same {b : Bool} {s : State} (h : b = s.prot.lightRequest) : requestLight b s = s := if_pos h

/-- The state after LIGHT has turned the request. -/
def lightTurned (b : Bool) (s : State) : State :=
  { s with prot := { s.prot with
      lightRequest := b, lsen := b && s.prot.startup && s.prot.trip.isNone,
      afterrun := if b = true ∨ s.set.prot.afterrun = 0 then none else some s.set.prot.afterrun,
      afterrunWait := if b = true then 0 else (10 * s.set.prot.afterrun - 1).toNat } }

theorem requestLight_turns {b : Bool} {s : State} (h : b ≠ s.prot.lightRequest) : requestLight b s = lightTurned b s := by
  unfold requestLight
  rw [if_neg h]
  cases b with
  | true => rfl
  | false =>
    unfold lightTurned
    simp only [Bool.false_eq_true, false_or, if_false]
    rfl

theorem canUse_systemPort {s : State} (hd : s.deaf = false) : canUse .a .systemPort s := ⟨hd, rfl, nofun⟩

theorem light_eq {b : Bool} {s t : State} (hd : s.deaf = false) (h : requestLight b s = t) :
    exec (.light .a (.form (if b then 1 else 0))) s = .next (replied .a 0x94#8 .ok (flag t.prot.lsen) s t) := by
  subst h
  refine command_eq (canUse_systemPort hd) ?_
  cases b <;> rfl

theorem light_off {s : State} (hd : s.deaf = false) (hl : s.prot.lightRequest = true) :
    exec (.light .a (.form 0)) s =
      .next (replied .a 0x94#8 .ok (flag (lightTurned false s).prot.lsen) s (lightTurned false s)) :=
  light_eq (b := false) hd (requestLight_turns (by simp [hl]))

theorem liftToFloor_eq {s : State} (h : s.set.prot.floor ≤ 1000) : liftToFloor s = { s with prot := { s.prot with
    allowance := if s.prot.trip = none ∧ s.prot.allowance < s.set.prot.floor then s.set.prot.floor
      else s.prot.allowance } } := by
  unfold liftToFloor
  simp only [Bool.and_eq_true, Option.isNone_iff_eq_none, decide_eq_true_eq]
  split
  · rename_i hlow
    rw [setAllowance_eq, warnedFrom, if_neg (by omega)]
  · rfl

theorem protSettingsOk_iff (a : ProtArgs) : (protSettingsOf a).ok = true ↔
    (200 ≤ a.floor ∧ a.floor ≤ 800) ∧ (10 ≤ a.rise ∧ a.rise ≤ 1000) ∧ (0 ≤ a.gain ∧ a.gain ≤ 255)
      ∧ 0 ≤ a.afterrun ∧ a.afterrun ≤ 300 := by
  simp only [ProtSettings.ok, protSettingsOf, Bool.and_eq_true, within_iff, and_assoc]

theorem thresholdOk_iff (a b : Int) : (⟨a, b⟩ : Threshold).ok = true ↔
    (-400 ≤ a ∧ a ≤ 1500) ∧ (-400 ≤ b ∧ b ≤ 1500) ∧ 50 ≤ b - a := by
  simp only [Threshold.ok, tempOk, Bool.and_eq_true, within_iff, decide_eq_true_eq, and_assoc]

/-- Settles O36, by what each command of the Protection Unit sets and sends. -/
theorem lightAndProtection : Obligations.LightAndProtection := by
  refine ⟨fun s hd => ⟨fun c hc hlow => ?_, fun h => ?_, fun b hb => ?_, fun b hb => ?_, fun ht => ?_,
    fun ht hh => ?_, fun c ht hh => ?_⟩, fun p s => ⟨fun hc => ⟨?_, ?_⟩, fun hc => ⟨?_, fun ht => ?_, fun t ht => ?_⟩⟩⟩
  · exact (hotCondition_eq s).trans (causeOr_lowest _ s _ hc hlow)
  · exact (hotCondition_eq s).trans ((causeOr_rest _ s _ h).trans (by rw [failedCount_eq]))
  · exact light_eq hd (requestLight_turns hb)
  · exact light_eq hd (requestLight_same hb)
  · refine command_eq (canUse_systemPort hd) ?_
    simp only [taken_a, clearTripCommand, ht]
    rfl
  · obtain ⟨k, hk⟩ := Option.ne_none_iff_exists'.1 ht
    refine command_eq (canUse_systemPort hd) ?_
    simp only [taken_a, clearTripCommand, hk, hh]
    simp [releaseTrip, judgeLsen, Protection.judgeLsen, accept]
  · obtain ⟨k, hk⟩ := Option.ne_none_iff_exists'.1 ht
    refine command_eq (canUse_systemPort hd) ?_
    simp only [taken_a, clearTripCommand, hk, hh]
    cases c <;> rfl
  · intro f r g a hf hf' hr hr' hg hg' ha ha'
    refine command_eq hc ((if_pos ((protSettingsOk_iff _).2 ⟨⟨hf, hf'⟩, ⟨hr, hr'⟩, ⟨hg, hg'⟩, ha, ha'⟩)).trans ?_)
    refine congrArg accept ((liftToFloor_eq (show f ≤ 1000 by omega)).trans ?_)
    rw [taken_set, taken_prot]
    rfl
  · intro c a b ha hb hab
    refine command_eq hc ((if_pos ⟨c.isLt, (thresholdOk_iff a b).2 (by omega)⟩).trans ?_)
    rw [taken_set, setAt_of_lt]
    rfl
  · refine command_eq hc ?_
    simp only [protReadSettings, protSettingsData, taken_set, reply]
  · refine command_eq hc ?_
    unfold protStatus
    rw [taken_prot, ht]
    simp only [protStatusData, taken_prot, taken_inputs, reply, ht]
  · refine ⟨s.freeCount + 1, (drawFree t.toNat (taken p s)).1, Nat.le_of_lt_succ (Nat.mod_lt _ (Nat.succ_pos _)),
      command_eq hc ?_⟩
    unfold protStatus
    rw [taken_prot, ht]
    simp only [drawFree, protStatusData, taken_prot, taken_inputs, reply, ht, taken_freeCount]

/-! ## The fault inputs and the afterrun timer (09 R159, R165) -/

/-- What the filter of TCO does with a confirmed activation. -/
theorem tcoActivated_eq {s : State} (hh : s.held = false) (hr : s.inputs.tco.raw = true)
    (hl : s.inputs.tco.level = false) :
    let t := { s with inputs := { s.inputs with tco := { s.inputs.tco with level := true } } }
    tcoActivated s = if s.deaf then t else latchTrip .tco t := by
  unfold tcoActivated
  rw [if_neg (by simp [hh, (running_iff s.inputs.tco).2 (by simp [hr, hl]), hr])]
  simp only [Filtered.confirm, hr]

theorem drvfltActivated_eq {s : State} (hh : s.held = false) (hr : s.inputs.drvflt.raw = true)
    (hl : s.inputs.drvflt.level = false) :
    let t := { s with inputs := { s.inputs with drvflt := { s.inputs.drvflt with level := true } } }
    drvfltActivated s = if s.deaf then t else latchTrip .drvflt t := by
  unfold drvfltActivated
  rw [if_neg (by simp [hh, (running_iff s.inputs.drvflt).2 (by simp [hr, hl]), hr])]
  simp only [Filtered.confirm, hr]

theorem tcoDeasserted_eq {s : State} (hh : s.held = false) (hr : s.inputs.tco.raw = false)
    (hl : s.inputs.tco.level = true) :
    tcoDeasserted s = { s with inputs := { s.inputs with tco := { s.inputs.tco with level := false } } } := by
  unfold tcoDeasserted
  rw [if_neg (by simp [hh, (running_iff s.inputs.tco).2 (by simp [hr, hl]), hr])]
  simp only [Filtered.confirm, hr]

theorem drvfltDeasserted_eq {s : State} (hh : s.held = false) (hr : s.inputs.drvflt.raw = false)
    (hl : s.inputs.drvflt.level = true) :
    drvfltDeasserted s = { s with inputs := { s.inputs with drvflt := { s.inputs.drvflt with level := false } } } := by
  unfold drvfltDeasserted
  rw [if_neg (by simp [hh, (running_iff s.inputs.drvflt).2 (by simp [hr, hl]), hr])]
  simp only [Filtered.confirm, hr]

/-- A confirmed activation of a fault input latches a CLEAR trip outside the load, and nothing more otherwise. -/
theorem latchUnlessDeaf {s : State} (hh : s.held = false) (c : TripCause) (i : Inputs) :
    let t := { s with inputs := i }
    (s.store.state ≠ .loading → s.prot.trip = none → (if s.deaf then t else latchTrip c t) =
      { t with
        prot := latchedProt c s.set.prot.afterrun s.prot
        port := (if s.prot.allowance = 1000 then s.port.raise .both .thermalWarn else s.port).raise .both .thermalTrip })
    ∧ ((s.store.state = .loading ∨ s.prot.trip ≠ none) → (if s.deaf then t else latchTrip c t) = t) := by
  refine ⟨fun hs ht => ?_, fun h => ?_⟩
  · refine (if_neg (by simp [not_deaf_of_not_loading hh hs])).trans ((latchTrip_clear c (by exact ht)).trans ?_)
    simp [warnedFrom]
  · rcases h with h | h
    · rw [if_pos (deaf_of_loading h)]
    · exact (congrArg (ite _ _) (latchTrip_latched c (by exact h))).trans (ite_self _)

theorem afterrunExpired_waiting {s : State} (h : 0 < s.prot.afterrunWait) : afterrunExpired s = s := if_pos h

theorem afterrunExpired_due {s : State} (h : s.prot.afterrunWait = 0) :
    afterrunExpired s = { s with prot := { s.prot with afterrun := none } } := if_neg (by omega)

theorem replied_a_prot (id : Byte) (k : Status) (d : List Byte) (s t : State) : (replied .a id k d s t).prot = t.prot := rfl

/-- LIGHT OFF starts the timer with its full time, whether an expiry that came with it is taken before or after. -/
theorem lightOff_and_expiry {s : State} (hd : s.deaf = false) (hl : s.prot.lightRequest = true)
    (ha : 1 ≤ s.set.prot.afterrun) {t u v : State} (ht : exec (.light .a (.form 0)) s = .next t)
    (hu : exec .afterrunTimerExpiry t = .next u) (hv : exec .afterrunTimerExpiry s = .next v) :
    u.prot.afterrun = some s.set.prot.afterrun
      ∧ ∃ w, exec (.light .a (.form 0)) v = .next w ∧ w.prot.afterrun = some s.set.prot.afterrun := by
  have hstart (q : State) (hq : q.set = s.set) : (lightTurned false q).prot.afterrun = some s.set.prot.afterrun := by
    simp only [lightTurned, hq, Bool.false_eq_true, false_or]
    exact if_neg (by omega)
  have hkept : v.deaf = false ∧ v.prot.lightRequest = true ∧ v.set = s.set := by
    obtain rfl : afterrunExpired s = v := Host.Outcome.next.inj hv
    rcases afterrunExpired_cases s with ⟨-, e⟩ | ⟨-, e⟩ <;> rw [e]
    · exact ⟨hd, hl, rfl⟩
    · exact ⟨hd, hl, rfl⟩
  obtain ⟨hdv, hlv, hsv⟩ := hkept
  refine ⟨?_, _, light_off hdv hlv, (congrArg Protection.afterrun (replied_a_prot ..)).trans (hstart v hsv)⟩
  have ht' : t.prot = (lightTurned false s).prot := by
    rw [← Host.Outcome.next.inj ((light_off hd hl).symm.trans ht)]
    rfl
  have hwait : 0 < t.prot.afterrunWait := by
    rw [ht']
    show 0 < (10 * s.set.prot.afterrun - 1).toNat
    omega
  obtain rfl : t = u := (afterrunExpired_waiting hwait).symm.trans (Host.Outcome.next.inj hu)
  rw [ht']
  exact hstart s rfl

/-- Settles O35, by the filter of each input and the latch. -/
theorem faultInputs : Obligations.FaultInputs := by
  unfold Obligations.FaultInputs
  intro s hh latched tco drvflt
  refine ⟨fun hr hl => ?_, fun hr hl => ?_, fun hr hl => congrArg Host.Outcome.next (tcoDeasserted_eq hh hr hl),
    fun hr hl => congrArg Host.Outcome.next (drvfltDeasserted_eq hh hr hl),
    fun h => congrArg Host.Outcome.next (afterrunExpired_due h),
    fun h => congrArg Host.Outcome.next (afterrunExpired_waiting h),
    fun hd hl ha t u v => lightOff_and_expiry hd hl ha⟩
  · obtain ⟨hlatch, hkeep⟩ := latchUnlessDeaf hh .tco (tco true)
    have hact := tcoActivated_eq hh hr hl
    exact ⟨fun hs ht => congrArg Host.Outcome.next (hact.trans (hlatch hs ht)),
      fun h => congrArg Host.Outcome.next (hact.trans (hkeep h))⟩
  · obtain ⟨hlatch, hkeep⟩ := latchUnlessDeaf hh .drvflt (drvflt true)
    have hact := drvfltActivated_eq hh hr hl
    exact ⟨fun hs ht => congrArg Host.Outcome.next (hact.trans (hlatch hs ht)),
      fun h => congrArg Host.Outcome.next (hact.trans (hkeep h))⟩

end Sys2Proof.Machine
end

section
/-! What no unit sees of a command (10 R170 to R174), and who acts on the light request and on the latch (09 R161,
R162). -/

namespace Sys2Proof.Machine

/-! ## A command before its unit -/

/-- RESET is answered like every other command unless Port A sends it to a part that takes it. -/
theorem reset_eq_command {p : Port} {v : Params Unit} {s : State} (h : p = .b ∨ isForm v = false ∨ s.deaf = true) :
    exec (.reset p v) s =
      command p 0xB3#8 .systemPort (if isForm v then .form () else .misfit) (fun _ s => accept s) s := by
  cases p with
  | b => cases v <;> rfl
  | a =>
    cases v with
    | misfit => rfl
    | form a =>
      have hd : s.deaf = true := by simpa [isForm] using h
      exact (congrArg Host.Outcome.next (if_pos hd)).trans (command_deaf _ _ _ _ _ s hd).symm

/-- A control-port command is its unit's answer behind the checks of the Port Unit; RESET from Port A alone is more. -/
theorem exec_eq_command {i : Instr} {c : Control} (hc : controlOf i = some c) {s : State}
    (h : c.port = .b ∨ c.fits = false ∨ s.deaf = true) :
    ∃ unit, exec i s = command c.port c.id c.need (if c.fits then .form () else .misfit) unit s := by
  by_cases hr : ∃ p v, i = .reset p v
  · obtain ⟨p, v, rfl⟩ := hr
    cases hc
    exact ⟨_, reset_eq_command h⟩
  · exact ⟨_, exec_eq_answerTo hc (fun p v e => hr ⟨p, v, e⟩) s⟩

/-- Settles O38: a right that Port B does not hold is looked at before the unit. -/
theorem denied : Obligations.Denied := by
  refine ⟨fun r => ⟨fun _ => rfl, rfl, rfl, rfl, rfl, rfl, rfl, rfl⟩, fun i c s hc hp hf hd hq hr => ?_⟩
  obtain ⟨unit, e⟩ := exec_eq_command hc (s := s) (.inl hp)
  rw [e, hp, hf]
  exact command_denied _ _ _ _ s hd hr hq

/-- Settles O39, by the checks of the Port Unit. -/
theorem untaken : Obligations.Untaken := by
  refine ⟨fun s => ⟨?_, rfl, rfl, rfl⟩, fun i c s hc => ⟨fun hd => ?_, fun hd hf hq => ?_, fun hd hp hq => ?_⟩⟩
  · simp [State.deaf, State.held, or_assoc]
  · obtain ⟨unit, e⟩ := exec_eq_command hc (s := s) (.inr (.inr hd))
    rw [e]
    exact command_deaf _ _ _ _ _ s hd
  · obtain ⟨unit, e⟩ := exec_eq_command hc (s := s) (.inr (.inl hf))
    rw [e, hf]
    exact command_misfit _ _ _ _ s hd hq
  · obtain ⟨unit, e⟩ := exec_eq_command hc (s := s) (.inl hp)
    rw [e, hp]
    exact command_full _ _ _ _ s hd hq

/-! ## Who acts on the light request and on the latch -/

/-- The light request is that of a Protection Unit before, and a trip that it had latched is latched still. -/
def LightHeld (q : Protection) (s : State) : Prop :=
  s.prot.lightRequest = q.lightRequest ∧ (q.trip ≠ none → s.prot.trip = q.trip)

theorem LightHeld.refl (s : State) : LightHeld s.prot s := ⟨rfl, fun _ => rfl⟩

variable {q : Protection} {s : State}

theorem lightHeld_looksAt (q : Protection) : LooksAt [.prot] (LightHeld q) := fun s t h hs => by
  have e : t.prot = s.prot := h .prot (by simp)
  unfold LightHeld
  rw [e]
  exact hs

theorem LightHeld.of_frame {l : List Part} {s t : State} (h : LightHeld q s) (hf : Frame l s t) (hl : .prot ∉ l) :
    LightHeld q t := (lightHeld_looksAt q).of_frame hf (by simp [Meets, hl]) h

theorem latchTrip_lightHeld (c : TripCause) (h : LightHeld q s) : LightHeld q (latchTrip c s) := by
  rcases latchTrip_cases c s with ⟨-, e⟩ | ⟨ht, u, e⟩ <;> rw [e]
  · exact h
  · exact ⟨h.1, fun hq => absurd ((h.2 hq).symm.trans ht) hq⟩

theorem setAllowance_lightHeld (a : Int) (h : LightHeld q s) : LightHeld q (setAllowance a s) := by
  rw [setAllowance_eq]
  exact h

theorem judgeStartup_lightHeld (h : LightHeld q s) : LightHeld q (judgeStartup s) := by
  unfold judgeStartup
  split
  · exact h
  · split <;> exact h

theorem evaluate_lightHeld (h : LightHeld q s) : LightHeld q (evaluate s) := by
  have htest : LightHeld q (testTrip (passPeriod s)) := by
    unfold testTrip
    split
    · exact h
    · exact latchTrip_lightHeld _ (s := passPeriod s) h
  unfold evaluate
  split
  · unfold moveAllowance
    split
    · exact htest
    · exact setAllowance_lightHeld _ (s := formRaw (testTrip (passPeriod s))) htest
  · exact h

theorem conversionCompleted_lightHeld (code : Nat) (h : LightHeld q s) : LightHeld q (conversionCompleted code s) :=
  conversionCompleted_keeps code (fun _ _ _ ht => ht)
    (fun t k r ht => ht.of_frame (handOn_frame t k r) (by simp [motionParts, composeParts]))
    (fun _ => judgeStartup_lightHeld) (fun t rest ht => ht.of_frame (endConversion_frame t rest) (by simp)) h

theorem startUp_lightHeld (h : LightHeld q s) : LightHeld q (startUp s) := by
  have hloaded : LightHeld q (loaded s) := (h.of_frame (takeSettings_frame s) (by simp)).of_frame (loaded_frame s) (by simp)
  have hstarted : LightHeld q (startProtection (startFans (loaded s))) :=
    LightHeld.of_frame (t := startFans (loaded s)) hloaded (startFans_frame _) (by simp)
  have hcomposed := hstarted.of_frame (firstComposition_frame _) (by simp [composeParts])
  have hmdflt := hcomposed.of_frame (examineMdflt_frame _) (by simp [motionParts, composeParts])
  have hif (b : Bool) (c : TripCause) {v : State} (hv : LightHeld q v) : LightHeld q (if b then latchTrip c v else v) := by
    split
    · exact latchTrip_lightHeld c hv
    · exact hv
  rw [startUp_eq]
  exact LightHeld.of_frame (hif _ _ (hif _ _ hmdflt)) (startRequests_frame _) (by simp [motionParts, composeParts])

/-- The resets, LIGHT and CLEAR_TRIP, as arrivals that Port A or no port sends. -/
def lightOwner : Instr → Bool
  | .powerOnReset | .powerLoss | .rstnLow | .rstnRise | .reset .a _ | .light .a _ | .clearTrip .a _ => true
  | _ => false

theorem arrivalOf_lightHeld {i : Instr} (h : LightHeld q s) (hown : lightOwner i = false)
    (hr : ∀ p v, i ≠ .reset p v) : LightHeld q (arrivalOf i s) := by
  by_cases hreach : Part.prot ∈ arrivalReach i
  · cases i <;> (try simp [arrivalReach, motionParts, composeParts, completionParts] at hreach) <;>
      (try (cases hown; done))
    case conversionCompletion code => exact conversionCompleted_lightHeld code h
    case protectionPeriodExpiry => exact evaluate_lightHeld h
    case tcoActivation =>
      change LightHeld q (tcoActivated s)
      rcases tcoActivated_cases s with ⟨v, e⟩ | ⟨-, v, e⟩ <;> rw [e]
      · exact h
      · exact latchTrip_lightHeld _ (s := { s with inputs := v }) h
    case drvfltActivation =>
      change LightHeld q (drvfltActivated s)
      rcases drvfltActivated_cases s with ⟨v, e⟩ | ⟨-, v, e⟩ <;> rw [e]
      · exact h
      · exact latchTrip_lightHeld _ (s := { s with inputs := v }) h
    case afterrunTimerExpiry =>
      change LightHeld q (afterrunExpired s)
      rcases afterrunExpired_cases s with ⟨-, e⟩ | ⟨-, e⟩ <;> rw [e] <;> exact h
    case reset p v => exact absurd rfl (hr p v)
    case loadCompletion =>
      change LightHeld q (loadCompleted s)
      rcases loadCompleted_cases s with e | ⟨-, e⟩ <;> rw [e]
      · exact h
      · exact startUp_lightHeld h
  · exact h.of_frame (arrivalOf_frame i s) hreach

theorem answerOf_lightHeld {i : Instr} (h : LightHeld q s) (hl : ∀ p v, i ≠ .light p v)
    (hc : ∀ p v, i ≠ .clearTrip p v) : LightHeld q (answerOf i s).st := by
  by_cases hreach : Part.prot ∈ reach i
  · cases i <;> (try simp [reach, motionParts, composeParts] at hreach)
    case light p v => exact absurd rfl (hl p v)
    case clearTrip p v => exact absurd rfl (hc p v)
    case protSetParams p v =>
      cases v with
      | misfit => exact h
      | form a =>
        change LightHeld q (protSetParams a s).st
        unfold protSetParams
        split
        · unfold accept liftToFloor
          dsimp only
          split
          · exact setAllowance_lightHeld _ (s := { s with set := { s.set with prot := _ } }) h
          · exact h
        · exact h
  · exact h.of_frame (answerOf_frame i s) hreach

/-- A command that no unit takes leaves the Protection Unit alone. -/
theorem command_systemPort_b {α : Type} {id : Byte} {v : Params α} {unit : α → State → Answer} {t : State}
    (h : command .b id .systemPort v unit s = .next t) : t.prot = s.prot := by
  rcases command_cases _ _ _ _ _ _ _ h with ⟨a, -, ⟨-, hr, -⟩, -⟩ | ⟨u, rfl⟩
  · cases hr
  · rfl

theorem answerTo_lightHeld (p : Port) (id : Byte) (unit : State → Answer)
    (hunit : ∀ s, LightHeld q s → LightHeld q (unit s).st) (h : LightHeld q s) : LightHeld q (answerTo p id unit s) := by
  unfold answerTo
  split
  · exact h
  · cases p with
    | a => exact hunit s h
    | b =>
      dsimp only
      split
      · exact LightHeld.of_frame (hunit (countFrame s) h) (frame_port _ _) (by simp)
      · exact h

theorem checked_lightHeld {α : Type} (p : Port) (need : Need) (v : Params α) (unit : α → State → Answer)
    (hunit : ∀ a, LightHeld q (unit a s).st) (h : LightHeld q s) : LightHeld q (checked p need v unit s).st := by
  unfold checked
  split
  · exact h
  · split
    · exact hunit _
    · exact h

/-- No other arrival acts on the light request or ends a latched trip, but a byte of Port B has the command it
completes. -/
theorem exec_lightHeld {i : Instr} {t : State} (hown : lightOwner i = false) (hb : ∀ b k, i ≠ .uartByteReceived b k)
    (h : exec i s = .next t) : LightHeld s.prot t := by
  have hsame (e : t.prot = s.prot) : LightHeld s.prot t := ⟨by rw [e], fun _ => by rw [e]⟩
  cases hc : controlOf i with
  | none =>
    rw [exec_eq_arrival (.inl hc) hb] at h
    cases h
    exact arrivalOf_lightHeld (.refl s) hown (fun p v e => by subst e; cases hc)
  | some c =>
    by_cases hsys : c.need = .systemPort ∧ c.port = .b
    · obtain ⟨unit, e⟩ := exec_eq_command hc (s := s) (.inl hsys.2)
      rw [e, hsys.1, hsys.2] at h
      exact hsame (command_systemPort_b h)
    · have hnot : (∀ p v, i ≠ .light p v) ∧ (∀ p v, i ≠ .clearTrip p v) ∧ ∀ p v, i ≠ .reset p v := by
        refine ⟨fun p v e => ?_, fun p v e => ?_, fun p v e => ?_⟩ <;>
        · subst e
          cases hc
          cases p with
          | a => cases hown
          | b => exact hsys ⟨rfl, rfl⟩
      rw [exec_eq_answerTo hc hnot.2.2] at h
      cases h
      exact answerTo_lightHeld _ _ _ (fun u hu => checked_lightHeld _ _ _ _
        (fun _ => answerOf_lightHeld hu hnot.1 hnot.2.1) hu) (.refl s)

/-- The command that a frame carries is Port B's. -/
theorem lightOwner_payloadCommand (got : List Byte) : lightOwner (payloadCommand got) = false := by
  cases got with
  | nil => rfl
  | cons id l =>
    show lightOwner (commandOf .b id l) = false
    unfold commandOf
    split <;> rfl

theorem badFrame_frame (s : State) : Frame [.port] s (badFrame s) := by
  unfold badFrame
  dsimp only
  split
  · exact frame_port _ _
  · exact frame_port _ _

theorem takeByte_lightHeld {b : Byte} {t : State} (h : takeByte b s = .next t) : LightHeld s.prot t := by
  have hport (u : State) (hf : Frame [.port] s u) : LightHeld s.prot u := (LightHeld.refl s).of_frame hf (by simp)
  unfold takeByte at h
  split at h
  · cases h
    split
    · exact hport _ (frame_port _ _)
    · exact .refl s
  · cases h
    split
    · exact hport _ (frame_port _ _)
    · exact hport _ (badFrame_frame s)
  · cases h
    unfold keepByte
    split <;> exact hport _ (frame_port _ _)
  · unfold checkFrame at h
    split at h
    · rename_i len got _ _
      rcases frameCommand_cases (payloadCommand got) s with e | ⟨e, hi⟩
      · rw [e] at h
        cases h
        exact .refl s
      · rw [e] at h
        refine exec_lightHeld (lightOwner_payloadCommand got) (fun b k hb => ?_) h
        rw [hb] at hi
        rcases hi with hi | ⟨_, _, hi⟩
        · exact hi rfl
        · cases hi
    · cases h
      exact hport _ (badFrame_frame s)

theorem byteReceived_lightHeld {b : Byte} {k : Bool} {t : State} (h : byteReceived b k s = .next t) :
    LightHeld s.prot t := by
  unfold byteReceived at h
  split at h
  · cases h
    exact .refl s
  · split at h
    · exact takeByte_lightHeld h
    · cases h
      exact (LightHeld.refl s).of_frame (frame_port _ _) (by simp)

/-- Settles O37: outside the resets, LIGHT turns the request alone, CLEAR_TRIP releases the trip alone, and nothing else
does either. -/
theorem lightAndTripOwners : Obligations.LightAndTripOwners := by
  intro i s t h reset
  have hheld (k : LightHeld s.prot t) : (t.prot.lightRequest ≠ s.prot.lightRequest → reset ∨ ∃ v, i = .light .a v)
      ∧ (s.prot.trip ≠ none → t.prot.trip ≠ s.prot.trip → reset ∨ ∃ v, i = .clearTrip .a v) :=
    ⟨fun hne => absurd k.1 hne, fun hs hne => absurd (k.2 hs) hne⟩
  cases hown : lightOwner i with
  | false =>
    by_cases hb : ∃ b k, i = .uartByteReceived b k
    · obtain ⟨b, k, rfl⟩ := hb
      exact hheld (byteReceived_lightHeld h)
    · exact hheld (exec_lightHeld hown (fun b k e => hb ⟨b, k, e⟩) h)
  | true =>
    cases i <;> (try (cases hown; done))
    case powerOnReset => exact ⟨fun _ => .inl (.inl rfl), fun _ _ => .inl (.inl rfl)⟩
    case powerLoss => exact ⟨fun _ => .inl (.inr (.inl rfl)), fun _ _ => .inl (.inr (.inl rfl))⟩
    case rstnLow => exact ⟨fun _ => .inl (.inr (.inr (.inl rfl))), fun _ _ => .inl (.inr (.inr (.inl rfl)))⟩
    case rstnRise =>
      exact ⟨fun _ => .inl (.inr (.inr (.inr (.inl rfl)))), fun _ _ => .inl (.inr (.inr (.inr (.inl rfl))))⟩
    case reset p v =>
      cases p with
      | b => cases hown
      | a =>
        cases v with
        | form a => exact ⟨fun _ => .inl (.inr (.inr (.inr (.inr rfl)))), fun _ _ => .inl (.inr (.inr (.inr (.inr rfl))))⟩
        | misfit =>
          obtain ⟨unit, e⟩ := exec_eq_command (c := ⟨.a, 0xB3#8, .systemPort, false⟩) (i := .reset .a .misfit) rfl (s := s)
            (.inr (.inl rfl))
          rcases command_cases _ _ _ _ _ _ _ (e.symm.trans h) with ⟨a, ha, -⟩ | ⟨u, rfl⟩
          · cases ha
          · exact hheld (.refl s)
    case light p v =>
      cases p with
      | b => cases hown
      | a =>
        refine ⟨fun _ => .inr ⟨v, rfl⟩, fun hs hne => absurd ?_ hne⟩
        rcases command_cases _ _ _ _ _ _ _ h with ⟨a, -, -, rfl⟩ | ⟨u, rfl⟩
        · have hreq (on : Bool) : (requestLight on s).prot.trip = s.prot.trip := by
            unfold requestLight
            split <;> rfl
          show (lightCommand a s).st.prot.trip = _
          unfold lightCommand
          split
          · exact hreq false
          · exact hreq true
          · rfl
        · rfl
    case clearTrip p v =>
      cases p with
      | b => cases hown
      | a =>
        refine ⟨fun hne => absurd ?_ hne, fun _ _ => .inr ⟨v, rfl⟩⟩
        rcases command_cases _ _ _ _ _ _ _ h with ⟨a, -, -, rfl⟩ | ⟨u, rfl⟩
        · show (clearTripCommand a s).st.prot.lightRequest = _
          unfold clearTripCommand
          split
          · rfl
          · split <;> rfl
        · rfl

end Sys2Proof.Machine
end

section
/-! The Port Unit (10, sections 10.2, 10.5 and 10.6): the transmitter, the events with ATTN_A and the notice, identity
and rights. -/

namespace Sys2Proof.Machine

/-! ## The transmitter (10 R172, R178) -/

theorem unmasked_eq (e : EventSet) (m : List EventKind) : unmasked e m = e.kinds.filter fun k => decide (k ∉ m) :=
  List.filter_congr fun k _ => by simp

/-- The kinds of Port B that are not masked, as a notice carries them. -/
theorem noticePayload_eq (u : PortUnit) :
    let kinds := u.events.b.kinds.filter fun k => decide (k ∉ u.masks.b)
    u.noticePayload = [0x02#8, BitVec.ofNat 8 kinds.length] ++ kinds.map (fun k => BitVec.ofNat 8 k.code)
      ++ if EventKind.reset ∈ kinds then u8 ((u.events.b.cause.map ResetCause.code).getD 0) else [] := by
  unfold PortUnit.noticePayload PortUnit.unmaskedB
  rw [unmasked_eq]
  simp [u8, List.map_eq_flatMap]

theorem unknownTaken_eq {p : Port} {id : Byte} {s : State} (hc : canUse p .none s) (hid : knownId id = false) :
    unknownTaken p id s = replied p id .unknown [] s (taken p s) := by
  have hchecked : checked p .none (.form ()) (fun _ s => refuse s .unknown) = fun s => refuse s .unknown := by
    funext u
    cases p <;> rfl
  have hserved := command_eq (id := id) (unit := fun (_ : Unit) s => refuse s .unknown) (a := ()) hc rfl
  rw [← Host.Outcome.next.inj hserved, hchecked]
  exact if_neg (by simp [hid])

/-- Settles O42, by the head of the transmit queue. -/
theorem transmitter : Obligations.Transmitter := by
  unfold Obligations.Transmitter
  intro s u sent kinds notice
  have hsent {f : TxFrame} {rest : List TxFrame} (h : u.tx = f :: rest) :
      exec .txFrameSent s = .next (sent rest (f.payloadSent u)) := by
    show Host.Outcome.next { s with port := s.port.sendHead } = _
    rw [sendHead_cons h]
    rfl
  refine ⟨fun h => ?_, fun c h hc => ?_, fun h => ?_, fun pay b rest h => hsent h, fun pay rest h => hsent h,
    fun rest h => hsent h, rfl, fun hd => congrArg Host.Outcome.next (if_neg (by simp [hd])),
    fun p id hc hid => congrArg Host.Outcome.next (unknownTaken_eq hc hid)⟩
  · rw [noticePayload_eq, if_neg h]
  · rw [noticePayload_eq, if_pos h, hc]
    cases c <;> rfl
  · refine congrArg (fun v : PortUnit => Host.Outcome.next { s with port := v }) (?_ : u.sendHead = u)
    simp [PortUnit.sendHead, PortUnit.beginHead, h]

/-! ## Events, ATTN_A and the notice (10 R175 to R178) -/

theorem unmasked_eq_nil (e : EventSet) (m : List EventKind) : unmasked e m = [] ↔ ∀ k ∈ e.kinds, k ∈ m := by
  simp [unmasked_eq, List.filter_eq_nil_iff]

theorem unmasked_isEmpty (e : EventSet) (m : List EventKind) :
    (!(unmasked e m).isEmpty) = e.kinds.any fun k => decide (k ∉ m) := by
  rw [Bool.eq_iff_iff]
  simp [unmasked_eq_nil]

theorem filter_quiet {u : PortUnit} (h : waitingNotices u = 0) : (u.tx.filter fun f => !f.waitingNotice) = u.tx :=
  List.filter_eq_self.2 fun f hf => by
    have := List.filter_eq_nil_iff.1 (List.eq_nil_of_length_eq_zero h) f hf
    simpa using this

/-- Under the law a Port B set that was empty has no notice, waiting or owed. -/
theorem quiet_of_unmaskedB {u : PortUnit} (h : PortLaw u) (hu : u.unmaskedB = []) :
    waitingNotices u = 0 ∧ u.owed = false := by
  obtain ⟨-, -, -, -, -, -, hquiet⟩ := h
  exact hquiet (by simp [hu])

/-- A Port Unit with the level of ATTN_A, the transmit queue and the owed notice that a judgement gives it. -/
def PortUnit.shows (v : PortUnit) (attn : Bool) (tx : List TxFrame) (owed : Bool) : PortUnit :=
  { v with attnA := attn, tx := tx, owed := owed }

/-- ATTN_A and the notice after a change of events or masks (10 R177, R178). -/
theorem judged_eq {u v : PortUnit} (h : PortLaw u) (htx : v.tx = u.tx) (howed : v.owed = u.owed) :
    v.judgeAttn.judgeNotice u.unmaskedB.isEmpty = v.shows (v.events.a.kinds.any fun k => decide (k ∉ v.masks.a))
      (if v.unmaskedB = [] then u.tx.filter fun f => !f.waitingNotice
        else if u.unmaskedB = [] ∧ u.tx.length < 4 then u.tx ++ [.notice none] else u.tx)
      (if v.unmaskedB = [] then false else u.owed || decide (u.unmaskedB = [] ∧ u.tx.length = 4)) := by
  have hattn : v.judgeAttn = { v with attnA := v.events.a.kinds.any fun k => decide (k ∉ v.masks.a) } := by
    rw [← unmasked_isEmpty]
    rfl
  have hopen : v.judgeAttn.unmaskedB = v.unmaskedB := rfl
  have hroom : u.tx.length ≤ 4 := by
    obtain ⟨-, -, -, hroom, -⟩ := h
    exact hroom
  unfold PortUnit.judgeNotice PortUnit.shows
  rw [hopen]
  by_cases hv : v.unmaskedB = []
  · rw [if_pos (by simp [hv]), if_pos hv, if_pos hv, ← htx, hattn]
    rfl
  · rw [if_neg (by simpa using hv), if_neg hv, if_neg hv]
    by_cases hu : u.unmaskedB = []
    · obtain ⟨hwait, hclear⟩ := quiet_of_unmaskedB h hu
      have hnone : v.tx.any TxFrame.waitingNotice = false := by
        rw [htx]
        exact List.any_eq_false.2 (List.filter_eq_nil_iff.1 (List.eq_nil_of_length_eq_zero hwait))
      have hquiet : (v.judgeAttn.owed || v.judgeAttn.tx.any TxFrame.waitingNotice) = false :=
        show (v.owed || v.tx.any TxFrame.waitingNotice) = false by rw [howed, hclear, hnone]; rfl
      rw [if_pos (by simp [hu])]
      unfold PortUnit.oweNotice
      rw [if_neg (by simp [hquiet]), hattn]
      by_cases hl : u.tx.length < 4
      · simp [hu, hl, htx, howed, hclear, Nat.ne_of_lt hl]
      · simp [hu, htx, hclear, Nat.le_antisymm hroom (Nat.le_of_not_lt hl)]
    · simp [hu, hattn, ← htx, ← howed]

/-- A kind joins the event sets of its ports. -/
theorem addEvent_eq (d : Dest) (k : EventKind) (u : PortUnit) :
    let joined (p : Port) (l : List EventKind) : List EventKind :=
      if (d = .both ∨ d = .port p) ∧ k ∉ l then l ++ [k] else l
    addEvent d k u = { u with events :=
      ⟨⟨joined .a u.events.a.kinds, u.events.a.cause⟩, ⟨joined .b u.events.b.kinds, u.events.b.cause⟩⟩ } := by
  intro joined
  have hadd (e : EventSet) (p : Port) (hp : d = .both ∨ d = .port p) : e.add k = ⟨joined p e.kinds, e.cause⟩ := by
    unfold EventSet.add joined
    by_cases hk : k ∈ e.kinds <;> simp [hk, hp]
  have hskip (e : EventSet) (p : Port) (hp : ¬ (d = .both ∨ d = .port p)) : e = ⟨joined p e.kinds, e.cause⟩ := by
    unfold joined
    rw [if_neg fun h => hp h.1]
  cases d with
  | both => simp [addEvent, ← hadd]
  | port q =>
    cases q with
    | a => simp [addEvent, ← hadd _ .a, ← hskip _ .b]
    | b => simp [addEvent, ← hadd _ .b, ← hskip _ .a]

/-- A kind raised to Port B joins at the end of its set, so that a set with an unmasked kind keeps one. -/
theorem raise_eq_joined (u : PortUnit) (d : Dest) (k : EventKind) (hu : PortLaw u) :
    let joined (p : Port) (l : List EventKind) : List EventKind :=
      if (d = .both ∨ d = .port p) ∧ k ∉ l then l ++ [k] else l
    let a := joined .a u.events.a.kinds
    let b := joined .b u.events.b.kinds
    let falls : Prop := (∀ q ∈ u.events.b.kinds, q ∈ u.masks.b) ∧ ∃ q ∈ b, q ∉ u.masks.b
    u.raise d k = { u with
      events := ⟨⟨a, u.events.a.cause⟩, ⟨b, u.events.b.cause⟩⟩, attnA := a.any fun q => decide (q ∉ u.masks.a),
      tx := if falls ∧ u.tx.length < 4 then u.tx ++ [.notice none] else u.tx,
      owed := u.owed || decide (falls ∧ u.tx.length = 4) } := by
  intro joined a b falls
  have hgrows : ∀ q ∈ u.events.b.kinds, q ∈ b := fun q hq => by
    show q ∈ joined .b u.events.b.kinds
    unfold joined
    split
    · exact List.mem_append_left _ hq
    · exact hq
  have hold : u.unmaskedB = [] ↔ ∀ q ∈ u.events.b.kinds, q ∈ u.masks.b := unmasked_eq_nil _ _
  have hnew : unmasked ⟨b, u.events.b.cause⟩ u.masks.b = [] ↔ ∀ q ∈ b, q ∈ u.masks.b := unmasked_eq_nil _ _
  unfold PortUnit.raise PortUnit.changeEvents
  rw [addEvent_eq]
  refine (judged_eq hu (by rfl) (by rfl)).trans ?_
  by_cases hb : ∀ q ∈ b, q ∈ u.masks.b
  · have hu' : u.unmaskedB = [] := hold.2 fun q hq => hb q (hgrows q hq)
    obtain ⟨hwait, hclear⟩ := quiet_of_unmaskedB hu hu'
    have hfalls : ¬ falls := fun ⟨_, q, hq, hne⟩ => hne (hb q hq)
    have hn : PortUnit.unmaskedB { u with events := ⟨⟨a, u.events.a.cause⟩, ⟨b, u.events.b.cause⟩⟩ } = [] := hnew.2 hb
    rw [if_pos hn, if_pos hn, if_neg fun h => hfalls h.1, decide_eq_false fun h => hfalls h.1, filter_quiet hwait, hclear]
    rfl
  · have hn : ¬ PortUnit.unmaskedB { u with events := ⟨⟨a, u.events.a.cause⟩, ⟨b, u.events.b.cause⟩⟩ } = [] :=
      fun h => hb (hnew.1 h)
    have hfalls : falls ↔ u.unmaskedB = [] :=
      ⟨fun h => hold.2 h.1, fun h => ⟨hold.1 h, by simpa using hb⟩⟩
    rw [if_neg hn, if_neg hn]
    simp only [hfalls]
    rfl

/-! ## The commands of the Port Unit (10 R174, R176, R179, R180) -/

theorem eventBytes_eq (e : EventSet) : eventBytes e = u8 e.kinds.length ++ (e.kinds.flatMap fun k => u8 k.code)
    ++ (if EventKind.reset ∈ e.kinds then u8 ((e.cause.map ResetCause.code).getD 0) else []) := by
  simp [eventBytes]

theorem any_eventsNamed (l : List EventKind) (m : Nat) :
    (l.any fun k => decide (k ∉ eventsNamed m)) = l.any fun k => !m.testBit (k.code - 1) := by
  simp [mem_eventsNamed]

/-- Masks that leave Port B's set as it was leave the transmit queue as it was. -/
theorem kept_queue {u : PortUnit} (h : PortLaw u) :
    (if u.unmaskedB = [] then u.tx.filter fun f => !f.waitingNotice
        else if u.unmaskedB = [] ∧ u.tx.length < 4 then u.tx ++ [.notice none] else u.tx) = u.tx
      ∧ (if u.unmaskedB = [] then false else u.owed || decide (u.unmaskedB = [] ∧ u.tx.length = 4)) = u.owed := by
  by_cases hu : u.unmaskedB = []
  · obtain ⟨hwait, hclear⟩ := quiet_of_unmaskedB h hu
    rw [if_pos hu, if_pos hu, filter_quiet hwait, hclear]
    exact ⟨rfl, rfl⟩
  · simp [hu]

theorem attnA_of_law {u : PortUnit} (h : PortLaw u) : u.attnA = u.events.a.kinds.any fun k => decide (k ∉ u.masks.a) := by
  obtain ⟨-, -, hattn, -⟩ := h
  rw [hattn, unmasked_isEmpty]

section
variable {s : State} (hu : PortLaw s.port)
include hu

theorem readEvents_a (hc : canUse .a .none s) :
    exec (.readEvents .a (.form ())) s = .next (replied .a 0xA0#8 .ok (readEventsData .a s) s { s with
      port := { s.port with events := { s.port.events with a := ⟨[], none⟩ }, attnA := false } }) := by
  refine command_eq hc (congrArg (fun v => Answer.mk { s with port := v } .ok (readEventsData .a s)) ?_)
  obtain ⟨htx, howed⟩ := kept_queue hu
  refine (judged_eq (v := { s.port with events := s.port.events.set .a ⟨[], none⟩ }) hu rfl rfl).trans ?_
  exact congr (congrArg (PortUnit.shows _ false) htx) howed

theorem setEventMask_a (hc : canUse .a .none s) {m : Nat} (hm : m < 16384) :
    exec (.setEventMask .a (.form m)) s = .next (replied .a 0xA1#8 .ok [] s { s with
      port := { s.port with
        masks := { s.port.masks with a := eventsNamed m },
        attnA := s.port.events.a.kinds.any fun k => !m.testBit (k.code - 1) } }) := by
  refine command_eq hc ((if_pos hm).trans
    (congrArg (fun v => Answer.mk { s with port := v } .ok []) ?_))
  obtain ⟨htx, howed⟩ := kept_queue hu
  refine (judged_eq (v := { s.port with masks := s.port.masks.set .a (eventsNamed m) }) hu rfl rfl).trans ?_
  exact congr (congr (congrArg (PortUnit.shows _) (any_eventsNamed _ m)) htx) howed

theorem readEvents_b (hc : canUse .b .none s) :
    exec (.readEvents .b (.form ())) s = .next (replied .b 0xA0#8 .ok (readEventsData .b s) s { s with
      port := { (taken .b s).port with
        events := { s.port.events with b := ⟨[], none⟩ },
        tx := s.port.tx.filter fun f => !f.waitingNotice, owed := false } }) := by
  have hv : PortLaw (countFrame s).port := countFrame_portLaw hu
  refine command_eq hc (congrArg (fun v => Answer.mk { s with port := v } .ok (readEventsData .b s)) ?_)
  refine (judged_eq (v := { (countFrame s).port with events := s.port.events.set .b ⟨[], none⟩ }) hv rfl rfl).trans ?_
  exact congrArg (fun z => PortUnit.shows _ z (s.port.tx.filter fun f => !f.waitingNotice) false) (attnA_of_law hv).symm

theorem setEventMask_b (hc : canUse .b .none s) {m : Nat} (hm : m < 16384) :
    exec (.setEventMask .b (.form m)) s = .next (replied .b 0xA1#8 .ok [] s { s with
      port := { (taken .b s).port with
        masks := { s.port.masks with b := eventsNamed m },
        tx := if s.port.events.b.kinds.any fun k => !m.testBit (k.code - 1) then
            (if s.port.unmaskedB = [] then s.port.tx ++ [.notice none] else s.port.tx)
          else s.port.tx.filter fun f => !f.waitingNotice,
        owed := false } }) := by
  have hv : PortLaw (countFrame s).port := countFrame_portLaw hu
  have hlen : s.port.tx.length < 4 := hc.2.2 rfl
  have hclear : s.port.owed = false := by
    obtain ⟨-, -, -, -, howed, -⟩ := hu
    exact Bool.eq_false_iff.2 fun h => absurd (howed h) (Nat.ne_of_lt hlen)
  let v : PortUnit := { (countFrame s).port with masks := s.port.masks.set .b (eventsNamed m) }
  have hopen : v.unmaskedB = [] ↔ (s.port.events.b.kinds.any fun k => !m.testBit (k.code - 1)) = false := by
    rw [← any_eventsNamed, ← unmasked_isEmpty]
    simp [v, PortUnit.unmaskedB]
    rfl
  refine command_eq hc ((if_pos hm).trans
    (congrArg (fun v => Answer.mk { s with port := v } .ok []) ?_))
  refine (judged_eq (v := v) hv rfl rfl).trans ?_
  have htx : (if v.unmaskedB = [] then (countFrame s).port.tx.filter fun f => !f.waitingNotice
      else if (countFrame s).port.unmaskedB = [] ∧ (countFrame s).port.tx.length < 4 then
        (countFrame s).port.tx ++ [.notice none] else (countFrame s).port.tx) =
      if s.port.events.b.kinds.any fun k => !m.testBit (k.code - 1) then
          (if s.port.unmaskedB = [] then s.port.tx ++ [.notice none] else s.port.tx)
        else s.port.tx.filter fun f => !f.waitingNotice := by
    have hroomy : (countFrame s).port.tx.length < 4 := hlen
    cases hany : s.port.events.b.kinds.any fun k => !m.testBit (k.code - 1) with
    | false =>
      rw [if_pos (hopen.2 hany)]
      rfl
    | true =>
      rw [if_neg fun h => by simp [hopen.1 h] at hany]
      simp only [hroomy, and_true, if_true]
      rfl
  have howed : (if v.unmaskedB = [] then false
      else (countFrame s).port.owed || decide ((countFrame s).port.unmaskedB = [] ∧ (countFrame s).port.tx.length = 4)) =
      false := by
    have hlen' : (countFrame s).port.tx.length ≠ 4 := Nat.ne_of_lt hlen
    have hclear' : (countFrame s).port.owed = false := hclear
    simp [hlen', hclear']
  exact congr (congr (congrArg v.shows (attnA_of_law hv).symm) htx) howed

end

theorem identity_eq {p : Port} {s : State} (hc : canUse p .none s) : exec (.ident p (.form ())) s =
    .next (replied p 0xA2#8 .ok [0x45#8, 0x47#8, 0x0D#8, 0x07#8, 0x03#8] s (taken p s)) := command_eq hc rfl

/-- Settles O44, by the events that a command leaves unmasked. -/
theorem eventsAndIdentity : Obligations.EventsAndIdentity := by
  refine ⟨raise_eq_joined, fun s hu => ⟨fun hc => ⟨?_, fun m hm => setEventMask_a hu hc hm⟩,
    fun hc => ⟨?_, fun m hm => setEventMask_b hu hc hm⟩⟩, fun p s hc => ⟨identity_eq hc, ?_, fun hp m hm => ?_⟩⟩
  · refine (readEvents_a hu hc).trans ?_
    rw [readEventsData, eventBytes_eq]
    rfl
  · refine (readEvents_b hu hc).trans ?_
    rw [readEventsData, eventBytes_eq]
    rfl
  · refine command_eq hc ?_
    unfold portStatus portStatusData
    rw [taken_set]
    cases p <;> rfl
  · subst hp
    exact command_eq (canUse_systemPort hc.1) (if_pos (Nat.lt_succ_of_le hm))

end Sys2Proof.Machine
end

section
/-! The readers of the operand forms (12 R190): how many bytes a form takes, and what the bytes carry. -/

namespace Sys2Proof.Machine

/-! ## The values of bytes -/

/-- Two bytes, most significant first, in two's complement. -/
theorem toInt_two (a b : Byte) : (a ++ b : BitVec 16).toInt = signed 16 (256 * a.toNat + b.toNat) := by
  have h : (a ++ b : BitVec 16).toNat = 256 * a.toNat + b.toNat := by
    rw [BitVec.toNat_append, ← Nat.shiftLeft_add_eq_or_of_lt b.isLt, Nat.shiftLeft_eq]
    omega
  rw [BitVec.toInt_eq_toNat_cond, h, signed]
  exact if_congr (by omega) rfl rfl

theorem toNat_three (a b c : Byte) :
    (a ++ b ++ c : BitVec 24).toNat = 256 * (256 * a.toNat + b.toNat) + c.toNat := by
  rw [BitVec.toNat_append, ← Nat.shiftLeft_add_eq_or_of_lt c.isLt, Nat.shiftLeft_eq, BitVec.toNat_append,
    ← Nat.shiftLeft_add_eq_or_of_lt b.isLt, Nat.shiftLeft_eq]
  omega

theorem toInt_three (a b c : Byte) :
    (a ++ b ++ c : BitVec 24).toInt = signed 24 (256 * (256 * a.toNat + b.toNat) + c.toNat) := by
  rw [BitVec.toInt_eq_toNat_cond, toNat_three, signed]
  exact if_congr (by omega) rfl rfl

/-! ## How many bytes a reader takes -/

section
variable {α β : Type} {r : Reader α} {f : α → Reader β} {l : List Byte}

/-- A reader takes n bytes whenever there are as many, and fits none otherwise. -/
def Takes (r : Reader α) (n : Nat) : Prop :=
  ∀ l, (l.length < n → r l = none) ∧ (n ≤ l.length → ∃ a, r l = some (a, l.drop n))

theorem takes_pure (a : α) : Takes (Reader.pure a) 0 := fun _ => ⟨nofun, fun _ => ⟨a, rfl⟩⟩

theorem takes_byte {g : Byte → α} (h0 : r [] = none) (h : ∀ b l, r (b :: l) = some (g b, l)) : Takes r 1 := fun l =>
  match l with
  | [] => ⟨fun _ => h0, nofun⟩
  | b :: l => ⟨fun hl => absurd hl (by simp), fun _ => ⟨g b, h b l⟩⟩

theorem takes_rU8 : Takes rU8 1 := takes_byte rfl fun _ _ => rfl

theorem takes_rByte : Takes rByte 1 := takes_byte rfl fun _ _ => rfl

theorem Takes.bind {n m : Nat} (h : Takes r n) (hf : ∀ a, Takes (f a) m) : Takes (r.bind f) (n + m) := fun l => by
  obtain ⟨hshort, hlong⟩ := h l
  rcases Nat.lt_or_ge l.length n with hl | hl
  · exact ⟨fun _ => bind_none (hshort hl), fun h => by omega⟩
  · obtain ⟨a, ha⟩ := hlong hl
    obtain ⟨hfshort, hflong⟩ := hf a (l.drop n)
    rw [bind_cons ha]
    refine ⟨fun hm => hfshort ?_, fun hm => ?_⟩
    · rw [List.length_drop]
      omega
    · rw [← List.drop_drop]
      exact hflong (by rw [List.length_drop]; omega)

theorem takes_rMany {n : Nat} (h : Takes r n) : ∀ k, Takes (rMany r k) (k * n)
  | 0 => by simpa [rMany] using takes_pure []
  | k + 1 => by
    have := h.bind fun a => (takes_rMany h k).bind fun l => takes_pure (a :: l)
    rwa [Nat.add_zero, Nat.add_comm, ← Nat.succ_mul] at this

theorem Takes.misfit {n : Nat} (h : Takes r n) (hl : l.length ≠ n) : formOf r l = .misfit := by
  obtain ⟨hshort, hlong⟩ := h l
  unfold formOf
  rcases Nat.lt_or_ge l.length n with hlt | hge
  · rw [hshort hlt]
  · obtain ⟨a, ha⟩ := hlong hge
    obtain ⟨b, t, ht⟩ := List.exists_cons_of_length_pos (l := l.drop n) (by rw [List.length_drop]; omega)
    rw [ha, ht]

theorem formOf_some {a : α} (h : r l = some (a, [])) : formOf r l = .form a := by
  unfold formOf
  rw [h]

theorem formOf_none (h : r l = none) : formOf r l = .misfit := by
  unfold formOf
  rw [h]

theorem formOf_congr {r' : Reader α} {l' : List Byte} (h : r l = r' l') : formOf r l = formOf r' l' := by
  unfold formOf
  rw [h]

/-- What a run of values carries, each spelled by its bytes. -/
theorem rMany_flatMap {bytes : β → List Byte} {val : β → α} (h : ∀ b l, r (bytes b ++ l) = some (val b, l)) :
    ∀ (q : List β) (l : List Byte), rMany r q.length (q.flatMap bytes ++ l) = some (q.map val, l)
  | [], _ => rfl
  | b :: q, l => by
    have hq := rMany_flatMap h q l
    rw [List.length_cons, rMany, List.flatMap_cons, List.append_assoc, bind_cons (h b _), bind_cons hq]
    rfl

theorem rMany_form {bytes : β → List Byte} {val : β → α} (h : ∀ b l, r (bytes b ++ l) = some (val b, l)) {k : Nat}
    {q : List β} (hq : q.length = k) : rMany r k (q.flatMap bytes) = some (q.map val, []) := by
  rw [← hq, ← List.append_nil (q.flatMap bytes)]
  exact rMany_flatMap h q []

/-- A run of single bytes. -/
theorem rMany_bytes {val : Byte → α} (h : ∀ b l, r (b :: l) = some (val b, l)) {k : Nat} (hl : l.length = k) :
    rMany r k l = some (l.map val, []) := by
  have := rMany_form (bytes := fun b => [b]) h hl
  rwa [List.flatMap_singleton'] at this

end

theorem takes_rU16 : Takes rU16 2 := takes_rU8.bind fun _ => takes_rU8.bind fun _ => takes_pure _

theorem takes_rU24 : Takes rU24 3 := takes_rU16.bind fun _ => takes_rU8.bind fun _ => takes_pure _

theorem takes_rS16 : Takes rS16 2 := takes_rU16.bind fun _ => takes_pure _

theorem takes_rS24 : Takes rS24 3 := takes_rU24.bind fun _ => takes_pure _

theorem takes_rI8 : Takes rI8 1 := takes_rU8.bind fun _ => takes_pure _

theorem takes_rI16 : Takes rI16 2 := takes_rU16.bind fun _ => takes_pure _

theorem takes_rPt : Takes rPt 4 := takes_rS16.bind fun _ => takes_rS16.bind fun _ => takes_pure _

theorem takes_rNothing : Takes rNothing 0 := takes_pure ()

theorem takes_rTrigger : Takes rTrigger 6 :=
  takes_rU8.bind fun _ => takes_rU8.bind fun _ => takes_rU16.bind fun _ => takes_rU16.bind fun _ => takes_pure _

theorem takes_rTable : Takes rTable 35 :=
  takes_rU8.bind fun _ => (takes_rMany takes_rS16 17).bind fun _ => takes_pure _

theorem takes_rAtt : Takes rAtt 8 :=
  takes_rI16.bind fun _ => takes_rS16.bind fun _ => takes_rI16.bind fun _ => takes_rI16.bind fun _ => takes_pure _

theorem takes_rCorner : Takes rCorner 5 := takes_rU8.bind fun _ => takes_rPt.bind fun _ => takes_pure _

theorem takes_rCorners : Takes rCorners 16 :=
  takes_rPt.bind fun _ => takes_rPt.bind fun _ => takes_rPt.bind fun _ => takes_rPt.bind fun _ => takes_pure _

theorem takes_rPanel : Takes rPanel 4 := takes_rI16.bind fun _ => takes_rI16.bind fun _ => takes_pure _

theorem takes_rJog : Takes rJog 3 :=
  takes_rU8.bind fun _ => takes_rU8.bind fun _ => takes_rU8.bind fun _ => takes_pure _

theorem takes_rAxisParams : Takes rAxisParams 19 :=
  takes_rU8.bind fun _ => takes_rU16.bind fun _ => takes_rU16.bind fun _ => takes_rU16.bind fun _ =>
    takes_rU24.bind fun _ => takes_rU16.bind fun _ => takes_rU8.bind fun _ => takes_rU8.bind fun _ =>
      takes_rU16.bind fun _ => takes_rU8.bind fun _ => takes_rU16.bind fun _ => takes_pure _

theorem takes_rTagged : Takes rTagged 2 := takes_rU8.bind fun _ => takes_rU8.bind fun _ => takes_pure _

theorem takes_rFc : Takes rFc 8 :=
  takes_rU8.bind fun _ => takes_rS16.bind fun _ => takes_rS16.bind fun _ => takes_rI16.bind fun _ =>
    takes_rI8.bind fun _ => takes_pure _

theorem takes_rFanParams : Takes rFanParams 7 :=
  takes_rU8.bind fun _ => takes_rI16.bind fun _ => takes_rI16.bind fun _ => takes_rI16.bind fun _ => takes_pure _

theorem takes_rOffsets : Takes rOffsets 5 :=
  takes_rU8.bind fun _ => takes_rS16.bind fun _ => takes_rS16.bind fun _ => takes_pure _

theorem takes_rProt : Takes rProt 7 :=
  takes_rI16.bind fun _ => takes_rI16.bind fun _ => takes_rI8.bind fun _ => takes_rI16.bind fun _ => takes_pure _

theorem takes_rThreshold : Takes rThreshold 5 :=
  takes_rU8.bind fun _ => takes_rS16.bind fun _ => takes_rS16.bind fun _ => takes_pure _

/-- A point of a fan curve takes four bytes. -/
theorem takes_curvePoint :
    Takes (rS16.bind fun t => rI16.bind fun d => Reader.pure (⟨t, d⟩ : CurvePoint)) 4 :=
  takes_rS16.bind fun _ => takes_rI16.bind fun _ => takes_pure _

/-! ## Forms with a count of their own -/

/-- A form that begins with a byte, or with two, is misfitted by a run that does not reach them. -/
theorem bind_nil {β : Type} {f : Nat → Reader β} : (rU8.bind f) [] = none := rfl

theorem bind_byte {β : Type} {f : Nat → Reader β} (b : Byte) (l : List Byte) : (rU8.bind f) (b :: l) = f b.toNat l := rfl

theorem two_bytes_misfit {β : Type} {f : Nat → Nat → Reader β} {l : List Byte} (h : l.length < 2) :
    formOf (rU8.bind fun a => rU8.bind fun b => f a b) l = .misfit :=
  match l, h with
  | [], _ => rfl
  | [_], _ => rfl

/-- After its count a run of single bytes must have just as many. -/
theorem counted_bytes {α β : Type} {r : Reader α} {val : Byte → α} (h0 : r [] = none)
    (h : ∀ b l, r (b :: l) = some (val b, l)) (g : List α → β) (n : Nat) (l : List Byte) :
    formOf ((rMany r n).bind fun v => Reader.pure (g v)) l =
      if l.length = n then .form (g (l.map val)) else .misfit := by
  by_cases hl : l.length = n
  · rw [if_pos hl]
    exact formOf_some (bind_cons (rMany_bytes h hl))
  · rw [if_neg hl]
    exact ((takes_rMany (takes_byte h0 h) n).bind fun v => takes_pure (g v)).misfit (by omega)

end Sys2Proof.Machine
end

section
/-! The command that bytes spell, and the receiver of Port B (10 R170 to R173; 12 R190). -/

namespace Sys2Proof.Machine

section
variable (p : Port)

/-! ## Commands of one form -/

/-- A command whose form takes a fixed number of bytes. -/
theorem spelled_misfit {α : Type} {r : Reader α} {n : Nat} (h : Takes r n) {id : Byte} {c : Params α → Instr}
    (hid : ∀ l, commandOf p id l = c (formOf r l)) (l : List Byte) (hl : l.length ≠ n) : commandOf p id l = c .misfit := by
  rw [hid, h.misfit hl]

theorem spelled_nothing : ∀ c ∈ [(0x16#8, Instr.smpStatus), (0x20#8, .captureLevel), (0x23#8, .attStatus),
      (0x33#8, .geoZeroCorners), (0x38#8, .geoClearClip), (0x39#8, .geoStatus), (0x43#8, .fwZeroAll), (0x47#8, .meshStatus),
      (0x55#8, .axisStatus), (0x64#8, .flush), (0x65#8, .mqStatus), (0x66#8, .mqOutcomes), (0x79#8, .fcStatus),
      (0x87#8, .fanStatus), (0x92#8, .protStatus), (0x93#8, .protReadSettings), (0x95#8, .clearTrip),
      (0xA0#8, .readEvents), (0xA2#8, .ident), (0xA3#8, .portStatus), (0xB0#8, .storeStatus), (0xB2#8, .saveSettings),
      (0xB3#8, .reset)], ∀ l, commandOf p c.1 l = c.2 p (formOf rNothing l) := by
  simp only [List.forall_mem_cons, List.not_mem_nil]
  refine ⟨?_, ?_, ?_, ?_, ?_, ?_, ?_, ?_, ?_, ?_, ?_, ?_, ?_, ?_, ?_, ?_, ?_, ?_, ?_, ?_, ?_, ?_, ?_, nofun⟩ <;>
    exact fun _ => rfl

theorem spelled_byte : ∀ c ∈ [(0x15#8, Instr.smpReadChannel), (0x21#8, .attSetOrientation), (0x34#8, .geoSetMode),
      (0x35#8, .geoSetFollow), (0x45#8, .fwEnable), (0x46#8, .fwRead), (0x51#8, .jogEnd), (0x52#8, .stop),
      (0x56#8, .axisReadParams), (0x71#8, .memDelete), (0x72#8, .memRead), (0x73#8, .memSetPoweron),
      (0x80#8, .fanSetQuiet), (0x81#8, .fanClear), (0x88#8, .fanReadSettings), (0x94#8, .light), (0xA4#8, .setRights),
      (0xB1#8, .setAutohome)], ∀ l, commandOf p c.1 l = c.2 p (formOf rU8 l) := by
  simp only [List.forall_mem_cons, List.not_mem_nil]
  refine ⟨?_, ?_, ?_, ?_, ?_, ?_, ?_, ?_, ?_, ?_, ?_, ?_, ?_, ?_, ?_, ?_, ?_, ?_, nofun⟩ <;> exact fun _ => rfl

theorem spelled_word : ∀ c ∈ [(0x14#8, Instr.smpClearPeak), (0x44#8, .fwSetLimit), (0x54#8, .axisSetJog),
      (0xA1#8, .setEventMask)], ∀ l, commandOf p c.1 l = c.2 p (formOf rU16 l) := by
  simp only [List.forall_mem_cons, List.not_mem_nil]
  exact ⟨fun _ => rfl, fun _ => rfl, fun _ => rfl, fun _ => rfl, nofun⟩

theorem spelled_tagged : ∀ c ∈ [(0x62#8, Instr.mqHome), (0x63#8, .mqRecall)], ∀ l,
    commandOf p c.1 l = c.2 p (formOf rTagged l) := by
  simp only [List.forall_mem_cons, List.not_mem_nil]
  exact ⟨fun _ => rfl, fun _ => rfl, nofun⟩

theorem spelled_corner : ∀ c ∈ [(0x30#8, Instr.geoSetCorner), (0x32#8, .geoNudgeCorner)], ∀ l,
    commandOf p c.1 l = c.2 p (formOf rCorner l) := by
  simp only [List.forall_mem_cons, List.not_mem_nil]
  exact ⟨fun _ => rfl, fun _ => rfl, nofun⟩

end

/-! ## Commands with a count or a choice of form -/

section
variable (p : Port)

theorem round_spelled (n : Byte) (l : List Byte) : commandOf p 0x10#8 (n :: l) =
    if l.length = n.toNat then .smpSetRound p (.form (l.map BitVec.toNat)) else .smpSetRound p .misfit := by
  show Instr.smpSetRound p (formOf (rMany rU8 n.toNat) l) = _
  by_cases hl : l.length = n.toNat
  · rw [if_pos hl, formOf_some (rMany_bytes (fun _ _ => rfl) hl)]
  · rw [if_neg hl, (takes_rMany takes_rU8 n.toNat).misfit (by omega)]

/-- Two bytes carry a table number, five a zero and a scale. -/
theorem channel_misfit {l : List Byte} (h2 : l.length ≠ 2) (h5 : l.length ≠ 5) :
    commandOf p 0x13#8 l = .smpSetChannel p .misfit := by
  have hangle : Takes (rU8.bind fun c => rU16.bind fun z => rU16.bind fun k => Reader.pure (ChannelArgs.angle c z k)) 5 :=
    takes_rU8.bind fun _ => takes_rU16.bind fun _ => takes_rU16.bind fun _ => takes_pure _
  exact congrArg (Instr.smpSetChannel p) ((formOf_congr (if_neg h2)).trans (hangle.misfit h5))

/-- The label follows when the flag says so. -/
theorem save_spelled (s f : Byte) (l : List Byte) : commandOf p 0x70#8 (s :: f :: l) = .memSave p
    (if f.getLsbD 1 then
      formOf (rU8.bind fun n => (rMany rByte n).bind fun l => Reader.pure ⟨s.toNat, f.toNat, l⟩) l
     else formOf (Reader.pure ⟨s.toNat, f.toNat, []⟩) l) := by
  show Instr.memSave p (formOf (fun l => (if f.toNat.testBit 1 then _ else _ : Reader SaveArgs) l) l) = _
  have hbit : f.toNat.testBit 1 = f.getLsbD 1 := rfl
  rw [hbit]
  cases f.getLsbD 1 <;> rfl

theorem save_labelled (s f n : Byte) (l : List Byte) (h : f.getLsbD 1 = true) : commandOf p 0x70#8 (s :: f :: n :: l) =
    if l.length = n.toNat then .memSave p (.form ⟨s.toNat, f.toNat, l⟩) else .memSave p .misfit := by
  rw [save_spelled, if_pos h]
  refine (congrArg (Instr.memSave p) (counted_bytes (r := rByte) (val := id) rfl (fun _ _ => rfl)
    (fun l => (⟨s.toNat, f.toNat, l⟩ : SaveArgs)) n.toNat l)).trans ?_
  rw [List.map_id]
  split <;> rfl

theorem binding_spelled (k n : Byte) (l : List Byte) : commandOf p 0x83#8 (k :: n :: l) =
    if l.length = n.toNat then .fanSetBinding p (.form ⟨k.toNat, l.map BitVec.toNat⟩) else .fanSetBinding p .misfit := by
  refine (congrArg (Instr.fanSetBinding p) (counted_bytes (r := rU8) (val := BitVec.toNat) rfl (fun _ _ => rfl)
    (fun l => (⟨k.toNat, l⟩ : BindingArgs)) n.toNat l)).trans ?_
  split <;> rfl

theorem curve_spelled (k n : Byte) (q : List ((Byte × Byte) × Byte × Byte)) (hq : q.length = n.toNat) :
    commandOf p 0x82#8 (k :: n :: q.flatMap fun v => [v.1.1, v.1.2, v.2.1, v.2.2]) =
      .fanSetCurve p (.form ⟨k.toNat, q.map fun v =>
        ⟨(v.1.1 ++ v.1.2 : BitVec 16).toInt, ((256 * v.2.1.toNat + v.2.2.toNat : Nat) : Int)⟩⟩) := by
  simp only [toInt_two]
  exact congrArg (Instr.fanSetCurve p) (formOf_some (bind_cons (rMany_form (fun _ _ => rfl) hq)))

theorem curve_misfit (k n : Byte) {l : List Byte} (h : l.length ≠ 4 * n.toNat) :
    commandOf p 0x82#8 (k :: n :: l) = .fanSetCurve p .misfit :=
  congrArg (Instr.fanSetCurve p)
    (((takes_rMany takes_curvePoint n.toNat).bind fun l => takes_pure (⟨k.toNat, l⟩ : CurveArgs)).misfit (by omega))

theorem table_spelled (t : Byte) (q : List (Byte × Byte)) (hq : q.length = 17) :
    commandOf p 0x12#8 (t :: q.flatMap fun v => [v.1, v.2]) =
      .smpSetTable p (.form ⟨t.toNat, q.map fun v => (v.1 ++ v.2 : BitVec 16).toInt⟩) := by
  simp only [toInt_two]
  exact congrArg (Instr.smpSetTable p) (formOf_some (bind_cons (rMany_form (fun _ _ => rfl) hq)))

theorem zoom_spelled (q : List (Byte × Byte)) (hq : q.length = 8) :
    commandOf p 0x37#8 (q.flatMap fun v => [v.1, v.2]) =
      .geoSetZoomTable p (.form (q.map fun v => 256 * v.1.toNat + v.2.toNat)) :=
  congrArg (Instr.geoSetZoomTable p) (formOf_some (rMany_form (fun _ _ => rfl) hq))

/-- A MOVE and a STEP carry a value for each axis that they name. -/
theorem motion_spelled (m t : Byte) :
    let n := ((List.range 4).filter fun k => m.getLsbD k).length
    (∀ q : List (Byte × Byte), q.length = n → commandOf p 0x60#8 (m :: t :: q.flatMap fun v => [v.1, v.2]) =
      .mqMove p (.form ⟨m.toNat, t.toNat, q.map fun v => ((256 * v.1.toNat + v.2.toNat : Nat) : Int)⟩))
    ∧ (∀ q : List (Byte × Byte × Byte), q.length = n →
      commandOf p 0x61#8 (m :: t :: q.flatMap fun v => [v.1, v.2.1, v.2.2]) =
        .mqStep p (.form ⟨m.toNat, t.toNat, q.map fun v => (v.1 ++ v.2.1 ++ v.2.2 : BitVec 24).toInt⟩))
    ∧ (∀ l : List Byte, (l.length ≠ 2 * n → commandOf p 0x60#8 (m :: t :: l) = .mqMove p .misfit)
      ∧ (l.length ≠ 3 * n → commandOf p 0x61#8 (m :: t :: l) = .mqStep p .misfit))
    ∧ ∀ l : List Byte, l.length < 2 →
      commandOf p 0x60#8 l = .mqMove p .misfit ∧ commandOf p 0x61#8 l = .mqStep p .misfit := by
  intro n
  have hn : axisCount m.toNat = n := axisCount_eq m.toNat
  refine ⟨fun q hq => ?_, fun q hq => ?_, fun l => ⟨fun hl => ?_, fun hl => ?_⟩, fun l hl => ⟨?_, ?_⟩⟩
  · exact congrArg (Instr.mqMove p) (formOf_some (bind_cons (rMany_form (fun _ _ => rfl) (hq.trans hn.symm))))
  · simp only [toInt_three]
    exact congrArg (Instr.mqStep p) (formOf_some (bind_cons (rMany_form (fun _ _ => rfl) (hq.trans hn.symm))))
  · exact congrArg (Instr.mqMove p) (((takes_rMany takes_rI16 (axisCount m.toNat)).bind
      fun l => takes_pure (⟨m.toNat, t.toNat, l⟩ : MoveArgs)).misfit (by omega))
  · exact congrArg (Instr.mqStep p) (((takes_rMany takes_rS24 (axisCount m.toNat)).bind
      fun l => takes_pure (⟨m.toNat, t.toNat, l⟩ : MoveArgs)).misfit (by omega))
  · exact congrArg (Instr.mqMove p) (two_bytes_misfit hl)
  · exact congrArg (Instr.mqStep p) (two_bytes_misfit hl)

end

end Sys2Proof.Machine
end

section
/-! The forms of the vertex edits, the identifiers of the table, and the receiver of Port B (10 R170; 12 R190). -/

namespace Sys2Proof.Machine

/-! ## Every form of a fixed length -/

section
variable (p : Port)

/-- The first clause of the statement on receiver states: the commands outside the queue and the layer. -/
theorem forms_spelled :
    let w (a b : Byte) : Nat := 256 * a.toNat + b.toNat
    let z (a b : Byte) : Int := (a ++ b : BitVec 16).toInt
    let pairs (q : List (Byte × Byte)) : List Byte := q.flatMap fun v => [v.1, v.2]
    let one (id : Byte) (n : Nat) (no : Instr) : Prop := ∀ l : List Byte, l.length ≠ n → commandOf p id l = no
    ((∀ m n a b c d, commandOf p 0x11#8 [m, n, a, b, c, d] =
          .smpSetTrigger p (.form ⟨m.toNat, n.toNat, w a b, w c d⟩)) ∧ one 0x11#8 6 (.smpSetTrigger p .misfit))
    ∧ ((∀ (t : Byte) (q : List (Byte × Byte)), q.length = 17 → commandOf p 0x12#8 (t :: pairs q) =
          .smpSetTable p (.form ⟨t.toNat, q.map fun v => z v.1 v.2⟩)) ∧ one 0x12#8 35 (.smpSetTable p .misfit))
    ∧ ((∀ k t, commandOf p 0x13#8 [k, t] = .smpSetChannel p (.form (.temp k.toNat t.toNat)))
      ∧ (∀ k a b c d, commandOf p 0x13#8 [k, a, b, c, d] = .smpSetChannel p (.form (.angle k.toNat (w a b) (w c d))))
      ∧ ∀ l : List Byte, l.length ≠ 2 → l.length ≠ 5 → commandOf p 0x13#8 l = .smpSetChannel p .misfit)
    ∧ ((∀ a b c d e f g h, commandOf p 0x22#8 [a, b, c, d, e, f, g, h] =
          .attSetParams p (.form ⟨w a b, z c d, w e f, w g h⟩)) ∧ one 0x22#8 8 (.attSetParams p .misfit))
    ∧ ((∀ a b c d e f g h i j k l m n o q, commandOf p 0x31#8 [a, b, c, d, e, f, g, h, i, j, k, l, m, n, o, q] =
          .geoSetCorners p (.form ⟨⟨z a b, z c d⟩, ⟨z e f, z g h⟩, ⟨z i j, z k l⟩, ⟨z m n, z o q⟩⟩))
      ∧ one 0x31#8 16 (.geoSetCorners p .misfit))
    ∧ ((∀ a b c d, commandOf p 0x36#8 [a, b, c, d] = .geoSetPanel p (.form ⟨w a b, w c d⟩))
      ∧ one 0x36#8 4 (.geoSetPanel p .misfit))
    ∧ ((∀ q : List (Byte × Byte), q.length = 8 → commandOf p 0x37#8 (pairs q) =
          .geoSetZoomTable p (.form (q.map fun v => w v.1 v.2))) ∧ one 0x37#8 16 (.geoSetZoomTable p .misfit))
    ∧ ((∀ x d l, commandOf p 0x50#8 [x, d, l] = .jog p (.form ⟨x.toNat, d.toNat, l.toNat⟩))
      ∧ one 0x50#8 3 (.jog p .misfit)) := by
  intro w z pairs one
  have hz : z = fun a b => signed 16 (256 * a.toNat + b.toNat) := funext fun a => funext fun b => toInt_two a b
  refine ⟨⟨fun _ _ _ _ _ _ => rfl, spelled_misfit p takes_rTrigger fun _ => rfl⟩,
    ⟨table_spelled p, spelled_misfit p takes_rTable fun _ => rfl⟩,
    ⟨fun _ _ => rfl, fun _ _ _ _ _ => rfl, fun _ => channel_misfit p⟩,
    ⟨?_, spelled_misfit p takes_rAtt fun _ => rfl⟩, ⟨?_, spelled_misfit p takes_rCorners fun _ => rfl⟩,
    ⟨fun _ _ _ _ => rfl, spelled_misfit p takes_rPanel fun _ => rfl⟩,
    ⟨zoom_spelled p, spelled_misfit p (takes_rMany takes_rU16 8) fun _ => rfl⟩,
    ⟨fun _ _ _ => rfl, spelled_misfit p takes_rJog fun _ => rfl⟩⟩
  · rw [hz]
    exact fun _ _ _ _ _ _ _ _ => rfl
  · rw [hz]
    exact fun _ _ _ _ _ _ _ _ _ _ _ _ _ _ _ _ => rfl

theorem axis_focus_fan_forms_spelled :
    let w (a b : Byte) : Nat := 256 * a.toNat + b.toNat
    let z (a b : Byte) : Int := (a ++ b : BitVec 16).toInt
    let one (id : Byte) (n : Nat) (no : Instr) : Prop := ∀ l : List Byte, l.length ≠ n → commandOf p id l = no
    ((∀ x t t' s s' m m' a a' a'' h h' b d i i' o e e', commandOf p 0x53#8
          [x, t, t', s, s', m, m', a, a', a'', h, h', b, d, i, i', o, e, e'] =
          .axisSetParams p (.form {
            axis := x.toNat, travel := w t t', startSpeed := w s s', maxSpeed := w m m',
            accel := (a ++ a' ++ a'' : BitVec 24).toNat, homingSpeed := w h h', backlash := b.toNat,
            approach := d.toNat, indexPos := w i i', indexTol := o.toNat, settle := w e e' }))
      ∧ one 0x53#8 19 (.axisSetParams p .misfit))
    ∧ ((∀ e a b c d f g h, commandOf p 0x78#8 [e, a, b, c, d, f, g, h] =
          .fcSet p (.form ⟨e.toNat, z a b, z c d, w f g, h.toNat⟩)) ∧ one 0x78#8 8 (.fcSet p .misfit))
    ∧ ((∀ k a b c d e f, commandOf p 0x84#8 [k, a, b, c, d, e, f] =
          .fanSetParams p (.form ⟨k.toNat, w a b, w c d, w e f⟩)) ∧ one 0x84#8 7 (.fanSetParams p .misfit))
    ∧ ((∀ k a b c d, commandOf p 0x85#8 [k, a, b, c, d] = .fanSetOffsets p (.form ⟨k.toNat, z a b, z c d⟩))
      ∧ one 0x85#8 5 (.fanSetOffsets p .misfit))
    ∧ ((∀ a b, commandOf p 0x86#8 [a, b] = .fanSetSlew p (.form (w a b))) ∧ one 0x86#8 2 (.fanSetSlew p .misfit))
    ∧ ((∀ a b c d e f g, commandOf p 0x90#8 [a, b, c, d, e, f, g] =
          .protSetParams p (.form ⟨w a b, w c d, e.toNat, w f g⟩)) ∧ one 0x90#8 7 (.protSetParams p .misfit))
    ∧ ((∀ k a b c d, commandOf p 0x91#8 [k, a, b, c, d] = .protSetThresholds p (.form ⟨k.toNat, z a b, z c d⟩))
      ∧ one 0x91#8 5 (.protSetThresholds p .misfit)) := by
  intro w z one
  have hz : z = fun a b => signed 16 (256 * a.toNat + b.toNat) := funext fun a => funext fun b => toInt_two a b
  refine ⟨⟨fun _ _ _ _ _ _ _ _ _ _ _ _ _ _ _ _ _ _ _ => ?_, spelled_misfit p takes_rAxisParams fun _ => rfl⟩,
    ⟨?_, spelled_misfit p takes_rFc fun _ => rfl⟩,
    ⟨fun _ _ _ _ _ _ _ => rfl, spelled_misfit p takes_rFanParams fun _ => rfl⟩,
    ⟨?_, spelled_misfit p takes_rOffsets fun _ => rfl⟩, ⟨fun _ _ => rfl, spelled_misfit p takes_rI16 fun _ => rfl⟩,
    ⟨fun _ _ _ _ _ _ _ => rfl, spelled_misfit p takes_rProt fun _ => rfl⟩,
    ⟨?_, spelled_misfit p takes_rThreshold fun _ => rfl⟩⟩
  · rw [toNat_three]
    rfl
  · rw [hz]
    exact fun _ _ _ _ _ _ _ _ => rfl
  · rw [hz]
    exact fun _ _ _ _ _ => rfl
  · rw [hz]
    exact fun _ _ _ _ _ => rfl

end

/-! ## The forms of the vertex edits -/

/-- The bytes of the values that a selector asks for. -/
def selWidth : Selector → Nat
  | .x | .y => 2
  | .both => 4

theorem takes_rComps (k : Selector) : Takes (rComps k) (selWidth k) := by
  cases k with
  | x => exact takes_rS16.bind fun _ => takes_pure _
  | y => exact takes_rS16.bind fun _ => takes_pure _
  | both => exact takes_rS16.bind fun _ => takes_rS16.bind fun _ => takes_pure _

theorem takes_rExpected (k : Selector) {f : Nat} (hf : f ≤ 1) : Takes (rExpected k f) (selWidth k * f) := by
  obtain rfl | rfl : f = 0 ∨ f = 1 := by omega
  · exact takes_pure none
  · rw [Nat.mul_one]
    exact (takes_rComps k).bind fun _ => takes_pure _

theorem rExpected_none (k : Selector) {f : Nat} (hf : 1 < f) : rExpected k f = Reader.fail := by
  match f, hf with
  | _ + 2, _ => rfl

/-- The selector of a byte that names one. -/
theorem rSelector_some {k : Byte} (hk : k.toNat ≤ 2) : ∃ sel, selWidth sel = (if k = 2#8 then 4 else 2)
    ∧ ∀ l, rSelector (k :: l) = some (sel, l) := by
  have hcode {n : Nat} (h : k.toNat = n) (hn : n < 256) : k = BitVec.ofNat 8 n :=
    BitVec.eq_of_toNat_eq (by rw [h, BitVec.toNat_ofNat, Nat.mod_eq_of_lt hn])
  obtain h | h | h : k.toNat = 0 ∨ k.toNat = 1 ∨ k.toNat = 2 := by omega
  · obtain rfl := hcode h (by omega)
    exact ⟨.x, rfl, fun _ => rfl⟩
  · obtain rfl := hcode h (by omega)
    exact ⟨.y, rfl, fun _ => rfl⟩
  · obtain rfl := hcode h (by omega)
    exact ⟨.both, rfl, fun _ => rfl⟩

section
variable {α : Type} {r : Reader α} {i j k f : Byte} {l : List Byte}

theorem editForm_noForm (h : formOf r (i :: j :: k :: f :: l) = .misfit) (hf : 1 < f.toNat) :
    editForm r (i :: j :: k :: f :: l) = .noForm i.toNat j.toNat := by
  simp [editForm, h, hf]

theorem editForm_misfit (h : formOf r (i :: j :: k :: f :: l) = .misfit) (hk : k.toNat ≤ 2) (hf : f.toNat ≤ 1) :
    editForm r (i :: j :: k :: f :: l) = .misfit := by
  simp [editForm, h, Nat.not_lt.2 hk, Nat.not_lt.2 hf]

theorem editForm_flagless (h : formOf r [i, j, k] = .misfit) (hk : k.toNat ≤ 2) : editForm r [i, j, k] = .misfit := by
  simp [editForm, h, Nat.not_lt.2 hk]

end

/-- The values of an edit behind its vertex, its selector and its flag. -/
def editValues (i j : Nat) (k : Selector) (f : Nat) : Reader EditArgs :=
  (rComps k).bind fun v => (rExpected k f).bind fun e => Reader.pure ⟨i, j, v, e⟩

def zeroValues (i j : Nat) (k : Selector) (f : Nat) : Reader ZeroArgs :=
  (rExpected k f).bind fun e => Reader.pure ⟨i, j, k, e⟩

section
variable {i j k f : Byte} {l : List Byte}

theorem rEdit_eq {sel : Selector} (h : ∀ l, rSelector (k :: l) = some (sel, l)) :
    rEdit (i :: j :: k :: f :: l) = editValues i.toNat j.toNat sel f.toNat l := by
  show (rSelector.bind _) (k :: f :: l) = _
  rw [bind_cons (h _)]
  rfl

theorem rZero_eq {sel : Selector} (h : ∀ l, rSelector (k :: l) = some (sel, l)) :
    rZero (i :: j :: k :: f :: l) = zeroValues i.toNat j.toNat sel f.toNat l := by
  show (rSelector.bind _) (k :: f :: l) = _
  rw [bind_cons (h _)]
  rfl

/-- An edit with a selector and a flag takes as many bytes as these ask for. -/
theorem edit_misfit (hk : k.toNat ≤ 2) (hf : f.toNat ≤ 1) :
    let v := if k = 2#8 then 4 else 2
    (l.length ≠ v + v * f.toNat → editForm rEdit (i :: j :: k :: f :: l) = .misfit)
    ∧ (l.length ≠ v * f.toNat → editForm rZero (i :: j :: k :: f :: l) = .misfit) := by
  intro v
  obtain ⟨sel, hwidth, hsel⟩ := rSelector_some hk
  have hv : selWidth sel = v := hwidth
  have hexpected := takes_rExpected sel hf
  rw [hv] at hexpected
  refine ⟨fun hl => editForm_misfit ((formOf_congr (rEdit_eq hsel)).trans ?_) hk hf,
    fun hl => editForm_misfit ((formOf_congr (rZero_eq hsel)).trans ?_) hk hf⟩
  · exact ((takes_rComps sel).bind fun _ => hexpected.bind fun _ => takes_pure _).misfit (by rw [hv]; exact hl)
  · exact (hexpected.bind fun _ => takes_pure _).misfit hl

/-- An edit whose flag byte is no flag has no form, whatever its selector. -/
theorem edit_noFlag (hf : 1 < f.toNat) : editForm rEdit (i :: j :: k :: f :: l) = .noForm i.toNat j.toNat
    ∧ editForm rZero (i :: j :: k :: f :: l) = .noForm i.toNat j.toNat := by
  rcases Nat.lt_or_ge 2 k.toNat with hk | hk
  · exact ⟨editForm_noSelector _ i j k _ hk, editForm_noSelector _ i j k _ hk⟩
  · obtain ⟨sel, -, hsel⟩ := rSelector_some hk
    have hfail {β : Type} (g : Option Comps → Reader β) (l : List Byte) : ((rExpected sel f.toNat).bind g) l = none :=
      bind_none (by rw [rExpected_none sel hf]; rfl)
    refine ⟨editForm_noForm (formOf_none ?_) hf, editForm_noForm (formOf_none ?_) hf⟩
    · rw [rEdit_eq hsel, editValues]
      rcases hcomps : rComps sel l with _ | ⟨v, rest⟩
      · exact bind_none hcomps
      · rw [bind_cons hcomps]
        exact hfail _ _
    · rw [rZero_eq hsel]
      exact hfail _ _

/-- An edit that does not reach its flag takes no form. -/
theorem edit_short (h : l.length < 3 ∨ ∃ k : Byte, k.toNat ≤ 2 ∧ l = [i, j, k]) :
    editForm rEdit l = .misfit ∧ editForm rZero l = .misfit := by
  rcases h with h | ⟨k, hk, rfl⟩
  · match l, h with
    | [], _ => exact ⟨rfl, rfl⟩
    | [_], _ => exact ⟨rfl, rfl⟩
    | [_, _], _ => exact ⟨rfl, rfl⟩
  · obtain ⟨sel, -, hsel⟩ := rSelector_some hk
    have hbind {β : Type} (h : Selector → Nat → Reader β) :
        (rSelector.bind fun k => rU8.bind (h k)) [k] = none := by
      rw [bind_cons (hsel _)]
      rfl
    exact ⟨editForm_flagless (formOf_none (hbind _)) hk, editForm_flagless (formOf_none (hbind _)) hk⟩

end

theorem edits_spelled (p : Port) (i j : Byte) :
    let z (a b : Byte) : Int := (a ++ b : BitVec 16).toInt
    let edit (k f : Byte) (l : List Byte) (v : Comps) (e : Option Comps) : Prop :=
      ∀ c ∈ [(0x40#8, Instr.fwSet), (0x41#8, .fwNudge)],
        commandOf p c.1 (i :: j :: k :: f :: l) = c.2 p (.form ⟨i.toNat, j.toNat, v, e⟩)
    let zero (k f : Byte) (l : List Byte) (v : Selector) (e : Option Comps) : Prop :=
      commandOf p 0x42#8 (i :: j :: k :: f :: l) = .fwZero p (.form ⟨i.toNat, j.toNat, v, e⟩)
    (zero 0#8 0#8 [] .x none ∧ zero 1#8 0#8 [] .y none ∧ zero 2#8 0#8 [] .both none)
    ∧ (∀ a b c d : Byte,
      (edit 0#8 0#8 [a, b] (.x (z a b)) none ∧ edit 1#8 0#8 [a, b] (.y (z a b)) none
        ∧ edit 2#8 0#8 [a, b, c, d] (.both (z a b) (z c d)) none)
      ∧ (edit 0#8 1#8 [a, b, c, d] (.x (z a b)) (some (.x (z c d)))
        ∧ edit 1#8 1#8 [a, b, c, d] (.y (z a b)) (some (.y (z c d)))
        ∧ ∀ e f g h : Byte, edit 2#8 1#8 [a, b, c, d, e, f, g, h] (.both (z a b) (z c d))
          (some (.both (z e f) (z g h))))
      ∧ (zero 0#8 1#8 [a, b] .x (some (.x (z a b))) ∧ zero 1#8 1#8 [a, b] .y (some (.y (z a b)))
        ∧ zero 2#8 1#8 [a, b, c, d] .both (some (.both (z a b) (z c d))))) := by
  intro z
  have hz : z = fun a b => signed 16 (256 * a.toNat + b.toNat) := funext fun a => funext fun b => toInt_two a b
  rw [hz]
  intro edit zero
  have hedit {k f : Byte} {l : List Byte} {v : Comps} {e : Option Comps}
      (h : rEdit (i :: j :: k :: f :: l) = some (⟨i.toNat, j.toNat, v, e⟩, [])) : edit k f l v e := by
    have hform : editForm rEdit (i :: j :: k :: f :: l) = .form ⟨i.toNat, j.toNat, v, e⟩ := by
      simp only [editForm, formOf_some h]
    simp only [edit, List.forall_mem_cons, List.not_mem_nil]
    exact ⟨congrArg (Instr.fwSet p) hform, congrArg (Instr.fwNudge p) hform, nofun⟩
  exact ⟨⟨rfl, rfl, rfl⟩, fun a b c d => ⟨⟨hedit rfl, hedit rfl, hedit rfl⟩,
    ⟨hedit rfl, hedit rfl, fun _ _ _ _ => hedit rfl⟩, rfl, rfl, rfl⟩⟩

end Sys2Proof.Machine
end

section
/-! The identifiers of the table, and the receiver of Port B (10 R170; 12 R190). -/

namespace Sys2Proof.Machine

/-! ## The identifiers (12 R190) -/

/-- The identifiers that no command has. -/
def outsideTable (n : Nat) : Prop :=
  n < 0x10 ∨ 0x17 ≤ n ∧ n < 0x20 ∨ 0x24 ≤ n ∧ n < 0x30
    ∨ 0x3A ≤ n ∧ n < 0x40 ∨ 0x48 ≤ n ∧ n < 0x50 ∨ 0x57 ≤ n ∧ n < 0x60
    ∨ 0x67 ≤ n ∧ n < 0x70 ∨ 0x74 ≤ n ∧ n < 0x78 ∨ 0x7A ≤ n ∧ n < 0x80
    ∨ 0x89 ≤ n ∧ n < 0x90 ∨ 0x96 ≤ n ∧ n < 0xA0 ∨ 0xA5 ≤ n ∧ n < 0xB0
    ∨ 0xB4 ≤ n

section
variable (p : Port) (id : Byte) (l : List Byte)

theorem commandOf_outside (h : outsideTable id.toNat) : commandOf p id l = .unknownCommand p id := by
  unfold commandOf outsideTable at *
  split <;> first | rfl | omega

theorem controlOf_commandOf (h : ¬ outsideTable id.toNat) :
    ∃ c, controlOf (commandOf p id l) = some c ∧ c.port = p ∧ c.id = id := by
  have hid {n : Nat} (hn : id.toNat = n) : BitVec.ofNat 8 n = id := by
    rw [← hn, BitVec.ofNat_toNat, BitVec.setWidth_eq]
  have hedit {α : Type} (b : Byte) (v : EditParams α) : (editControl p b v).port = p ∧ (editControl p b v).id = b := by
    cases v <;> exact ⟨rfl, rfl⟩
  unfold commandOf
  split <;> first
    | exact ⟨_, rfl, rfl, hid (by assumption)⟩
    | exact ⟨_, rfl, (hedit _ _).1, (hedit _ _).2.trans (hid (by assumption))⟩
    | (simp only [imp_false] at *; unfold outsideTable at h; omega)

end

theorem knownId_iff (id : Byte) : knownId id = false ↔ outsideTable id.toNat := by
  by_cases h : outsideTable id.toNat
  · simp [knownId, commandOf_outside .a id [] h, h]
  · obtain ⟨c, hc, -, -⟩ := controlOf_commandOf .a id [] h
    unfold knownId
    split
    · rename_i e
      rw [e] at hc
      cases hc
    · simp [h]

/-! ## The receiver (10 R170) -/

section
variable {s : State} {b : Byte}

theorem byteReceived_stop (hd : s.deaf = false) : byteReceived b true s = takeByte b s :=
  (if_neg (by simp [hd])).trans (if_pos rfl)

theorem takeByte_hunt (h : s.port.rx = .hunt) :
    takeByte b s = .next (if b = 0xA5#8 then setReceiver .length s else s) := by
  unfold takeByte
  rw [h]

theorem takeByte_length (h : s.port.rx = .length) : takeByte b s =
    .next (if 1 ≤ b.toNat ∧ b.toNat ≤ 60 then setReceiver (.payload b.toNat []) s else badFrame s) := by
  unfold takeByte
  rw [h]

theorem takeByte_payload {n : Nat} {got : List Byte} (h : s.port.rx = .payload n got) :
    takeByte b s = .next (keepByte n (got ++ [b]) s) := by
  unfold takeByte
  rw [h]

theorem takeByte_check {n : Nat} {got : List Byte} (h : s.port.rx = .check n got) :
    takeByte b s = checkFrame n got b s := by
  unfold takeByte
  rw [h]

/-- A frame that cannot be taken is answered while the transmit queue has room. -/
theorem badFrame_eq (s : State) : badFrame s =
    if s.port.tx.length < 4 then { s with port := { s.port with
      rx := .hunt, tx := s.port.tx ++ [.response [0x01#8, BitVec.ofNat 8 s.port.frameCount, 0x00#8, 0x0D#8] false] } }
    else { s with port := { s.port with rx := .hunt } } := by
  by_cases h : s.port.tx.length < 4
  · rw [if_pos h]
    refine (if_pos h).trans ((placeB_of_room _ (t := setReceiver .hunt s) h).trans ?_)
    rfl
  · rw [if_neg h]
    exact if_neg h

/-- The command of a frame acts as its own row does. -/
theorem frameCommand_commandOf (p : Port) (id : Byte) (l : List Byte) (s : State) :
    frameCommand (commandOf p id l) s = exec (commandOf p id l) s := by
  unfold commandOf
  split <;> rfl

end

/-- The clauses on a byte that Port B receives. -/
theorem receiver_clauses (s : State) (b : Byte) (hd : s.deaf = false) :
    let rx (r : Receiver) : State := { s with port := { s.port with rx := r } }
    let bad : State := { s with port := { s.port with
      rx := .hunt, tx := s.port.tx ++ [.response [0x01#8, BitVec.ofNat 8 s.port.frameCount, 0x00#8, 0x0D#8] false] } }
    exec (.uartByteReceived b false) s = .next (rx .hunt)
    ∧ (s.port.rx = .hunt → b = 0xA5#8 → exec (.uartByteReceived b true) s = .next (rx .length))
    ∧ (s.port.rx = .hunt → b ≠ 0xA5#8 → exec (.uartByteReceived b true) s = .next s)
    ∧ (s.port.rx = .length → 1 ≤ b.toNat → b.toNat ≤ 60 →
      exec (.uartByteReceived b true) s = .next (rx (.payload b.toNat [])))
    ∧ (s.port.rx = .length → (b.toNat = 0 ∨ 60 < b.toNat) →
      exec (.uartByteReceived b true) s = .next (if s.port.tx.length < 4 then bad else rx .hunt))
    ∧ (∀ n got, s.port.rx = .payload n got → got.length + 1 < n →
      exec (.uartByteReceived b true) s = .next (rx (.payload n (got ++ [b]))))
    ∧ (∀ n got, s.port.rx = .payload n got → got.length + 1 = n →
      exec (.uartByteReceived b true) s = .next (rx (.check n (got ++ [b]))))
    ∧ (∀ n id rest, s.port.rx = .check n (id :: rest) → b = crc8 (BitVec.ofNat 8 n :: id :: rest) →
      exec (.uartByteReceived b true) s = exec (commandOf .b id rest) s)
    ∧ (∀ n got, s.port.rx = .check n got → b ≠ crc8 (BitVec.ofNat 8 n :: got) →
      exec (.uartByteReceived b true) s = .next (if s.port.tx.length < 4 then bad else rx .hunt)) := by
  have htake : exec (.uartByteReceived b true) s = takeByte b s := byteReceived_stop hd
  refine ⟨(if_neg (by simp [hd])).trans (if_neg nofun), fun h hb => ?_, fun h hb => ?_, fun h h1 h60 => ?_, fun h hb => ?_,
    fun n got h hn => ?_, fun n got h hn => ?_, fun n id rest h hb => ?_, fun n got h hb => ?_⟩
  · rw [htake, takeByte_hunt h, if_pos hb]
    rfl
  · rw [htake, takeByte_hunt h, if_neg hb]
  · rw [htake, takeByte_length h, if_pos ⟨h1, h60⟩]
    rfl
  · rw [htake, takeByte_length h, if_neg (by omega), badFrame_eq]
  · rw [htake, takeByte_payload h]
    exact congrArg Host.Outcome.next (if_pos (by simpa using hn))
  · rw [htake, takeByte_payload h]
    exact congrArg Host.Outcome.next (if_neg (by simp [hn]))
  · rw [htake, takeByte_check h]
    exact (if_pos hb.symm).trans (frameCommand_commandOf .b id rest s)
  · rw [htake, takeByte_check h]
    exact (if_neg fun e => hb e.symm).trans (congrArg Host.Outcome.next (badFrame_eq s))

/-- Settles O43: each identifier's form by the bytes that its reader takes, and the receiver by its state. -/
theorem receiverStates : Obligations.ReceiverStates := by
  refine ⟨fun p => ?_, motion_spelled, fun p i j => ?_, fun p id l => ?_, fun s b stop hd => if_pos hd, receiver_clauses⟩
  · intro w z pairs one
    have hz : z = fun a b => signed 16 (256 * a.toNat + b.toNat) := funext fun a => funext fun b => toInt_two a b
    obtain ⟨h11, h12, h13, h22, h31, h36, h37, h50⟩ := forms_spelled p
    obtain ⟨h53, h78, h84, h85, h86, h90, h91⟩ := axis_focus_fan_forms_spelled p
    refine ⟨fun c hc => ⟨?_, spelled_misfit p takes_rNothing (spelled_nothing p c hc)⟩,
      fun c hc => ⟨fun a => ?_, spelled_misfit p takes_rU8 (spelled_byte p c hc)⟩,
      fun c hc => ⟨fun a b => ?_, spelled_misfit p takes_rU16 (spelled_word p c hc)⟩,
      fun c hc => ⟨fun a b => ?_, spelled_misfit p takes_rTagged (spelled_tagged p c hc)⟩,
      fun c hc => ⟨?_, spelled_misfit p takes_rCorner (spelled_corner p c hc)⟩,
      ⟨round_spelled p, rfl⟩, h11, h12, h13, h22, h31, h36, h37, h50, h53,
      ⟨fun s f hf => ⟨?_, fun l hl => ?_⟩, save_labelled p, fun s f hf => ?_, fun l hl => ?_⟩, h78,
      ⟨curve_spelled p, fun k n l => curve_misfit p k n, fun l hl => ?_⟩, ⟨binding_spelled p, fun l hl => ?_⟩,
      h84, h85, h86, h90, h91⟩
    · exact spelled_nothing p c hc []
    · exact spelled_byte p c hc [a]
    · exact spelled_word p c hc [a, b]
    · exact spelled_tagged p c hc [a, b]
    · rw [hz]
      exact fun k a b c' d => spelled_corner p c hc [k, a, b, c', d]
    · rw [save_spelled, hf]
      rfl
    · rw [save_spelled, hf]
      exact congrArg (Instr.memSave p) ((takes_pure _).misfit (by simpa using hl))
    · rw [save_spelled, hf]
      rfl
    · exact congrArg (Instr.memSave p) (two_bytes_misfit hl)
    · exact congrArg (Instr.fanSetCurve p) (two_bytes_misfit hl)
    · exact congrArg (Instr.fanSetBinding p) (two_bytes_misfit hl)
  · obtain ⟨hplain, hspelled⟩ := edits_spelled p i j
    refine ⟨hplain, hspelled, fun k f l hk hf => ?_, fun k f l hf => ?_, fun l hl => ?_⟩
    · obtain ⟨hedit, hzero⟩ := edit_misfit (i := i) (j := j) (l := l) hk hf
      exact ⟨fun hl => ⟨congrArg (Instr.fwSet p) (hedit hl), congrArg (Instr.fwNudge p) (hedit hl)⟩,
        fun hl => congrArg (Instr.fwZero p) (hzero hl)⟩
    · obtain ⟨hedit, hzero⟩ := edit_noFlag (i := i) (j := j) (k := k) (l := l) hf
      exact ⟨congrArg (Instr.fwSet p) hedit, congrArg (Instr.fwNudge p) hedit, congrArg (Instr.fwZero p) hzero⟩
    · obtain ⟨hedit, hzero⟩ := edit_short hl
      exact ⟨congrArg (Instr.fwSet p) hedit, congrArg (Instr.fwNudge p) hedit, congrArg (Instr.fwZero p) hzero⟩
  · exact ⟨knownId_iff id, commandOf_outside p id l, controlOf_commandOf p id l⟩

end Sys2Proof.Machine
end

section
/-! The Retained Settings Store (11): the CRC-32, saving, and the resets. -/

namespace Sys2Proof.Machine

/-! ## The CRC-32 (11 R182) -/

theorem not_crc32_concat (l : List Byte) (b : Byte) :
    ~~~ crc32 (l ++ [b]) = Nat.repeat crc32Shift 8 (~~~ crc32 l ^^^ b.setWidth 32) := by
  simp only [crc32, BitVec.not_not]
  exact List.foldl_concat crc32Byte _ b l

theorem crc32_one_to_nine :
    crc32 [0x31#8, 0x32#8, 0x33#8, 0x34#8, 0x35#8, 0x36#8, 0x37#8, 0x38#8, 0x39#8] = 0xCBF43926#32 := by
  simp [crc32, crc32Byte, Nat.repeat, crc32Shift]

/-! ## Saving (11 R184, R186) -/

theorem saveCompleted_busy {s : State} {g : Save} (hs : s.store.state = .busy) (hg : s.store.gathered = some g) :
    saveCompleted s = { s with
      store := { s.store with
        state := .idle, gathered := none,
        image := ⟨g.contents, g.count, some (crc32 (Config.imageBytes g.contents g.count))⟩ },
      port := s.port.raise (.port g.issuer) .storeDone } := by
  unfold saveCompleted
  rw [hs, hg]
  rfl

theorem saveCompleted_idle {s : State} (hs : s.store.state ≠ .busy) : saveCompleted s = s := by
  unfold saveCompleted
  split
  · exact absurd ‹_› hs
  · rfl

/-- Settles O45: the recurrence by the last byte of the run, and the rest by the state of the store. -/
theorem saving : Obligations.Saving := by
  refine ⟨?_, fun p s => ?_⟩
  · intro bit reg
    have hbit : crc32Shift = bit := rfl
    refine ⟨by decide, by decide, fun l b => ?_, crc32_one_to_nine⟩
    exact not_crc32_concat l b
  · intro status
    have hdata (n : Nat) : storeStatusData n (taken p s) = status n := by
      unfold storeStatusData
      rw [taken_store, taken_set]
      rfl
    refine ⟨fun hc hs => ?_, fun hc hs => ?_, fun g hs hg => congrArg Host.Outcome.next (saveCompleted_busy hs hg),
      fun hs => congrArg Host.Outcome.next (saveCompleted_idle hs), fun hc b => ?_, fun hc hs => ?_, fun hc hs => ?_⟩
    · refine command_eq hc ?_
      simp only [saveSettings, taken_store, hs, beginSave, taken_set]
      rfl
    · refine command_eq hc ?_
      simp only [saveSettings, taken_store, hs]
      rfl
    · refine command_eq hc ?_
      cases b <;> rw [← taken_set p s] <;> rfl
    · refine command_eq hc ?_
      simp only [storeStatus, taken_store, hs, reply, hdata]
    · refine ⟨s.freeCount + 1, (drawFree 300 (taken p s)).1, Nat.le_of_lt_succ (Nat.mod_lt _ (Nat.succ_pos _)),
        command_eq hc ?_⟩
      have hkeep (n : Nat) : storeStatusData n { taken p s with freeCount := (taken p s).freeCount + 1 } = status n :=
        hdata n
      simp only [storeStatus, taken_store, hs, reply, drawFree]
      rw [← taken_freeCount p s]
      exact congrArg (Answer.mk _ .ok) (hkeep _)

/-! ## The resets (11 R187) -/

/-- The state after a reset of a part whose pins are as they stand in s. -/
theorem resetPart_eq (c : ResetCause) (s : State) :
    let fresh (f : Filtered) : Filtered := ⟨f.raw, f.raw, 0⟩
    resetPart c s = { State.reset with
      pending := s.pending,
      inputs := {
        home := s.inputs.home.map fun _ => fresh, index := s.inputs.index.map fun _ => fresh,
        mdflt := fresh s.inputs.mdflt, tco := fresh s.inputs.tco, drvflt := fresh s.inputs.drvflt,
        tach := s.inputs.tach.map fun _ => fresh },
      pres := { Presentation.reset with trans := if s.pres.trans = .none then .none else .ignored },
      port := { PortUnit.reset with asel := s.aselPin },
      store := { Store.reset with
        image := if s.store.state = .busy then { s.store.image with word := none } else s.store.image, cause := c },
      rstLow := s.rstLow, powerOff := s.powerOff, aselPin := s.aselPin, freeCount := s.freeCount } := by
  have htrans : s.pres.trans.acrossReset = if s.pres.trans = .none then .none else .ignored := by
    cases s.pres.trans <;> rfl
  have himage : s.store.keptImage =
      if s.store.state = .busy then { s.store.image with word := none } else s.store.image := by
    unfold Store.keptImage
    cases s.store.state <;> rfl
  intro fresh
  rw [← htrans, ← himage]
  rfl

/-- Settles O46, by the state after a reset. -/
theorem resets : Obligations.Resets := by
  unfold Obligations.Resets
  intro s fresh after
  refine ⟨congrArg Host.Outcome.next (resetPart_eq .power { s with powerOff := false }),
    congrArg Host.Outcome.next (resetPart_eq .power { s with powerOff := true }),
    congrArg Host.Outcome.next (resetPart_eq .pin { s with rstLow := true }),
    congrArg Host.Outcome.next (resetPart_eq .pin { s with rstLow := false }),
    fun hd => congrArg Host.Outcome.next ((if_neg (by simp [hd])).trans (resetPart_eq .command s)), fun hd hq => ?_⟩
  exact (reset_eq_command (.inl rfl)).trans (command_denied _ _ _ _ s hd rfl hq)

end Sys2Proof.Machine
end

section
/-! The reset values and the laws at reset (11 R187). -/

namespace Sys2Proof.Machine

theorem reset_eq_resetPart : State.reset = resetPart .power State.reset := rfl

theorem records_reset (k : Fin 10) : Sampling.reset.records.get k = ChannelRec.reset := Vector.getElem_replicate ..

theorem rows_reset (j : Fin 9) : (Vector.replicate 9 false).get j = false := Vector.getElem_replicate ..

theorem axes_reset (x : Axis) : (PerAxis.const AxisRec.reset).get x = AxisRec.reset := by cases x <;> rfl

theorem fans_reset (f : Fan) : (PerFan.const FanRec.reset).get f = FanRec.reset := by cases f <;> rfl

theorem corners_reset : Geometry.reset.corners = nominal defaultSettings.geo.width defaultSettings.geo.height := by decide

/-- Each law of the statements on every step, at a reset of any state. -/
theorem resetPart_laws (c : ResetCause) (s : State) :
    let t := resetPart c s
    SettingsSound t ∧ LightGated t ∧ AllowanceLaw t ∧ FanLaw t ∧ BankLaw t ∧ QueueLaw t ∧ PortLaw t.port ∧ AxisLaw t
      ∧ MeshLaw t ∧ SamplingLaw t ∧ AttitudeLaw t := by
  have hquiet := loadQuiet_resetPart c s
  obtain ⟨h1, h2, h3, h4⟩ := resetPart_queueFree c s
  exact ⟨⟨defaultSettings_sound, fun r hr => absurd hr List.not_mem_nil⟩, rfl,
    ⟨rfl, (⟨by decide, by decide⟩ : (350 : Int) ≤ 350 ∧ (350 : Int) ≤ 1000), hquiet⟩,
    ⟨rfl, fun f => by cases f <;> rfl⟩, resetPart_bankLaw c s, ⟨h1, h2, h3, h4, hquiet⟩, resetPart_portLaw c s,
    ⟨hquiet, fun x => (axisFits_iff _ _).1 (resetPart_axesFit c s x)⟩, resetPart_meshLaw c s, resetPart_samplingLaw c s,
    resetPart_attitudeLaw c s⟩

/-- A reset of an arrival is a reset of the part with its cause. -/
theorem exec_reset {i : Instr} {s t : State}
    (hi : i = .powerOnReset ∨ i = .powerLoss ∨ i = .rstnLow ∨ i = .rstnRise ∨ s.deaf = false ∧ i = .reset .a (.form ()))
    (h : exec i s = .next t) : ∃ c u, t = resetPart c u := by
  rcases hi with rfl | rfl | rfl | rfl | ⟨hd, rfl⟩
  · exact ⟨_, _, (Host.Outcome.next.inj h).symm⟩
  · exact ⟨_, _, (Host.Outcome.next.inj h).symm⟩
  · exact ⟨_, _, (Host.Outcome.next.inj h).symm⟩
  · exact ⟨_, _, (Host.Outcome.next.inj h).symm⟩
  · exact ⟨.command, s, (Host.Outcome.next.inj h).symm.trans (if_neg (by simp [hd]))⟩

/-- Settles O59: every reset is a reset of the part, and so is the state after reset. -/
theorem resetLawful : Obligations.ResetLawful := by
  refine ⟨?_, reset_eq_resetPart ▸ resetPart_laws .power State.reset⟩
  intro values
  have hvalues (c : ResetCause) (s : State) : values (resetPart c s) := by
    refine ⟨fun k => ?_, ⟨rfl, rfl, rfl, rfl, rfl, rfl, rfl⟩, ⟨rfl, rfl, rfl, rfl, rfl, rfl, rfl⟩,
      ⟨rfl, rfl, rfl, rfl, rfl, corners_reset⟩, ⟨rfl, rfl, rfl, rfl, rfl⟩,
      ⟨fun i => by cases i <;> rfl, rfl, rfl, fun j => ⟨rows_reset j, rows_reset j⟩, rfl, rfl, rfl, rfl⟩, fun x => ?_,
      ⟨rfl, rfl, rfl, rfl, rfl⟩, ⟨rfl, fun f => ?_⟩, ⟨rfl, rfl, rfl, rfl, rfl, rfl, rfl⟩,
      ⟨rfl, rfl, rfl, rfl, rfl, rfl, rfl, rfl, rfl, rfl⟩, rfl, rfl⟩
    · intro r
      have hr : r = ChannelRec.reset := records_reset k
      rw [hr]
      exact ⟨rfl, rfl, rfl, rfl, rfl, rfl, rfl⟩
    · intro r
      have hr : r = AxisRec.reset := axes_reset x
      rw [hr]
      exact ⟨rfl, rfl, rfl, rfl, rfl, rfl, rfl, rfl, rfl⟩
    · intro r
      have hr : r = FanRec.reset := fans_reset f
      rw [hr]
      exact ⟨rfl, rfl, rfl, rfl, rfl, rfl, rfl, rfl, rfl⟩
  refine ⟨hvalues .power State.reset, fun i s t hi h => ?_⟩
  obtain ⟨c, u, rfl⟩ := exec_reset hi h
  exact hvalues c u

end Sys2Proof.Machine
end

section
/-! Values out of range (the setting, edit and read commands of every unit): each unit refuses them. -/

namespace Sys2Proof.Machine

variable {s : State}

/-! ## Enumerations -/

theorem axisOf_none {n : Nat} (h : 3 < n) : axisOf n = none := by
  match n, h with
  | _ + 4, _ => rfl

theorem fanOf_none {n : Nat} (h : 2 < n) : fanOf n = none := by
  match n, h with
  | _ + 3, _ => rfl

theorem cornerOf_none {n : Nat} (h : 3 < n) : cornerOf n = none := by
  match n, h with
  | _ + 4, _ => rfl

theorem within_false {a b x : Int} (h : x < a ∨ b < x) : within a b x = false :=
  by simpa using (not_within_iff a b x).2 h

/-! ## Sampling (01) -/

theorem channelIds_none {l : List Nat} (h : ∃ k ∈ l, 9 < k) : channelIds l = none := by
  induction l with
  | nil =>
    obtain ⟨k, hk, -⟩ := h
    cases hk
  | cons n l ih =>
    by_cases hn : n < 10
    · obtain ⟨k, hk, h9⟩ := h
      have hk' : k ∈ l := (List.mem_cons.1 hk).resolve_left fun e => by omega
      simp [channelIds, ih ⟨k, hk', h9⟩]
    · simp [channelIds, hn]

theorem channelIds_length {l : List Nat} {r : List (Fin 10)} (h : channelIds l = some r) : r.length = l.length := by
  induction l generalizing r with
  | nil =>
    cases h
    rfl
  | cons n l ih =>
    unfold channelIds at h
    split at h
    · obtain ⟨q, hq, rfl⟩ := Option.map_eq_some_iff.1 h
      simp [ih hq]
    · cases h

theorem smpSetRound_range {l : List Nat} (h : l = [] ∨ 16 < l.length ∨ ∃ k ∈ l, 9 < k) :
    smpSetRound l s = refuse s .range := by
  unfold smpSetRound
  cases hr : channelIds l with
  | none => rfl
  | some r =>
    have hlen := channelIds_length hr
    have hbad : ¬ roundOk r = true := by
      rw [roundOk, decide_eq_true_iff, hlen]
      rcases h with rfl | h | h
      · simp
      · omega
      · rw [channelIds_none h] at hr
        cases hr
    exact if_neg hbad

theorem smpSetTrigger_range {m n d t : Nat}
    (h : 1 < m ∨ ((n : Int) < 1 ∨ 16 < (n : Int)) ∨ 10000 < d ∨ ((t : Int) < 5 ∨ 1000 < (t : Int))) :
    smpSetTrigger ⟨m, n, d, t⟩ s = refuse s .range := by
  have hbad (k : TrigMode) (hm : ¬ 1 < m) : ¬ TriggerSettings.ok ⟨k, n, d, t⟩ = true := by
    rw [TriggerSettings.ok, decide_eq_true_iff]
    show ¬ (1 ≤ n ∧ n ≤ 16 ∧ d ≤ 10000 ∧ 5 ≤ t ∧ t ≤ 1000)
    omega
  unfold smpSetTrigger triggerSettingsOf
  match m, hbad with
  | 0, hbad => exact if_neg (hbad .sync (by omega))
  | 1, hbad => exact if_neg (hbad .free (by omega))
  | _ + 2, _ => rfl

theorem smpSetTable_range {k : Nat} {l : List Int} (h : 3 < k ∨ ∃ v ∈ l, v < -400 ∨ 1500 < v) :
    smpSetTable ⟨k, l⟩ s = refuse s .range := by
  unfold smpSetTable rowOf
  by_cases hl : l.length = 17
  · simp only [hl, dif_pos]
    refine if_neg fun hok => ?_
    obtain ⟨hk, ht⟩ := hok
    rcases h with h | ⟨v, hv, hout⟩
    · omega
    · have hin := (within_iff _ _ _).1 (List.all_eq_true.1 ht v hv)
      omega
  · simp only [hl, dif_neg, not_false_eq_true]

theorem smpSetChannel_temp_range {c k : Nat} (h : 6 < c ∨ 3 < k) : smpSetChannel (.temp c k) s = refuse s .range := by
  unfold smpSetChannel
  by_cases hk : k < 4
  · exact (dif_pos hk).trans (if_neg (by omega))
  · exact dif_neg hk

theorem smpSetChannel_angle_range {c z k : Nat}
    (h : ((c : Int) < 7 ∨ 9 < (c : Int)) ∨ 4095 < z ∨ ((k : Int) < 1 ∨ 1023 < (k : Int))) :
    smpSetChannel (.angle c z k) s = refuse s .range := by
  unfold smpSetChannel
  by_cases hc : c < 10
  · refine (dif_pos hc).trans ?_
    cases hkind : kindOf ⟨c, hc⟩ with
    | temp t => rfl
    | angle a =>
      have h7 : ¬ c < 7 := fun h7 => by simp [kindOf, h7] at hkind
      refine if_neg fun hok => ?_
      simp only [AngleSettings.ok, Bool.and_eq_true, within_iff] at hok
      omega
  · exact dif_neg hc

/-! ## Attitude and geometry (02, 03) -/

theorem attSetParams_range {d z t r : Int}
    (h : (d < 5 ∨ 100 < d) ∨ (z < -9000 ∨ 9000 < z) ∨ (t < 1000 ∨ 8000 < t) ∨ (r < 100 ∨ 3000 < r)) :
    attSetParams ⟨d, z, t, r⟩ s = refuse s .range :=
  if_neg fun hok => by
    simp only [attSettingsOf, AttSettings.ok, Bool.and_eq_true, within_iff] at hok
    omega

theorem attSetOrientation_range {p : Port} {n : Nat} (h : 2 < n) : attSetOrientation p n s = refuse s .range := by
  match n, h with
  | _ + 3, _ => rfl

theorem geoSetPanel_range {p : Port} {w h : Int} (hout : (w < 1280 ∨ 4096 < w) ∨ (h < 720 ∨ 2400 < h)) :
    geoSetPanel p ⟨w, h⟩ s = refuse s .range :=
  if_neg fun hok => by
    simp only [panelOk, Bool.and_eq_true, within_iff] at hok
    omega

theorem rowOf_some {α : Type} {n : Nat} {l : List α} {v : Vector α n} (h : rowOf n l = some v) : v.toList = l := by
  unfold rowOf at h
  split at h
  · cases h
    rfl
  · cases h

theorem geoSetZoomTable_range {p : Port} {l : List Nat} (h : ∃ k ∈ l, 1023 < k) :
    geoSetZoomTable p l s = refuse s .range := by
  obtain ⟨k, hk, hout⟩ := h
  unfold geoSetZoomTable
  cases hr : rowOf 8 (l.map fun n => (n : Int)) with
  | none => rfl
  | some c =>
    have hmem : (k : Int) ∈ c.toList := by
      rw [rowOf_some hr]
      simpa using hk
    refine if_neg fun hok => ?_
    have hin := (within_iff _ _ _).1 (List.all_eq_true.1 hok (k : Int) hmem)
    omega

theorem geoSetCorner_range {p : Port} {c : Nat} {d : Pt} (h : 3 < c) : geoSetCorner p ⟨c, d⟩ s = refuse s .range := by
  simp only [geoSetCorner, cornerOf_none h]

theorem geoNudgeCorner_range {p : Port} {c : Nat} {d : Pt}
    (h : 3 < c ∨ (d.x < -30720 ∨ 30720 < d.x) ∨ (d.y < -30720 ∨ 30720 < d.y)) :
    geoNudgeCorner p ⟨c, d⟩ s = refuse s .range := by
  unfold geoNudgeCorner
  cases hc : cornerOf c with
  | none => rfl
  | some k =>
    have h3 : ¬ 3 < c := fun h3 => by
      rw [cornerOf_none h3] at hc
      cases hc
    refine if_neg fun hok => ?_
    simp only [Bool.and_eq_true, within_iff] at hok
    omega

theorem twoValued_range {p : Port} {n : Nat} (h : 1 < n) : geoSetMode p n s = refuse s .range
    ∧ geoSetFollow n s = refuse s .range ∧ fwEnable n s = refuse s .range ∧ fanSetQuiet n s = refuse s .range
    ∧ setAutohome n s = refuse s .range ∧ lightCommand n s = refuse s .range := by
  match n, h with
  | _ + 2, _ => exact ⟨rfl, rfl, rfl, rfl, rfl, rfl⟩

/-! ## Vertex edits (04 R58) -/

theorem rangeReply_outside {i j : Nat} (h : 16 < i ∨ 8 < j) : rangeReply i j s = refuse s .range :=
  if_neg (by rw [vertexOk, decide_eq_true_iff]; omega)

theorem editChecks_outside {i j : Nat} {ok : Bool} {e : Option Comps} {edit : State → Answer} (h : 16 < i ∨ 8 < j) :
    editChecks i j ok e edit s = refuse s .range := by
  refine (if_neg ?_).trans (rangeReply_outside h)
  simp only [vertexOk, Bool.and_eq_true, decide_eq_true_iff]
  omega

theorem allComps_nudge {v : Comps} (h : match v with
      | .x d | .y d => d < -4096 ∨ 4096 < d
      | .both d d' => (d < -4096 ∨ 4096 < d) ∨ (d' < -4096 ∨ 4096 < d')) :
    allComps (within (-4096) 4096) v = false := by
  cases v with
  | x d => exact within_false h
  | y d => exact within_false h
  | both d d' =>
    rcases h with h | h
    · simp [allComps, within_false h]
    · simp [allComps, within_false h]

/-! ## Axes and memories (06, 07) -/

theorem axisSetParams_range {a : AxisArgs}
    (h : 3 < a.axis ∨ ((a.travel : Int) < 1000 ∨ 65000 < (a.travel : Int))
      ∨ ((a.startSpeed : Int) < 50 ∨ 5000 < (a.startSpeed : Int))
      ∨ ((a.maxSpeed : Int) < a.startSpeed ∨ 20000 < (a.maxSpeed : Int))
      ∨ ((a.accel : Int) < 500 ∨ 100000 < (a.accel : Int))
      ∨ ((a.homingSpeed : Int) < 50 ∨ (a.startSpeed : Int) < a.homingSpeed)
      ∨ 255 < a.backlash ∨ 1 < a.approach ∨ a.travel < a.indexPos ∨ ((a.indexTol : Int) < 4 ∨ 255 < (a.indexTol : Int))
      ∨ 1000 < a.settle) : axisSetParams a s = refuse s .range := by
  unfold axisSetParams
  cases hx : axisOf a.axis with
  | none => rfl
  | some x =>
    have h3 : ¬ 3 < a.axis := fun h3 => by
      rw [axisOf_none h3] at hx
      cases hx
    unfold axisSettingsOf
    obtain ⟨axis, travel, startSpeed, maxSpeed, accel, homingSpeed, backlash, approach, indexPos, indexTol, settle⟩ := a
    match approach, h with
    | 0, h =>
      refine if_neg fun hok => ?_
      rw [axisOk_iff] at hok
      dsimp only at *
      omega
    | 1, h =>
      refine if_neg fun hok => ?_
      rw [axisOk_iff] at hok
      dsimp only at *
      omega
    | _ + 2, _ => rfl

theorem axisSetJog_range {t : Nat} (h : (t : Int) < 100 ∨ 1000 < (t : Int)) : axisSetJog t s = refuse s .range :=
  if_neg (by rw [jogTimeoutOk, within_false h]; decide)

theorem axisReadParams_range {n : Nat} (h : 3 < n) : axisReadParams n s = refuse s .range := by
  simp only [axisReadParams, axisOf_none h]

/-- A direction of the wrong kind is no direction of its axis (06 R104). -/
theorem jogStep_none {x : Axis} (o : Orientation) {dir : Nat} (h : match x with
      | .shiftH => (dir : Int) < 0 ∨ 1 < (dir : Int)
      | .shiftV => (dir : Int) < 2 ∨ 3 < (dir : Int)
      | .zoom | .focus => (dir : Int) < 4 ∨ 5 < (dir : Int)) : jogStep x o dir = none := by
  have hnone (up down : Nat) (hup : dir ≠ up) (hdown : dir ≠ down) :
      (if dir = up then some StepDir.positive else if dir = down then some .negative else none) = none := by
    rw [if_neg hup, if_neg hdown]
  rw [jogStep_eq]
  cases x <;> cases o <;> exact hnone _ _ (by dsimp only at h; omega) (by dsimp only at h; omega)

theorem jogCommand_range {p : Port} {a : JogArgs}
    (h : 3 < a.axis ∨ ((a.level : Int) < 1 ∨ 4 < (a.level : Int)) ∨ (match a.axis with
      | 0 => (a.dir : Int) < 0 ∨ 1 < (a.dir : Int)
      | 1 => (a.dir : Int) < 2 ∨ 3 < (a.dir : Int)
      | _ => (a.dir : Int) < 4 ∨ 5 < (a.dir : Int))) : jogCommand p a s = refuse s .range := by
  unfold jogCommand
  cases hx : axisOf a.axis with
  | none => rfl
  | some x =>
    dsimp only
    by_cases hlevel : 1 ≤ a.level ∧ a.level ≤ 4
    · have hdir := h.resolve_left (fun h3 => by rw [axisOf_none h3] at hx; cases hx) |>.resolve_left (by omega)
      rw [jogStep_none]
      match n : a.axis, hx, hdir with
      | 0, hx, hdir =>
        cases hx
        exact hdir
      | 1, hx, hdir =>
        cases hx
        exact hdir
      | 2, hx, hdir =>
        cases hx
        exact hdir
      | 3, hx, hdir =>
        cases hx
        exact hdir
    · split
      · rfl
      · exact if_neg hlevel

theorem jogEndCommand_range {p : Port} {n : Nat} (h : 3 < n) : jogEndCommand p n s = refuse s .range := by
  simp only [jogEndCommand, axisOf_none h]

theorem memSetPoweron_range {n : Nat} (h : 9 < n) (h' : n ≠ 255) : memSetPoweron n s = refuse s .range :=
  (dif_neg (by omega)).trans (if_neg h')

theorem memRead_range {n : Nat} (h : 9 < n) : memRead n s = refuse s .range := by
  have hnone : s.set.slots[n]? = none := by simp; omega
  unfold memRead
  rw [hnone]

theorem smpReadChannel_range {n : Nat} (h : 9 < n) : smpReadChannel n s = refuse s .range := by
  have hnone : s.smp.records[n]? = none := by simp; omega
  unfold smpReadChannel
  rw [hnone]

theorem memSave_range {n f : Nat} {l : List Byte}
    (h : 9 < n ∨ 3 < f ∨ (f = 2 ∨ f = 3) ∧ (l = [] ∨ 12 < l.length ∨ ∃ c ∈ l, ((c.toNat : Int) < 32 ∨ 126 < (c.toNat : Int)))) :
    memSave ⟨n, f, l⟩ s = refuse s .range := by
  unfold memSave
  cases hl : labelOf ⟨n, f, l⟩ with
  | none => rfl
  | some label =>
    refine if_pos ?_
    show 10 ≤ n ∨ 4 ≤ f
    by_contra hsmall
    have hlabel : (f = 2 ∨ f = 3) ∧ (l = [] ∨ 12 < l.length ∨ ∃ c ∈ l, ((c.toNat : Int) < 32 ∨ 126 < (c.toNat : Int))) := by
      rcases h with h | h | h
      · exact absurd (.inl (by omega)) hsmall
      · exact absurd (.inr (by omega)) hsmall
      · exact h
    obtain ⟨hf, hbad⟩ := hlabel
    have hbit : f.testBit 1 = true := by rcases hf with rfl | rfl <;> decide
    have hok : labelOk l = true := by
      by_contra hno
      simp [labelOf, hbit, hno] at hl
    obtain ⟨⟨h1, h12⟩, hchars⟩ := labelOk_iff.1 hok
    rcases hbad with rfl | hlong | ⟨c, hc, hout⟩
    · exact absurd h1 (by simp)
    · omega
    · have := hchars c hc
      omega

theorem fcSet_range {e : Nat} {k t l d : Int} (h : 1 < e ∨ (k < -255 ∨ 255 < k) ∨ (t < -400 ∨ 1500 < t)
    ∨ (l < 0 ∨ 2000 < l) ∨ (d < 1 ∨ 255 < d)) : fcSet ⟨e, k, t, l, d⟩ s = refuse s .range := by
  have hbad (b : Bool) (he : ¬ 1 < e) : ¬ FcSettings.ok ⟨b, k, t, l, d⟩ = true := fun hok => by
    rw [fcOk_iff] at hok
    dsimp only at hok
    omega
  unfold fcSet fcSettingsOf
  match e, hbad with
  | 0, hbad => exact if_neg (hbad false (by omega))
  | 1, hbad => exact if_neg (hbad true (by omega))
  | _ + 2, _ => rfl

/-! ## Fans and protection (08, 09) -/

/-- A setting of one fan is refused for an unknown fan, and for values that its check does not pass. -/
theorem fanSetCurve_range {n : Nat} {l : List CurvePoint} (h : 2 < n ∨ curveOk l = false) :
    fanSetCurve ⟨n, l⟩ s = refuse s .range := by
  unfold fanSetCurve
  cases hf : fanOf n with
  | none => rfl
  | some f =>
    rcases h with h | h
    · rw [fanOf_none h] at hf
      cases hf
    · exact if_neg (by simp [h])

theorem fanSetBinding_range {n : Nat} {l : List Nat} (h : 2 < n ∨ l = [] ∨ ¬ l.Nodup ∨ ∃ c ∈ l, 6 < c) :
    fanSetBinding ⟨n, l⟩ s = refuse s .range := by
  unfold fanSetBinding
  cases hf : fanOf n with
  | none => rfl
  | some f =>
    refine if_neg fun hok => ?_
    simp only [bindingOk, Bool.and_eq_true, decide_eq_true_iff, List.all_eq_true] at hok
    obtain ⟨⟨⟨hpos, -⟩, hn⟩, h7⟩ := hok
    rcases h with h | rfl | h | ⟨c, hc, h6⟩
    · rw [fanOf_none h] at hf
      cases hf
    · exact absurd hpos (by simp)
    · exact h hn
    · have := h7 c hc
      omega

theorem fanSetParams_range {n : Nat} {a b c : Int}
    (h : 2 < n ∨ (a < 150 ∨ 600 < a) ∨ (b ≠ 0 ∧ (b < a ∨ 1000 < b)) ∨ (c < 60 ∨ 3000 < c)) :
    fanSetParams ⟨n, a, b, c⟩ s = refuse s .range := by
  unfold fanSetParams
  cases hf : fanOf n with
  | none => rfl
  | some f =>
    have h2 : ¬ 2 < n := fun h2 => by
      rw [fanOf_none h2] at hf
      cases hf
    refine if_neg fun hok => ?_
    rw [fanParamsOk_iff] at hok
    dsimp only at hok
    omega

theorem fanReadSettings_range {n : Nat} (h : 2 < n) : fanReadSettings n s = refuse s .range := by
  simp only [fanReadSettings, fanOf_none h]

theorem fanSetOffsets_range {c : Nat} {a b : Int} (h : 6 < c ∨ (a < -200 ∨ 200 < a) ∨ (b < -200 ∨ 200 < b)) :
    fanSetOffsets ⟨c, a, b⟩ s = refuse s .range :=
  if_neg fun hok => by
    simp only [OrientOffsets.ok, Bool.and_eq_true, within_iff] at hok
    omega

theorem fanSetSlew_range {v : Int} (h : v < 1 ∨ 1000 < v) : fanSetSlew v s = refuse s .range :=
  if_neg (by rw [slewOk, within_false h]; decide)

theorem protSetParams_range {f r g a : Int}
    (h : (f < 200 ∨ 800 < f) ∨ (r < 10 ∨ 1000 < r) ∨ (g < 0 ∨ 255 < g) ∨ (a < 0 ∨ 300 < a)) :
    protSetParams ⟨f, r, g, a⟩ s = refuse s .range :=
  if_neg fun hok => by
    rw [protSettingsOk_iff] at hok
    dsimp only at hok
    omega

theorem protSetThresholds_range {c : Nat} {a b : Int}
    (h : 6 < c ∨ (a < -400 ∨ 1500 < a) ∨ (b < -400 ∨ 1500 < b) ∨ b - a < 50) :
    protSetThresholds ⟨c, a, b⟩ s = refuse s .range :=
  if_neg fun hok => by
    obtain ⟨hc, hok⟩ := hok
    rw [thresholdOk_iff] at hok
    dsimp only at hc hok
    omega

/-- Settles O40, by the check of each unit. -/
theorem ranges : Obligations.Ranges := by
  intro p s no out
  refine ⟨fun hc => ⟨fun l h => ?_, fun m n d t h => ?_, fun k l h => ?_, fun c k h => ?_, fun c z k h => ?_, fun m h => ?_,
      fun d z t r h => ?_, fun w h hout => ?_, fun l h => ?_, fun a h => ?_, fun t h => ?_, fun n h h' => ?_,
      fun e k t l d h => ?_, fun n l h => ?_, fun n l h => ?_, fun n a b c h => ?_, fun c a b h => ?_, fun v h => ?_,
      fun f r g a h => ?_, fun c a b h => ?_, fun n h => ?_⟩,
    fun hc => ⟨fun n h => ?_, fun c d h => ?_, fun c d h => ?_, fun n h => ?_, fun i j v e h => ?_, fun i j v e hi hj h => ?_,
      fun n h => ?_⟩,
    fun hc => ⟨fun a h => ?_, fun n h => ?_, fun m h => ?_, fun n h => ?_, fun n f l h => ?_⟩,
    fun hc => ⟨fun n h => ?_, fun m h => ?_⟩,
    fun hc => ⟨fun i j h => ?_, fun n h => ?_, fun n h => ?_, fun n h => ?_, fun n h => ?_, fun n h => ?_, fun hp => ?_⟩⟩
  · exact command_eq hc (smpSetRound_range h)
  · exact command_eq hc (smpSetTrigger_range h)
  · exact command_eq hc (smpSetTable_range h)
  · exact command_eq hc (smpSetChannel_temp_range h)
  · exact command_eq hc (smpSetChannel_angle_range h)
  · exact command_eq hc (if_neg (by omega))
  · exact command_eq hc (attSetParams_range h)
  · exact command_eq hc (geoSetPanel_range hout)
  · exact command_eq hc (geoSetZoomTable_range h)
  · exact command_eq hc (axisSetParams_range h)
  · exact command_eq hc (axisSetJog_range h)
  · exact command_eq hc (memSetPoweron_range h h')
  · exact command_eq hc (fcSet_range h)
  · exact command_eq hc (fanSetCurve_range h)
  · exact command_eq hc (fanSetBinding_range h)
  · exact command_eq hc (fanSetParams_range h)
  · exact command_eq hc (fanSetOffsets_range h)
  · exact command_eq hc (fanSetSlew_range h)
  · exact command_eq hc (protSetParams_range h)
  · exact command_eq hc (protSetThresholds_range h)
  · obtain ⟨-, -, -, -, hautohome, -⟩ := twoValued_range (s := taken p s) (p := p) h
    exact command_eq hc hautohome
  · exact command_eq hc (attSetOrientation_range h)
  · exact command_eq hc (geoSetCorner_range h)
  · exact command_eq hc (geoNudgeCorner_range h)
  · obtain ⟨hmode, hfollow, henable, -⟩ := twoValued_range (s := taken p s) (p := p) h
    exact ⟨command_eq hc hmode, command_eq hc hfollow, command_eq hc henable⟩
  · exact ⟨command_eq hc (editChecks_outside h), command_eq hc (editChecks_outside h),
      fun k => command_eq hc (editChecks_outside h)⟩
  · have hvalues : allComps (within (-4096) 4096) v = false := allComps_nudge (by cases v <;> exact h)
    refine edit_refused hc ?_
    unfold fwNudge
    dsimp only
    rw [hvalues]
    exact editChecks_values (vertexOk_of_le hi hj)
  · exact command_eq hc (if_neg (by omega))
  · exact command_eq hc (jogCommand_range h)
  · exact command_eq hc (jogEndCommand_range h)
  · exact command_eq hc (if_pos (by simp only [out] at h; omega))
  · exact command_eq hc (if_pos (by omega))
  · exact command_eq hc (memSave_range h)
  · obtain ⟨-, -, -, hquiet, -⟩ := twoValued_range (s := taken p s) (p := p) h
    exact command_eq hc hquiet
  · exact command_eq hc (if_neg (by omega))
  · have hreply : rangeReply i j (taken p s) = refuse (taken p s) .range := rangeReply_outside h
    exact ⟨command_eq hc hreply, command_eq hc hreply, command_eq hc hreply⟩
  · exact ⟨command_eq hc (smpReadChannel_range h), command_eq hc (memRead_range h)⟩
  · exact command_eq hc (if_neg (by omega))
  · exact command_eq hc (axisReadParams_range h)
  · exact command_eq hc (fanReadSettings_range h)
  · exact command_eq hc (if_neg (by omega))
  · subst hp
    refine ⟨fun n h => ?_, fun n h => command_eq (canUse_systemPort hc.1) (if_neg (by omega))⟩
    obtain ⟨-, -, -, -, -, hlight⟩ := twoValued_range (s := taken .a s) (p := .a) h
    exact command_eq (canUse_systemPort hc.1) hlight

end Sys2Proof.Machine
end

section
/-! The load completion up to the examination of the inputs (11 R188). -/

namespace Sys2Proof.Machine

/-! ## The events of both ports together -/

/-- Both event sets hold the kinds, in their order, with the reset cause. -/
def Told (ks : List EventKind) (c : ResetCause) (u : PortUnit) : Prop :=
  ∀ p, u.events.get p = ⟨ks, some c⟩

section
variable {ks : List EventKind} {c : ResetCause} {u v : PortUnit}

theorem Told.of_events (h : Told ks c u) (he : v.events = u.events) : Told ks c v := fun p => by
  rw [he]
  exact h p

theorem changeEvents_events (f : PortUnit → PortUnit) : (u.changeEvents f).events = (f u).events :=
  (judgeNotice_events _ _).1

theorem raise_both_get (k : EventKind) (p : Port) : (u.raise .both k).events.get p = (u.events.get p).add k := by
  unfold PortUnit.raise
  rw [changeEvents_events]
  cases p <;> rfl

theorem raise_port_get (k : EventKind) (p q : Port) :
    (u.raise (.port q) k).events.get p = if p = q then (u.events.get p).add k else u.events.get p := by
  unfold PortUnit.raise
  rw [changeEvents_events]
  cases p <;> cases q <;> rfl

theorem add_pending {e : EventSet} {k : EventKind} (h : k ∈ e.kinds) : e.add k = e :=
  if_pos (List.contains_iff_mem.2 h)

theorem Told.raise_new {k : EventKind} (h : Told ks c u) (hk : k ∉ ks) :
    Told (ks ++ [k]) c (u.raise .both k) := fun p => by
  rw [raise_both_get, h p]
  exact if_neg (by simp [hk])

/-- A kind that is pending at both ports adds nothing. -/
theorem Told.raise_pending {k : EventKind} (h : Told ks c u) (d : Dest) (hk : k ∈ ks) :
    Told ks c (u.raise d k) := fun p => by
  have hadd : (u.events.get p).add k = u.events.get p := add_pending (by rw [h p]; exact hk)
  cases d with
  | both => rw [raise_both_get, hadd, h p]
  | port q => rw [raise_port_get, hadd, ite_self, h p]

theorem told_reset {s : State} (h : ∀ p, (s.port.events.get p).kinds = []) :
    Told [.reset] s.store.cause (raiseReset s).port := fun p => by
  have ha := h .a
  have hb := h .b
  unfold raiseReset
  dsimp only
  rw [changeEvents_events]
  cases p
  · exact congrArg (EventSet.mk · _) (by
      show (s.port.events.a.add .reset).kinds = _
      unfold EventSet.add
      rw [show s.port.events.a.kinds = [] from ha]
      rfl)
  · exact congrArg (EventSet.mk · _) (by
      show (s.port.events.b.add .reset).kinds = _
      unfold EventSet.add
      rw [show s.port.events.b.kinds = [] from hb]
      rfl)

end

/-! ## The settings, RESET and STORE_ERROR -/

/-- The kinds that the load itself raises (11 R181, R183). -/
def loadKinds (r : LoadResult) : List EventKind := [.reset] ++ if r = .loaded then [] else [.storeError]

theorem raiseStoreError_told {s : State} {c : ResetCause} (h : Told [.reset] c s.port) :
    Told (loadKinds s.store.result) c (raiseStoreError s).port := by
  unfold raiseStoreError loadKinds
  cases s.store.result with
  | loaded => exact h
  | defaultsCheck | defaultsRange => exact h.raise_new (by decide)

theorem loaded_told (c : ResetCause) (s : State) :
    let u := resetPart c s
    Told (loadKinds (loadResult u.store.image)) c (loaded u).port := by
  intro u
  exact raiseStoreError_told (s := raiseReset (takeSettings u)) (told_reset (s := takeSettings u) fun p => by
    cases p <;> rfl)

theorem raiseStoreError_eq (s : State) : raiseStoreError s = { s with port := (raiseStoreError s).port } := by
  unfold raiseStoreError
  cases s.store.result <;> rfl

/-- The settings are taken, and the Port Unit has its events. -/
theorem loaded_eq (s : State) : loaded s = { takeSettings s with port := (loaded s).port } :=
  raiseStoreError_eq (raiseReset (takeSettings s))

/-! ## The first composition (03 R52) and the first build (04 R74) -/

/-- The clip watch that a first clamp of a composition latches. -/
def clipOf : Option (Corner × Comp) → ClipWatch
  | none => .clear
  | some k => .corner k.1 k.2

/-- The Geometry Unit after the first composition. -/
def firstGeometry (g : GeoRecord) (c : Candidate) (q : Geometry) : Geometry :=
  if shapeOk g.width g.height c.corners then
    { q with corners := c.corners, clamped := c.clamp.isSome, inset := c.inset, held := false, clip := clipOf c.clamp }
  else { q with held := true, clip := clipOf c.clamp }

/-- The kinds that the first composition raises. -/
def composeKinds (g : GeoRecord) (c : Candidate) : List EventKind :=
  (if c.clamp.isSome then [.clip] else []) ++ if shapeOk g.width g.height c.corners then [] else [.geometryRefused]

/-- A build from reset: the engine computes into bank A. -/
def firstBuild (s : State) : State :=
  { s with
    pres := { s.pres with banks := s.pres.banks.setState .a .writing },
    eng := { s.eng with state := .computing .a (snapshotOf s) } }

section
variable {s : State}

theorem rebuild_first (he : s.eng = Engine.reset) (hb : s.pres.banks = Presentation.reset.banks) :
    rebuild false s = firstBuild s := by
  have hbank : buildBank s.pres.banks = some .a := by
    rw [hb]
    rfl
  have hidle : rebuild false s = startComputation s := by
    unfold rebuild
    dsimp only
    rw [if_neg (by decide), he]
    exact if_neg (by decide)
  rw [hidle, startComputation_eq hbank, if_neg (by rw [hb]; decide)]
  rfl

theorem reportCornerClip_clear (c : Candidate) (d : Dest) (h : s.geo.clip = .clear) : reportCornerClip c d s =
    { s with
      geo := { s.geo with clip := clipOf c.clamp }
      port := if c.clamp.isSome then s.port.raise d .clip else s.port } := by
  unfold reportCornerClip
  cases c.clamp with
  | none =>
    have hgeo : { s.geo with clip := clipOf none } = s.geo := congrArg (fun w => { s.geo with clip := w }) h.symm
    rw [hgeo]
    rfl
  | some k =>
    dsimp only
    unfold reportClip
    rw [h]
    rfl

/-- The first composition, from a clear clip watch and the engine and the banks at reset: the state it leaves, but for
the Port Unit, and the events it raises. -/
theorem firstComposition_first (hclip : s.geo.clip = .clear) (hatt : s.att.refused = none) (he : s.eng = Engine.reset)
    (hb : s.pres.banks = Presentation.reset.banks) {ks : List EventKind} {c : ResetCause} (ht : Told ks c s.port)
    (hnew : .clip ∉ ks ∧ .geometryRefused ∉ ks) :
    let a := candidate s.set.geo s
    ∃ q, firstComposition s = firstBuild { s with geo := firstGeometry s.set.geo a s.geo, port := q }
      ∧ Told (ks ++ composeKinds s.set.geo a) c q := by
  intro a
  obtain ⟨hnewclip, hnewgeo⟩ := hnew
  let p := if a.clamp.isSome then s.port.raise .both .clip else s.port
  have hreport : reportCornerClip a .both s = { s with geo := { s.geo with clip := clipOf a.clamp }, port := p } :=
    reportCornerClip_clear a .both hclip
  have hp : Told (ks ++ if a.clamp.isSome then [.clip] else []) c p := by
    by_cases hc : a.clamp.isSome
    · simp only [p, if_pos hc]
      exact ht.raise_new hnewclip
    · simp only [p, if_neg hc, List.append_nil]
      exact ht
  unfold composeKinds
  rw [← List.append_assoc]
  by_cases hok : shapeOk s.set.geo.width s.set.geo.height a.corners = true
  · refine ⟨p, ?_, by rw [if_pos hok, List.append_nil]; exact hp⟩
    have hrefused : { s.att with refused := none } = s.att := congrArg (fun r => { s.att with refused := r }) hatt.symm
    have hcompose : compose s.set.geo .both s = (acceptComposition s.set.geo a (reportCornerClip a .both s), true) :=
      if_pos hok
    unfold firstComposition
    rw [hcompose, hreport]
    rw [firstGeometry, if_pos hok]
    refine (rebuild_first (s := { s with
      geo := { s.geo with
        corners := a.corners, clamped := a.clamp.isSome, inset := a.inset, held := false, clip := clipOf a.clamp },
      att := { s.att with refused := none }, port := p }) he hb).trans ?_
    rw [hrefused]
  · refine ⟨p.raise .both .geometryRefused, ?_, ?_⟩
    · have hcompose : compose s.set.geo .both s = (reportCornerClip a .both s, false) := if_neg hok
      unfold firstComposition
      rw [hcompose, hreport, firstGeometry, if_neg hok]
      exact rebuild_first he hb
    · rw [if_neg hok]
      refine hp.raise_new ?_
      split <;> simp [hnewgeo]

end

/-! ## The inputs at the load completion (06 R111, 09 R166) -/

section
variable {s : State} {ks : List EventKind} {c : ResetCause}

/-- The axes after the look at MDFLT. -/
def axesAtMdflt (active : Bool) (v : PerAxis AxisRec) : PerAxis AxisRec :=
  if active then v.map fun _ r => { haltAxis .fault r with reason := .driver } else v

theorem examineMdflt_nil (hq : s.mq.requests = []) (ht : Told ks c s.port) (hnew : .motionFault ∉ ks) :
    ∃ q, examineMdflt s = { s with axes := axesAtMdflt s.inputs.mdflt.level s.axes, port := q }
      ∧ Told (ks ++ if s.inputs.mdflt.level then [.motionFault] else []) c q := by
  unfold examineMdflt axesAtMdflt
  cases s.inputs.mdflt.level with
  | true => exact ⟨_, driverFault_nil hq, ht.raise_new hnew⟩
  | false => exact ⟨s.port, rfl, by simpa using ht⟩

/-- The Protection Unit after the look at TCO and DRVFLT. -/
def protAtFaults (tco drvflt : Bool) (afterrun : Int) (q : Protection) : Protection :=
  if tco then latchedProt .tco afterrun q else if drvflt then latchedProt .drvflt afterrun q else q

theorem latchTrip_first (k : TripCause) (htrip : s.prot.trip = none) (hallow : s.prot.allowance ≠ 1000)
    (ht : Told ks c s.port) (hnew : .thermalTrip ∉ ks) :
    ∃ q, latchTrip k s = { s with prot := latchedProt k s.set.prot.afterrun s.prot, port := q }
      ∧ Told (ks ++ [.thermalTrip]) c q := by
  refine ⟨_, latchTrip_clear k htrip, ?_⟩
  rw [warnedFrom, if_neg fun h => hallow h.1]
  exact ht.raise_new hnew

theorem examineFaults_first (htrip : s.prot.trip = none) (hallow : s.prot.allowance ≠ 1000)
    (ht : Told ks c s.port) (hnew : .thermalTrip ∉ ks) :
    ∃ q, examineFaults s = { s with
        prot := protAtFaults s.inputs.tco.level s.inputs.drvflt.level s.set.prot.afterrun s.prot, port := q }
      ∧ Told (ks ++ if s.inputs.tco.level || s.inputs.drvflt.level then [.thermalTrip] else []) c q := by
  have hsplit : examineFaults s = if (if s.inputs.tco.level then latchTrip .tco s else s).inputs.drvflt.level then
      latchTrip .drvflt (if s.inputs.tco.level then latchTrip .tco s else s)
      else if s.inputs.tco.level then latchTrip .tco s else s := rfl
  rw [hsplit, protAtFaults]
  cases htco : s.inputs.tco.level with
  | true =>
    obtain ⟨q, hl, hq⟩ := latchTrip_first .tco htrip hallow ht hnew
    refine ⟨q, ?_, hq⟩
    rw [if_pos rfl, if_pos rfl, hl, latchTrip_latched .drvflt (by simp [latchedProt]), ite_self]
  | false =>
    rw [if_neg Bool.false_ne_true, if_neg Bool.false_ne_true]
    cases hdrv : s.inputs.drvflt.level with
    | true =>
      obtain ⟨q, hl, hq⟩ := latchTrip_first .drvflt htrip hallow ht hnew
      exact ⟨q, (if_pos rfl).trans (hl.trans (by rw [if_pos rfl])), hq⟩
    | false => exact ⟨s.port, rfl, by simpa using ht⟩

end

end Sys2Proof.Machine
end

section
/-! The start-up requests (11 R189). -/

namespace Sys2Proof.Machine

/-- The HOME request of the load completion. -/
def startHome (n : Nat) : Request := { startRequest .home 0 with serial := n }

/-- The RECALL request of the load completion, if a power-on slot is named. -/
def startRecall (n : Nat) : Option (Fin 10) → List Request
  | none => []
  | some k => [{ startRequest .recall k.val with serial := n + 1 }]

/-- The start-up requests in the queue. -/
def startQueued (s : State) : State :=
  let l := startRecall s.mq.nextSerial s.set.powerOn
  { s with mq := { s.mq with
      requests := startHome s.mq.nextSerial :: l, nextSerial := s.mq.nextSerial + 1 + l.length } }

section
variable {s : State} {r : Request} {l : List Request} {ks : List EventKind} {c : ResetCause}

theorem startRequests_off (h : s.set.autoHome = false) : startRequests s = s := if_neg (by simp [h])

theorem startRequests_on (h : s.set.autoHome = true) (hq : s.mq.requests = []) :
    startRequests s = dispatchPass ((startRecall s.mq.nextSerial s.set.powerOn).length + 1) (startQueued s) := by
  have hhome : joinQueue (startRequest .home 0) s = { s with mq := { s.mq with
      requests := [startHome s.mq.nextSerial], nextSerial := s.mq.nextSerial + 1 } } := by
    unfold joinQueue
    rw [hq]
    rfl
  unfold startRequests startQueued startRecall
  rw [if_pos h, hhome]
  dsimp only
  cases s.set.powerOn <;> rfl

theorem startRecall_serials (n : Nat) (o : Option (Fin 10)) : ∀ q ∈ startRecall n o, q.serial ≠ n := by
  intro q hq
  cases o with
  | none => cases hq
  | some k =>
    rw [List.mem_singleton.1 hq]
    exact Nat.succ_ne_self n

/-! ## The dispatch test with every axis free, or none -/

theorem nextDispatch_first (hd : r.dispatched = false) (hfree : ∀ x, freeAxis s x = true) :
    nextDispatch s (r :: l) (PerAxis.const false) = some r := by
  have hnone (x : Axis) : (PerAxis.const false).get x = false := by cases x <;> rfl
  unfold nextDispatch
  rw [if_neg (by simp [hd])]
  exact if_pos (List.all_eq_true.2 fun x _ => by simp [hfree x, hnone x])

theorem nextDispatch_none (h : ∀ q ∈ l, q.dispatched = true ∨ ∃ x, q.axes.get x = true ∧ freeAxis s x = false) :
    ∀ older, nextDispatch s l older = none := by
  induction l with
  | nil => exact fun _ => rfl
  | cons q l ih =>
    intro older
    have hl := ih fun q hq => h q (List.mem_cons_of_mem _ hq)
    unfold nextDispatch
    split
    · exact hl older
    · rcases h q List.mem_cons_self with hd | ⟨x, hx, hfree⟩
      · contradiction
      · rw [if_neg fun hall => ?_]
        · exact hl _
        · have := List.all_eq_true.1 hall x (mem_allAxes x)
          simp [Request.names, hx, hfree] at this

theorem dispatchPass_next {n : Nat} (h : nextDispatch s s.mq.requests (PerAxis.const false) = some r) :
    dispatchPass (n + 1) s = dispatchPass n (dispatch r s) := by
  rw [dispatchPass, h]

theorem dispatchPass_still {n : Nat} (h : nextDispatch s s.mq.requests (PerAxis.const false) = none) :
    dispatchPass n s = s := by
  cases n with
  | zero => rfl
  | succ n => rw [dispatchPass, h]

/-! ## With MDFLT inactive HOME starts and the RECALL waits -/

/-- s with HOME running on all four axes. -/
def homingStarted (s : State) : State :=
  { s with
    axes := s.axes.map fun x a => startHoming (s.inputs.home.get x).level { a with running := some s.mq.nextSerial },
    mq := { (startQueued s).mq with
      requests := startedRecord s (startHome s.mq.nextSerial) :: startRecall s.mq.nextSerial s.set.powerOn } }

theorem const_get (x : Axis) : (PerAxis.const true).get x = true := by cases x <;> rfl

theorem startRequests_homing (h : s.set.autoHome = true) (hq : s.mq.requests = []) (hm : s.inputs.mdflt.level = false)
    (hfree : ∀ x, freeAxis s x = true) : startRequests s = homingStarted s := by
  have hstart : dispatch (startHome s.mq.nextSerial) (startQueued s) = homingStarted s := by
    refine (dispatch_home_starts (s := startQueued s) (r := startHome s.mq.nextSerial) (l := []) rfl
      (startRecall_serials _ _) rfl hm ⟨.zoom, rfl⟩).trans ?_
    have haxes : (s.axes.map fun x a => if (startHome s.mq.nextSerial).axes.get x then
        startHoming (s.inputs.home.get x).level { a with running := some s.mq.nextSerial } else a) =
        (homingStarted s).axes := PerAxis.ext_get fun x => by
      simp only [homingStarted, PerAxis.get_map]
      exact if_pos (const_get x)
    exact congrArg (fun v => { homingStarted s with axes := v }) haxes
  rw [startRequests_on h hq,
    dispatchPass_next (r := startHome s.mq.nextSerial) (nextDispatch_first (s := startQueued s) rfl hfree), hstart]
  refine dispatchPass_still (nextDispatch_none (fun q hq => ?_) _)
  rcases List.mem_cons.1 hq with rfl | hq
  · exact .inl rfl
  · refine .inr ⟨.zoom, ?_, rfl⟩
    cases hp : s.set.powerOn with
    | none =>
      rw [hp] at hq
      cases hq
    | some k =>
      rw [hp] at hq
      rw [List.mem_singleton.1 hq]
      rfl

/-! ## With MDFLT active both end FAULT -/

/-- Every axis is in FAULT and held by no request. -/
def AllFaulted (s : State) : Prop := ∀ x, (s.axes.get x).state = .fault ∧ (s.axes.get x).running = none

theorem AllFaulted.free (h : AllFaulted s) (x : Axis) : freeAxis s x = true := by
  obtain ⟨hstate, hrun⟩ := h x
  unfold freeAxis
  rw [hstate, hrun]
  rfl

theorem AllFaulted.released (h : AllFaulted s) (k : Nat) : releaseAxes k (freeAxes r s.axes) = s.axes :=
  PerAxis.ext_get fun x => by
    obtain ⟨-, hrun⟩ := h x
    have hfree : (if r.axes.get x = true then { s.axes.get x with running := none } else s.axes.get x) = s.axes.get x := by
      split
      · exact congrArg (fun o => { s.axes.get x with running := o }) hrun.symm
      · rfl
    simp only [releaseAxes, freeAxes, PerAxis.get_map, hfree]
    exact if_neg (by simp [hrun])

/-- A start-up request ends FAULT, its event pending already. -/
theorem dispatch_start_fault (hr : s.mq.requests = r :: l) (hl : ∀ q ∈ l, q.serial ≠ r.serial)
    (hk : r.kind = .home ∨ r.kind = .recall) (hsource : r.source = .start) (hall : r.axes = PerAxis.const true)
    (hm : s.inputs.mdflt.level = true) (hax : AllFaulted s) (ht : Told ks c s.port) (hks : .motionFault ∈ ks) :
    ∃ q, dispatch r s = { s with
        mq := { s.mq with
          requests := l, outcomes := { s.mq.outcomes with a := pushWindow 4 s.mq.outcomes.a ⟨r.tag, r.kind, .fault⟩ } },
        port := q } ∧ Told ks c q := by
  have hnames (x : Axis) : r.axes.get x = true := by rw [hall]; exact const_get x
  have halone : ∀ x, r.axes.get x = false → (s.axes.get x).running ≠ some r.serial := fun x hx =>
    absurd ((hnames x).symm.trans hx) (by decide)
  have hended : dispatch r s = ended (startedRecord s r) .fault { s with axes := freeAxes r s.axes } := by
    rcases hk with hk | hk
    · exact dispatch_home_fault (l := []) hr hl hk hm halone fun x _ => by rw [(hax x).1]; rfl
    · refine dispatch_notIdle (l := []) hr hl (by rw [hk]; decide) (fun h => ?_) halone
      exact absurd ((hax .zoom).1.symm.trans (h .zoom (hnames .zoom))) (by decide)
  have hfilter : (s.mq.requests.filter fun q => decide (q.serial ≠ r.serial)) = l := by
    rw [hr, List.filter_cons_of_neg (by simp)]
    exact List.filter_eq_self.2 fun q hq => decide_eq_true (hl q hq)
  have hstep : ended (startedRecord s r) .fault { s with axes := freeAxes r s.axes } = { s with
      axes := releaseAxes r.serial (freeAxes r s.axes),
      mq := { s.mq with
        requests := s.mq.requests.filter fun q => decide (q.serial ≠ r.serial),
        outcomes := { s.mq.outcomes with a := pushWindow 4 s.mq.outcomes.a ⟨r.tag, r.kind, .fault⟩ } },
      port := s.port.raise .both .motionFault } := by
    unfold ended startedRecord
    dsimp only
    rw [hsource]
    rcases hk with hk | hk <;> rw [hk] <;> rfl
  exact ⟨_, by rw [hended, hstep, hax.released, hfilter], ht.raise_pending .both hks⟩

/-- The outcomes of the start-up requests under MDFLT. -/
def faultOutcomes (o : Option (Fin 10)) : List OutcomeEntry :=
  [⟨none, .home, .fault⟩] ++ if o = none then [] else [⟨none, .recall, .fault⟩]

theorem startRequests_fault (h : s.set.autoHome = true) (hq : s.mq.requests = []) (ho : s.mq.outcomes.a = [])
    (hm : s.inputs.mdflt.level = true) (hax : AllFaulted s) (ht : Told ks c s.port) (hks : .motionFault ∈ ks) :
    ∃ n q, startRequests s = { s with
        mq := ⟨[], { s.mq.outcomes with a := faultOutcomes s.set.powerOn }, n⟩, port := q } ∧ Told ks c q := by
  have hserial := startRecall_serials s.mq.nextSerial s.set.powerOn
  obtain ⟨q, hhome, hqt⟩ := dispatch_start_fault (s := startQueued s) (r := startHome s.mq.nextSerial) rfl hserial
    (.inl rfl) rfl rfl hm hax ht hks
  rw [startRequests_on h hq,
    dispatchPass_next (r := startHome s.mq.nextSerial) (nextDispatch_first (s := startQueued s) rfl hax.free), hhome]
  have hentry : pushWindow 4 s.mq.outcomes.a ⟨none, .home, .fault⟩ = [⟨none, .home, .fault⟩] := by
    rw [ho]
    rfl
  cases hp : s.set.powerOn with
  | none =>
    refine ⟨(startQueued s).mq.nextSerial, q, ?_, hqt⟩
    unfold startQueued
    rw [hp]
    exact congrArg (fun w => { s with mq := ⟨[], { s.mq.outcomes with a := w }, s.mq.nextSerial + 1⟩, port := q }) hentry
  | some k =>
    let r : Request := { startRequest .recall k.val with serial := s.mq.nextSerial + 1 }
    let t : State := { s with
      mq := ⟨[r], { s.mq.outcomes with a := [⟨none, .home, .fault⟩] }, (startQueued s).mq.nextSerial⟩, port := q }
    obtain ⟨q', hrecall, hqt'⟩ := dispatch_start_fault (s := t) (r := r) rfl (by simp) (.inr rfl) rfl rfl hm hax hqt hks
    refine ⟨(startQueued s).mq.nextSerial, q', ?_, hqt'⟩
    have ht' : { startQueued s with
        mq := { (startQueued s).mq with
          requests := startRecall s.mq.nextSerial (some k),
          outcomes := { s.mq.outcomes with a := pushWindow 4 s.mq.outcomes.a ⟨none, .home, .fault⟩ } },
        port := q } = t := by
      rw [hentry]
      rfl
    refine (congrArg (dispatchPass 1) ht').trans ?_
    rw [dispatchPass_next (r := r) (nextDispatch_first (s := t) rfl hax.free), hrecall]
    rfl

end

end Sys2Proof.Machine
end

section
/-! The state that the load completion leaves (11 R188). -/

namespace Sys2Proof.Machine

/-! ## The units before the start-up requests -/

/-- The candidate of the first composition. -/
def firstCandidate (w : State) : Candidate := candidate w.set.geo w

/-- w, whose settings have been taken, with every unit started, and q as its Port Unit. -/
def unitsStarted (w : State) (q : PortUnit) : State :=
  { firstBuild { w with geo := firstGeometry w.set.geo (firstCandidate w) w.geo } with
    fan := { w.fan with fans := w.fan.fans.map fun _ => spinUp, running := true },
    axes := axesAtMdflt w.inputs.mdflt.level w.axes,
    prot := protAtFaults w.inputs.tco.level w.inputs.drvflt.level w.set.prot.afterrun
      { w.prot with allowance := w.set.prot.floor, running := true },
    port := q }

/-- The kinds that the load completion raises, in the order of 11 R188. -/
def startKinds (w : State) : List EventKind :=
  loadKinds w.store.result ++ composeKinds w.set.geo (firstCandidate w)
    ++ (if w.inputs.mdflt.level then [.motionFault] else [])
    ++ if w.inputs.tco.level || w.inputs.drvflt.level then [.thermalTrip] else []

theorem mem_loadKinds {k : EventKind} {r : LoadResult} (h : k ∈ loadKinds r) : k = .reset ∨ k = .storeError := by
  rcases List.mem_append.1 h with h | h
  · exact .inl (List.mem_singleton.1 h)
  · split at h
    · cases h
    · exact .inr (List.mem_singleton.1 h)

theorem mem_composeKinds {k : EventKind} {g : GeoRecord} {a : Candidate} (h : k ∈ composeKinds g a) :
    k = .clip ∨ k = .geometryRefused := by
  rcases List.mem_append.1 h with h | h
  · split at h
    · exact .inl (List.mem_singleton.1 h)
    · cases h
  · split at h
    · cases h
    · exact .inr (List.mem_singleton.1 h)

section
variable (c : ResetCause) (s : State)

theorem startUp_units :
    let w := takeSettings (resetPart c s)
    ∃ q, startUp (resetPart c s) = startRequests (unitsStarted w q) ∧ Told (startKinds w) c q := by
  intro w
  have hfloor : w.set.prot.floor ≠ 1000 := fun h => by
    obtain ⟨-, hhigh⟩ := floor_range (takeSettings_sound (resetPart c s)).prot
    exact absurd (h ▸ hhigh : (1000 : Int) ≤ 800) (by decide)
  let p : PortUnit := (loaded (resetPart c s)).port
  let u₁ : State := { w with
    fan := { w.fan with fans := w.fan.fans.map fun _ => spinUp, running := true },
    prot := { w.prot with allowance := w.set.prot.floor, running := true }, port := p }
  have h₁ : startProtection (startFans (loaded (resetPart c s))) = u₁ := by
    rw [loaded_eq]
    rfl
  have hp : Told (loadKinds w.store.result) c p := loaded_told c s
  obtain ⟨q₂, h₂, hq₂⟩ := firstComposition_first (s := u₁) rfl rfl rfl rfl hp
    ⟨fun h => by have := mem_loadKinds h; simp at this, fun h => by have := mem_loadKinds h; simp at this⟩
  let u₂ : State := firstBuild { u₁ with geo := firstGeometry w.set.geo (firstCandidate w) w.geo, port := q₂ }
  obtain ⟨q₃, h₃, hq₃⟩ := examineMdflt_nil (s := u₂) rfl hq₂ (fun h => by
    rcases List.mem_append.1 h with h | h
    · have := mem_loadKinds h
      simp at this
    · have := mem_composeKinds h
      simp at this)
  let u₃ : State := { u₂ with axes := axesAtMdflt w.inputs.mdflt.level w.axes, port := q₃ }
  obtain ⟨q₄, h₄, hq₄⟩ := examineFaults_first (s := u₃) rfl hfloor hq₃ (fun h => by
    rcases List.mem_append.1 h with h | h
    · rcases List.mem_append.1 h with h | h
      · have := mem_loadKinds h
        simp at this
      · have := mem_composeKinds h
        simp at this
    · split at h <;> simp at h)
  refine ⟨q₄, ?_, hq₄⟩
  rw [startUp_eq, h₁, h₂]
  exact congrArg startRequests ((congrArg examineFaults h₃).trans h₄)

/-! ## The axes and the queue -/

/-- The axes and the queue after the load completion (06 R111, 11 R189). -/
structure StartMotion (g : Settings) (mdflt : Bool) (v : PerAxis AxisRec) (m : Queue) : Prop where
  faulted : mdflt = true → ∀ x, (v.get x).state = .fault ∧ (v.get x).reason = .driver
  homing : mdflt = false → g.autoHome = true → ∀ x, (v.get x).state = .homing
  unhomed : mdflt = false → g.autoHome = false → ∀ x, (v.get x).state = .unhomed
  nothing : g.autoHome = false → m.requests = [] ∧ m.outcomes.a = [] ∧ m.outcomes.b = []
  running : g.autoHome = true → mdflt = false → ∃ n q, m.requests = q :: startRecall n g.powerOn
    ∧ q.source = .start ∧ q.kind = .home ∧ q.axes = PerAxis.const true ∧ q.tag = none ∧ q.dispatched = true
    ∧ ∀ x, (v.get x).running = some q.serial
  ended : g.autoHome = true → mdflt = true → m.requests = [] ∧ m.outcomes.b = [] ∧ m.outcomes.a = faultOutcomes g.powerOn

theorem resetAxes_get (x : Axis) : (resetPart c s).axes.get x = AxisRec.reset := axes_reset x

theorem axesAtMdflt_active {v : PerAxis AxisRec} (x : Axis) :
    (axesAtMdflt true v).get x = { haltAxis .fault (v.get x) with reason := .driver } := PerAxis.get_map _ _ _

/-- The load completion of a reset: every unit started, the start-up requests dispatched, every event raised. -/
theorem startUp_state :
    let w := takeSettings (resetPart c s)
    ∃ v m q, startUp (resetPart c s) = { unitsStarted w q with axes := v, mq := m } ∧ Told (startKinds w) c q
      ∧ StartMotion w.set w.inputs.mdflt.level v m := by
  intro w
  obtain ⟨q, hstart, hq⟩ := startUp_units c s
  rw [hstart]
  have haxes (x : Axis) : w.axes.get x = AxisRec.reset := resetAxes_get c s x
  cases hauto : w.set.autoHome with
  | false =>
    refine ⟨_, _, q, startRequests_off hauto, hq, ?_⟩
    refine ⟨fun hm x => ?_, fun _ h => absurd (hauto.symm.trans h) (by decide), fun hm _ x => ?_,
      fun _ => ⟨rfl, rfl, rfl⟩, fun h => absurd (hauto.symm.trans h) (by decide),
      fun h => absurd (hauto.symm.trans h) (by decide)⟩
    · show ((axesAtMdflt w.inputs.mdflt.level w.axes).get x).state = _
        ∧ ((axesAtMdflt w.inputs.mdflt.level w.axes).get x).reason = _
      rw [hm, axesAtMdflt_active]
      exact ⟨rfl, rfl⟩
    · show ((axesAtMdflt w.inputs.mdflt.level w.axes).get x).state = _
      rw [hm]
      exact congrArg AxisRec.state (haxes x)
  | true =>
    cases hm : w.inputs.mdflt.level with
    | false =>
      have hget (x : Axis) : (unitsStarted w q).axes.get x = AxisRec.reset := by
        show (axesAtMdflt w.inputs.mdflt.level w.axes).get x = _
        rw [hm]
        exact haxes x
      have hfree (x : Axis) : freeAxis (unitsStarted w q) x = true := by
        unfold freeAxis
        rw [hget x]
        rfl
      have hhome := startRequests_homing (s := unitsStarted w q) hauto rfl hm hfree
      refine ⟨_, _, q, hhome, hq, ?_⟩
      have hhoming (x : Axis) : (homingStarted (unitsStarted w q)).axes.get x =
          startHoming (w.inputs.home.get x).level { (unitsStarted w q).axes.get x with running := some w.mq.nextSerial } :=
        PerAxis.get_map _ _ _
      refine ⟨fun h => absurd h (by decide), fun _ _ x => congrArg AxisRec.state (hhoming x),
        fun _ h => absurd (hauto.symm.trans h) (by decide), fun h => absurd (hauto.symm.trans h) (by decide),
        fun _ _ => ?_, fun _ h => absurd h (by decide)⟩
      exact ⟨w.mq.nextSerial, startedRecord (unitsStarted w q) (startHome w.mq.nextSerial), rfl, rfl, rfl, rfl, rfl, rfl,
        fun x => congrArg AxisRec.running (hhoming x)⟩
    | true =>
      have hget (x : Axis) : (unitsStarted w q).axes.get x = { haltAxis .fault (w.axes.get x) with reason := .driver } := by
        show (axesAtMdflt w.inputs.mdflt.level w.axes).get x = _
        rw [hm, axesAtMdflt_active]
      have hfault : AllFaulted (unitsStarted w q) := fun x => by
        rw [hget x, haxes x]
        exact ⟨rfl, rfl⟩
      have hks : .motionFault ∈ startKinds w := by
        unfold startKinds
        rw [hm]
        simp
      obtain ⟨n, q', hend, hq'⟩ := startRequests_fault (s := unitsStarted w q) hauto rfl rfl hm hfault hq hks
      refine ⟨_, _, q', hend, hq', ?_⟩
      refine ⟨fun _ x => ?_, fun h => absurd h (by decide), fun h => absurd h (by decide),
        fun h => absurd (hauto.symm.trans h) (by decide), fun _ h => absurd h (by decide), fun _ _ => ⟨rfl, rfl, rfl⟩⟩
      exact ⟨congrArg AxisRec.state (hget x), congrArg AxisRec.reason (hget x)⟩

end

end Sys2Proof.Machine
end

section
/-! Sound images, the defaults, and the load completion (11 R182, R183, R188). -/

namespace Sys2Proof.Machine

/-! ## The ranges of a sound image (11 R182) -/

theorem roundOk_iff (l : List (Fin 10)) : roundOk l = true ↔ 1 ≤ (l.length : Int) ∧ (l.length : Int) ≤ 16 := by
  simp only [roundOk, decide_eq_true_iff]
  omega

theorem triggerOk_iff (t : TriggerSettings) : t.ok = true ↔
    (1 ≤ (t.divider : Int) ∧ (t.divider : Int) ≤ 16) ∧ t.delay ≤ 10000 ∧ 5 ≤ (t.period : Int) ∧ (t.period : Int) ≤ 1000 := by
  simp only [TriggerSettings.ok, decide_eq_true_iff]
  omega

theorem tablesOk_iff (v : Vector (Vector Int 17) 4) : v.toList.all tableOk = true ↔
    ∀ t ∈ v.toList, ∀ x ∈ t.toList, -400 ≤ x ∧ x ≤ 1500 := by
  simp only [List.all_eq_true, tableOk, tempOk, within_iff]

theorem angleSettingsOk_iff (g : AngleSettings) : g.ok = true ↔
    (0 ≤ (g.zeroCode : Int) ∧ (g.zeroCode : Int) ≤ 4095) ∧ 1 ≤ (g.scale : Int) ∧ (g.scale : Int) ≤ 1023 := by
  simp only [AngleSettings.ok, Bool.and_eq_true, within_iff]

theorem attSettingsOk_iff (g : AttSettings) : g.ok = true ↔
    (5 ≤ g.deadband ∧ g.deadband ≤ 100) ∧ (-9000 ≤ g.vertZero ∧ g.vertZero ≤ 9000)
      ∧ (1000 ≤ g.threshold ∧ g.threshold ≤ 8000) ∧ 100 ≤ g.rollLimit ∧ g.rollLimit ≤ 3000 := by
  simp only [AttSettings.ok, Bool.and_eq_true, within_iff, and_assoc]

theorem offsetsOk_iff (o : PerCorner Pt) : o.all offsetOk = true ↔ ∀ d ∈ [o.tl, o.tr, o.bl, o.br],
    (-15360 ≤ d.x ∧ d.x ≤ 15360) ∧ -15360 ≤ d.y ∧ d.y ≤ 15360 := by
  simp only [PerCorner.all, offsetOk, Bool.and_eq_true, within_iff, List.forall_mem_cons, List.not_mem_nil,
    false_imp_iff, implies_true, and_true, and_assoc]

theorem geoRanges_iff (g : GeoRecord) : g.ok = true ↔
    (1280 ≤ g.width ∧ g.width ≤ 4096) ∧ (720 ≤ g.height ∧ g.height ≤ 2400) ∧ (0 ≤ g.fineLimit ∧ g.fineLimit ≤ 2048)
      ∧ (∀ d ∈ [g.offsets.tl, g.offsets.tr, g.offsets.bl, g.offsets.br],
        (-15360 ≤ d.x ∧ d.x ≤ 15360) ∧ -15360 ≤ d.y ∧ d.y ≤ 15360)
      ∧ ∀ v ∈ g.coeff.toList, 0 ≤ v ∧ v ≤ 1023 := by
  rw [geoOk_iff, offsetsOk_iff]
  simp only [panelOk, coeffOk, Bool.and_eq_true, within_iff, List.all_eq_true]
  tauto

theorem layerRanges_iff (n : Int) (l : FineLayer) : layerOk n l = true ↔
    ∀ d ∈ l.toList, (-n ≤ d.x ∧ d.x ≤ n) ∧ -n ≤ d.y ∧ d.y ≤ n := by
  simp only [layerOk, List.all_eq_true, Bool.and_eq_true, within_iff]

theorem slotOk_iff (q : SlotRec) : q.ok = true ↔
    (∀ l, q.label = some l → (1 ≤ (l.length : Int) ∧ (l.length : Int) ≤ 12)
      ∧ ∀ c ∈ l, 32 ≤ (c.toNat : Int) ∧ (c.toNat : Int) ≤ 126)
    ∧ ∀ o, q.offsets = some o → ∀ d ∈ [o.tl, o.tr, o.bl, o.br],
      (-15360 ≤ d.x ∧ d.x ≤ 15360) ∧ -15360 ≤ d.y ∧ d.y ≤ 15360 := by
  have hlabel (l : List Byte) : labelOk l = true ↔ (1 ≤ (l.length : Int) ∧ (l.length : Int) ≤ 12)
      ∧ ∀ c ∈ l, 32 ≤ (c.toNat : Int) ∧ (c.toNat : Int) ≤ 126 :=
    labelOk_iff.trans (and_congr (by omega) (forall₂_congr fun c _ => by omega))
  unfold SlotRec.ok
  rw [Bool.and_eq_true]
  refine and_congr ?_ ?_
  · cases q.label with
    | none => exact iff_of_true rfl fun _ h => by cases h
    | some l => exact (hlabel l).trans ⟨fun h k hk => Option.some.inj hk ▸ h, fun h => h l rfl⟩
  · cases q.offsets with
    | none => exact iff_of_true rfl fun _ h => by cases h
    | some o => exact (offsetsOk_iff o).trans ⟨fun h k hk => Option.some.inj hk ▸ h, fun h => h o rfl⟩

theorem boundOk_iff (b : Vector Bool 7) : boundOk b = true ↔ ∃ c, b.get c = true := by
  simp only [boundOk, List.any_eq_true, id]
  constructor
  · rintro ⟨x, hx, rfl⟩
    obtain ⟨i, hi, h⟩ := List.getElem_of_mem hx
    exact ⟨⟨i, by simpa using hi⟩, by simpa [Vector.get] using h⟩
  · rintro ⟨c, hc⟩
    exact ⟨_, by rw [← hc]; simp [Vector.get], rfl⟩

theorem fanRanges_iff (r : FanSettings) : r.ok = true ↔
    curveOk r.curve = true ∧ (∃ c, r.bound.get c = true) ∧ (150 ≤ r.spinFloor ∧ r.spinFloor ≤ 600)
      ∧ (r.quietCap = 0 ∨ r.spinFloor ≤ r.quietCap ∧ r.quietCap ≤ 1000) ∧ 60 ≤ r.stallSpeed ∧ r.stallSpeed ≤ 3000 := by
  rw [fanSettingsOk_iff, boundOk_iff, fanParamsOk_iff]

theorem orientOffsets_iff (v : Vector OrientOffsets 7) : v.toList.all OrientOffsets.ok = true ↔
    ∀ o ∈ v.toList, (-200 ≤ o.floor ∧ o.floor ≤ 200) ∧ -200 ≤ o.ceiling ∧ o.ceiling ≤ 200 := by
  simp only [List.all_eq_true, OrientOffsets.ok, Bool.and_eq_true, within_iff]

theorem thresholds_iff (v : Vector Threshold 7) : v.toList.all Threshold.ok = true ↔
    ∀ r ∈ v.toList, (-400 ≤ r.ts ∧ r.ts ≤ 1500) ∧ (-400 ≤ r.tt ∧ r.tt ≤ 1500) ∧ 50 ≤ r.tt - r.ts := by
  rw [List.all_eq_true]
  exact forall₂_congr fun _ _ => thresholdOk_iff _ _

theorem protRanges_iff (g : ProtSettings) : g.ok = true ↔
    (200 ≤ g.floor ∧ g.floor ≤ 800) ∧ (10 ≤ g.rise ∧ g.rise ≤ 1000) ∧ (0 ≤ g.gain ∧ g.gain ≤ 255)
      ∧ 0 ≤ g.afterrun ∧ g.afterrun ≤ 300 :=
  protSettingsOk_iff ⟨g.floor, g.rise, g.gain, g.afterrun⟩

theorem slots_iff (v : Vector (Option SlotRec) 10) : (∀ r ∈ v.toList, ∀ q, r = some q → q.ok = true) ↔
    ∀ q, some q ∈ v.toList → q.ok = true :=
  ⟨fun h q hq => h _ hq q rfl, fun h _ hr q hq => h q (hq ▸ hr)⟩

/-! ## What the load gives (11 R183) -/

section
variable {i : Image}

theorem wordMatches_iff : wordMatches i = true ↔ i.word = some (checkWord i.contents i.saveCount) := decide_eq_true_iff

theorem loadResult_loaded (h : i.word = some (checkWord i.contents i.saveCount)) (hs : i.contents.sound = true) :
    loadResult i = .loaded := by
  rw [loadResult, if_pos (wordMatches_iff.2 h), if_pos hs]

theorem loadResult_range (h : i.word = some (checkWord i.contents i.saveCount)) (hs : i.contents.sound = false) :
    loadResult i = .defaultsRange := by
  rw [loadResult, if_pos (wordMatches_iff.2 h), if_neg (by simp [hs])]

theorem loadResult_check (h : ¬ i.word = some (checkWord i.contents i.saveCount)) : loadResult i = .defaultsCheck :=
  if_neg (mt wordMatches_iff.1 h)

theorem loadedCount_defaults {r : LoadResult} (h : r ≠ .loaded) : loadedCount i r = 0 := by
  cases r with
  | loaded => exact absurd rfl h
  | defaultsCheck | defaultsRange => rfl

theorem trigStateOf_load (m : TrigMode) : trigStateOf m false = match m with | .sync => .syncFallback | .free => .freeRun := by
  cases m <;> rfl

theorem resetOrientation_floor (o : OrientSetting) : resetOrientation o = .floor ↔ o = .floor := by
  cases o <;> simp [resetOrientation]

end

theorem protAtFaults_kept (tco drvflt : Bool) (n : Int) (q : Protection) :
    let p := protAtFaults tco drvflt n q
    p.lightRequest = q.lightRequest ∧ p.running = q.running ∧ (q.lsen = false → p.lsen = false) ∧ p.raw = q.raw
      ∧ p.channelTerm = q.channelTerm ∧ p.shortfallDerate = q.shortfallDerate := by
  cases tco with
  | true => exact ⟨rfl, rfl, fun _ => rfl, rfl, rfl, rfl⟩
  | false =>
    cases drvflt with
    | true => exact ⟨rfl, rfl, fun _ => rfl, rfl, rfl, rfl⟩
    | false => exact ⟨rfl, rfl, id, rfl, rfl, rfl⟩

theorem tiltInset_level (g : GeoRecord) (band : Nat) (p : Int) : tiltInset g band p p = 0 := by
  unfold tiltInset
  rw [Int.sub_self, Int.zero_mul]
  exact ite_self 0

end Sys2Proof.Machine
end

section
/-! The load completion after a reset (11 R182, R183, R188). -/

namespace Sys2Proof.Machine

theorem sound_clauses (g : Settings) :
    let lies (lo hi v : Int) : Prop := lo ≤ v ∧ v ≤ hi
    g.sound = true ↔
      (lies 1 16 g.round.length ∧ lies 1 16 g.trigger.divider ∧ g.trigger.delay ≤ 10000 ∧ lies 5 1000 g.trigger.period)
      ∧ (∀ t ∈ g.tables.toList, ∀ v ∈ t.toList, lies (-400) 1500 v)
      ∧ (∀ c, lies 0 4095 (g.angle.get c).zeroCode ∧ lies 1 1023 (g.angle.get c).scale)
      ∧ (lies 5 100 g.att.deadband ∧ lies (-9000) 9000 g.att.vertZero ∧ lies 1000 8000 g.att.threshold
        ∧ lies 100 3000 g.att.rollLimit)
      ∧ (lies 1280 4096 g.geo.width ∧ lies 720 2400 g.geo.height ∧ lies 0 2048 g.geo.fineLimit
        ∧ (∀ d ∈ [g.geo.offsets.tl, g.geo.offsets.tr, g.geo.offsets.bl, g.geo.offsets.br],
          lies (-15360) 15360 d.x ∧ lies (-15360) 15360 d.y)
        ∧ ∀ v ∈ g.geo.coeff.toList, lies 0 1023 v)
      ∧ (∀ d ∈ g.layer.toList,
        lies (-g.geo.fineLimit) g.geo.fineLimit d.x ∧ lies (-g.geo.fineLimit) g.geo.fineLimit d.y)
      ∧ ((∀ x, (g.axes.get x).ok = true) ∧ lies 100 1000 g.jogTimeout)
      ∧ (∀ q, some q ∈ g.slots.toList →
        (∀ l, q.label = some l → lies 1 12 l.length ∧ ∀ c ∈ l, lies 32 126 c.toNat)
        ∧ ∀ o, q.offsets = some o →
          ∀ d ∈ [o.tl, o.tr, o.bl, o.br], lies (-15360) 15360 d.x ∧ lies (-15360) 15360 d.y)
      ∧ (lies (-255) 255 g.fc.k ∧ lies (-400) 1500 g.fc.tRef ∧ lies 0 2000 g.fc.limit ∧ lies 1 255 g.fc.deadband)
      ∧ (∀ f,
        let r := g.fans.get f
        curveOk r.curve = true ∧ (∃ c, r.bound.get c = true) ∧ lies 150 600 r.spinFloor
          ∧ (r.quietCap = 0 ∨ lies r.spinFloor 1000 r.quietCap) ∧ lies 60 3000 r.stallSpeed)
      ∧ ((∀ o ∈ g.offsets.toList, lies (-200) 200 o.floor ∧ lies (-200) 200 o.ceiling) ∧ lies 1 1000 g.slew)
      ∧ (∀ r ∈ g.thresholds.toList, lies (-400) 1500 r.ts ∧ lies (-400) 1500 r.tt ∧ 50 ≤ r.tt - r.ts)
      ∧ lies 200 800 g.prot.floor ∧ lies 10 1000 g.prot.rise ∧ lies 0 255 g.prot.gain ∧ lies 0 300 g.prot.afterrun := by
  intro lies
  have hangle : (g.angle.pitch.ok = true ∧ g.angle.roll.ok = true ∧ g.angle.vert.ok = true) ↔
      ∀ c, (g.angle.get c).ok = true :=
    ⟨fun ⟨hp, hr, hv⟩ c => by cases c <;> assumption, fun h => ⟨h .pitch, h .roll, h .vert⟩⟩
  rw [sound_iff]
  constructor
  · intro h
    obtain ⟨hdivider, hdelay, hperiod⟩ := (triggerOk_iff _).1 h.trigger
    exact ⟨⟨(roundOk_iff _).1 h.round, hdivider, hdelay, hperiod⟩, (tablesOk_iff _).1 h.tables,
      fun c => (angleSettingsOk_iff _).1 (hangle.1 h.angle c), (attSettingsOk_iff _).1 h.att, (geoRanges_iff _).1 h.geo,
      (layerRanges_iff _ _).1 h.layer, ⟨h.axes, (within_iff _ _ _).1 h.jogTimeout⟩,
      fun q hq => (slotOk_iff q).1 ((slots_iff _).1 h.slots q hq), (fcOk_iff _).1 h.fc,
      fun f => (fanRanges_iff _).1 (h.fans f), ⟨(orientOffsets_iff _).1 h.offsets, (within_iff _ _ _).1 h.slew⟩,
      (thresholds_iff _).1 h.thresholds, (protRanges_iff _).1 h.prot⟩
  · rintro ⟨⟨hround, hdivider, hdelay, hperiod⟩, htables, hang, hatt, hgeo, hlayer, ⟨haxes, hjog⟩, hslots, hfc, hfans,
      ⟨hoffsets, hslew⟩, hthresholds, hprot⟩
    exact {
      round := (roundOk_iff _).2 hround
      trigger := (triggerOk_iff _).2 ⟨hdivider, hdelay, hperiod⟩
      tables := (tablesOk_iff _).2 htables
      angle := hangle.2 fun c => (angleSettingsOk_iff _).2 (hang c)
      att := (attSettingsOk_iff _).2 hatt
      geo := (geoRanges_iff _).2 hgeo
      layer := (layerRanges_iff _ _).2 hlayer
      axes := haxes
      jogTimeout := (within_iff _ _ _).2 hjog
      slots := (slots_iff _).2 fun q hq => (slotOk_iff q).2 (hslots q hq)
      fc := (fcOk_iff _).2 hfc
      fans := fun f => (fanRanges_iff _).2 (hfans f)
      offsets := (orientOffsets_iff _).2 hoffsets
      slew := (within_iff _ _ _).2 hslew
      thresholds := (thresholds_iff _).2 hthresholds
      prot := (protRanges_iff _).2 hprot }

/-- The clauses on the Geometry Unit after its first composition. -/
theorem firstGeometry_clauses (g : GeoRecord) (o : Orientation) (p : Int) {q : Geometry} (hb : q.band = 0)
    (hi : q.inset = 0) (hc : q.clamped = false) (hn : q.corners = nominal g.width g.height) :
    let a := candidateOf g 0 p p o
    let ok := shapeOk g.width g.height a.corners
    let t := firstGeometry g a q
    t.band = 0 ∧ t.inset = 0 ∧ t.held = !ok ∧ t.corners = (if ok then a.corners else nominal g.width g.height)
      ∧ t.clamped = (ok && a.clamp.isSome)
      ∧ t.clip = (match a.clamp with
          | none => .clear
          | some k => .corner k.1 k.2) := by
  intro a ok t
  have hinset : a.inset = 0 := tiltInset_level g 0 p
  have hclip : clipOf a.clamp = (match a.clamp with
      | none => .clear
      | some k => .corner k.1 k.2) := by cases a.clamp <;> rfl
  cases hok : ok with
  | true =>
    have ht : t = { q with
        corners := a.corners, clamped := a.clamp.isSome, inset := a.inset, held := false, clip := clipOf a.clamp } :=
      if_pos hok
    rw [ht]
    exact ⟨hb, hinset, rfl, rfl, rfl, hclip⟩
  | false =>
    have ht : t = { q with held := true, clip := clipOf a.clamp } := if_neg (by simp [ok] at hok; simp [hok])
    rw [ht]
    exact ⟨hb, hi, rfl, hn, hc, hclip⟩

theorem protAtFaults_clauses (tco drvflt : Bool) (n : Int) (q : Protection) :
    let p := protAtFaults tco drvflt n q
    (tco = false → drvflt = false → p = q) ∧ (tco = true → p.trip = some .tco ∧ p.allowance = 0)
      ∧ (tco = false → drvflt = true → p.trip = some .drvflt ∧ p.allowance = 0) := by
  refine ⟨?_, ?_, ?_⟩
  · rintro rfl rfl
    rfl
  · rintro rfl
    exact ⟨rfl, rfl⟩
  · rintro rfl rfl
    exact ⟨rfl, rfl⟩

theorem storeError_mem_startKinds {w : State} (h : w.store.result ≠ .loaded) : .storeError ∈ startKinds w := by
  unfold startKinds loadKinds
  rw [if_neg h]
  simp

/-- The settings, the result and the save count that the load takes from an image. -/
theorem load_clauses (i : Image) :
    let r := loadResult i
    (i.word = some (checkWord i.contents i.saveCount) → i.contents.sound = true →
      loadedSettings i r = i.contents ∧ r = .loaded ∧ loadedCount i r = i.saveCount)
    ∧ (i.word = some (checkWord i.contents i.saveCount) → i.contents.sound = false →
      loadedSettings i r = defaultSettings ∧ r = .defaultsRange)
    ∧ (¬ i.word = some (checkWord i.contents i.saveCount) → loadedSettings i r = defaultSettings ∧ r = .defaultsCheck) := by
  refine ⟨fun hw hs => ?_, fun hw hs => ?_, fun hw => ?_⟩
  · rw [loadResult_loaded hw hs]
    exact ⟨rfl, rfl, rfl⟩
  · rw [loadResult_range hw hs]
    exact ⟨rfl, rfl⟩
  · rw [loadResult_check hw]
    exact ⟨rfl, rfl⟩

/-- Settles O47: the ranges are the checks, the defaults are as printed, and startUp_state says what each unit holds. -/
theorem loadCompletion : Obligations.LoadCompletion := by
  unfold Obligations.LoadCompletion
  refine ⟨sound_clauses, ?_, fun s c => ?_⟩
  · intro g axis fan
    refine ⟨⟨rfl, rfl, fun k => ?_, fun k => ?_, fun k => by cases k <;> rfl⟩, ⟨rfl, rfl, rfl⟩, ⟨rfl, fun d hd => ?_⟩,
      ⟨rfl, rfl, rfl, rfl, rfl⟩, ⟨fun k => ?_, rfl, rfl⟩, ⟨?_, ?_, ?_, rfl, rfl, rfl⟩, ⟨rfl, rfl⟩, rfl, rfl⟩
    · exact congrArg Vector.toList (Vector.getElem_replicate ..)
    · exact Vector.getElem_replicate ..
    · exact (Vector.mem_replicate.1 (Vector.mem_toList_iff.1 hd)).2
    · exact Vector.getElem_replicate ..
    · exact congrArg (fun b => (⟨_, b, 250, 450, 300⟩ : FanSettings)) (by decide)
    · exact congrArg (fun b => (⟨_, b, 250, 450, 300⟩ : FanSettings)) (by decide)
    · exact congrArg (fun b => (⟨_, b, 250, 450, 300⟩ : FanSettings)) (by decide)
  · intro u i match' hheld
    let w := takeSettings u
    obtain ⟨v, m, q, hstart, hq, hmotion⟩ := startUp_state c s
    refine ⟨{ unitsStarted w q with axes := v, mq := m }, ?_, ?_⟩
    · refine congrArg Host.Outcome.next (Eq.trans ?_ hstart)
      exact if_neg (by simp [hheld])
    have hkinds (p : Port) : (q.events.get p).kinds = startKinds w := congrArg EventSet.kinds (hq p)
    obtain ⟨hloaded, hrange, hcheck⟩ := load_clauses i
    obtain ⟨hband, hinset, hheldGeo, hcorners, hclamped, hclip⟩ :=
      firstGeometry_clauses w.set.geo w.att.effective w.set.pRef (q := w.geo) rfl rfl rfl rfl
    let prot : Protection := { w.prot with allowance := w.set.prot.floor, running := true }
    obtain ⟨hlight, hrunning, hlsen, hraw, hterm, hderate⟩ :=
      protAtFaults_kept w.inputs.tco.level w.inputs.drvflt.level w.set.prot.afterrun prot
    obtain ⟨hclear, htco, hdrvflt⟩ :=
      protAtFaults_clauses w.inputs.tco.level w.inputs.drvflt.level w.set.prot.afterrun prot
    refine ⟨hloaded, hrange, hcheck, ?error, rfl, rfl, rfl, rfl, rfl, hheld, rfl, hlight, ?headA, ?headB,
      congrArg EventSet.cause (hq .a), congrArg EventSet.cause (hq .b), rfl, ?fans, hrunning, hlsen rfl, hraw,
      hterm, hderate, trigStateOf_load _, ?clear, htco, hdrvflt, rfl, resetOrientation_floor _, hmotion.faulted, hmotion.homing,
      fun hm ha => ⟨(hmotion.nothing ha).1, hmotion.unhomed hm ha⟩,
      ⟨hband, hinset, hheldGeo, hcorners, hclamped, hclip, rfl, rfl, rfl, rfl, rfl, rfl, ?kinds⟩,
      hmotion.nothing, ?running, hmotion.ended⟩
    case error =>
      intro hr
      have hmem := storeError_mem_startKinds (w := w) hr
      exact ⟨loadedCount_defaults hr, hkinds .a ▸ hmem, hkinds .b ▸ hmem⟩
    case headA => exact (congrArg List.head? (hkinds .a)).trans rfl
    case headB => exact (congrArg List.head? (hkinds .b)).trans rfl
    case fans => exact fun f => by cases f <;> exact ⟨rfl, rfl⟩
    case clear =>
      intro ht hd
      have hp := hclear ht hd
      exact ⟨congrArg Protection.trip hp, congrArg Protection.allowance hp⟩
    case kinds =>
      intro p
      refine (hkinds p).trans ?_
      unfold startKinds loadKinds composeKinds
      simp only [List.append_assoc]
      rfl
    case running =>
      intro ha hm
      obtain ⟨n, h, hrequests, hsource, hkind, haxes, htag, hdispatched, hheldBy⟩ := hmotion.running ha hm
      refine ⟨h, _, hrequests, hsource, hkind, haxes, htag, hdispatched, hheldBy, fun hp => ?_, fun k hk => ?_⟩
      · exact congrArg (startRecall n) hp
      · exact ⟨_, congrArg (startRecall n) hk, rfl, rfl, rfl, rfl, rfl, rfl⟩

end Sys2Proof.Machine
end
